-- ==== Sys2Proof/Word.lean ====
section
/-! DEFINITION. The word types of the model. -/

namespace Sys2Proof

/-- A register, an operand of the host or a word of an engine's memory (R4: all registers are 32 bits wide). -/
abbrev Word := BitVec 32

/-- A byte of a frame or of a memory, least significant bit first (R3). -/
abbrev Byte := BitVec 8

end Sys2Proof
end

