-- ==== Sys2Proof/Syntax.lean ====
section
/-! DEFINITION. The commands of the block: writes and reads of its registers, frames and groups that arrive on its
ports, events on its pins, expiries of its timers, and the instructions that its engines issue.  The table of
operations and events gives the rows no bit fields, so the operands are the model's own. -/

namespace Sys2Proof

/-- The path of a register access (R310, R537, R622): PCI Express, SPI, or an instruction of the FIC. -/
inductive Path where
  | pcie | spi | fic
  deriving DecidableEq, Repr

/-- A monitored island clock (R21). -/
inductive Island where
  | hub | mgmt | polder (p : Fin 8)
  deriving DecidableEq, Repr

/-- A code group that a lane receiver takes (R103, R105): a data byte, K27.7, K29.7, K28.0, K28.5, or an invalid code
group, which any other K code group is too.  The group of K28.3 is an ECHO_GROUP. -/
inductive Sym where
  | data (b : Byte) | start | stop | resume | idle | bad
  deriving DecidableEq, Repr

/-- What the LED driver's senses measure in one bit of a symbol slot (R169): the bit, the sense current in 1/16 mA and the
LED forward voltage in 10 mV. -/
structure LedBit where
  one  : Bool
  cur  : BitVec 12
  volt : BitVec 9
  deriving DecidableEq, Repr

/-- How the characters of a received sluice frame end (R226): with K29.7, with an invalid character, or cut short. -/
inductive FrameEnd where
  | whole | framing | cut
  deriving DecidableEq, Repr


/-- The commands of the block: one constructor per row of the table of operations and events. -/
inductive Instr where
  /-- REGISTER_WRITE (R4): A host or FIC write to a register field that has no row of its own takes effect by the
  field's type; a partial-byte write is discarded. -/
  | registerWrite (path : Path) (woff : BitVec 18) (v : Word) (be : BitVec 4)
  /-- RC_READ (R8): A read of an RC field returns its value and returns the field to its reset value. -/
  | rcRead (path : Path) (woff : BitVec 18) (be : BitVec 4)
  /-- WIDE_READ_LOW (R9): A read of the lowest word of a wide quantity copies the upper words into the shadow. -/
  | wideReadLow (path : Path) (woff : BitVec 18) (be : BitVec 4)
  /-- TIDELINE_STROBE (R20): Every 64 ns the tideline is distributed to every island and each local replica is
  corrected. -/
  | tidelineStrobe (phases : BitVec 48)
  /-- CLOCK_MONITOR_FAULT (R21): An island clock deviates by more than 1 % over 10 µs or stops; breach source 30 is
  raised and its GLB_ISLAND bit clears. -/
  | clockMonitorFault (isl : Island)
  /-- TERP_CLOCK_COMPARE (R22): At the end of each 1 ms interval the terp oscillator is compared against REFCLK,
  raising source 37 on a deviation above 3 %. -/
  | terpClockCompare (deviates : Bool)
  /-- MGMT_ENGINE_STOP (R24): The management engine stops on a double-bit error or a firmware exception; source 47
  becomes active. -/
  | mgmtEngineStop (ecc : Bool) (addr : BitVec 24) (syndrome : BitVec 7)
  /-- MGMT_SUPERVISOR_TIMEOUT (R24): 3 s pass without a ledger tick and the supervisor stops the management engine. -/
  | mgmtSupervisorTimeout
  /-- MGMT_ENGINE_RESTART (R24): The supervisor finishes reloading the vendor firmware from ROM and restarts the
  management engine. -/
  | mgmtEngineRestart
  /-- HOST_MODE_REQUEST (R51): A write of GLB_MODE_REQ issues a host mode request, decided by the checks of R51. -/
  | hostModeRequest (park : Bool) (target : BitVec 4) (same : Bool)
  /-- AUTO_FILL (R47): The device leaves SURVEY for FILL by itself once the guards hold and AUTO_FILL is 1. -/
  | autoFill
  /-- AUTO_RUN (R47): The device leaves FILL for the run model by itself once the guards hold and AUTO_RUN is 1. -/
  | autoRun
  /-- HOLD_LIMIT (R43): At the cut-off of HOLD deckle LIMIT + 1 every context takes its safe aspect and source 49 is
  raised. -/
  | holdLimit
  /-- DECKLE_BOUNDARY (R60): The deckle NCO reaches B(n+1), fixes the next period and advances the deckle number. -/
  | deckleBoundary
  /-- TIDE_TGT_WRITE (R64): A host write of the high word of TIDE_TGT requests a new NCO target, accepted or refused
  by range, window and source. -/
  | tideTgtWrite (hi : BitVec 16) (same : Bool)
  /-- JUMP (R69): A write of TIDE_CTRL.JUMP requests a one-step period jump at the next boundary. -/
  | jump
  /-- RERANGE (R67): A write of TIDE_CTRL.RERANGE on a MASTER restarts ranging of all slaves. -/
  | rerange
  /-- TIME_MARK_LAUNCH (R75): The time mark of deckle n is launched on a bound lane at g(n) − 32 ns − D_out(L). -/
  | timeMarkLaunch (L : Fin 144)
  /-- RANGE_REQUEST (R80): The device sends a RANGE request on a lane at the ranging rate. -/
  | rangeRequest (L : Fin 144) (t : BitVec 64)
  /-- RANGE_REPLY (R128): A RANGE reply is received and yields a ranging sample. -/
  | rangeReply (L : Fin 144) (t : BitVec 64) (cur : BitVec 20) (syms : List Sym)
  /-- RANGE_TIMEOUT (R128): No matching RANGE reply arrives within 20 µs of t_tx; no sample is taken. -/
  | rangeTimeout (L : Fin 144)
  /-- TIDE_TIME_SEND (R85): A MASTER sends a TIME frame every 2,000 ns on TIDE_OUT. -/
  | tideTimeSend
  /-- TIDE_POLL_SEND (R85): After every 64th TIME frame a MASTER sends a POLL to the next slave. -/
  | tidePollSend (t : BitVec 64)
  /-- TIDE_TIME_RECEIVE (R87): A slave receives a TIME frame and sets or slews its tideline and copies the deckle
  data. -/
  | tideTimeReceive (t : BitVec 80) (bs : List Byte)
  /-- TIDE_TIME_MISSING (R88): A slave's expected TIME frame is missing or fails its CRC; after 4 it enters
  SYNC_HOLDOVER. -/
  | tideTimeMissing
  /-- TIDE_POLL_RECEIVE (R85): A slave receives a POLL addressed to it. -/
  | tidePollReceive (bs : List Byte)
  /-- TIDE_ECHO_SEND (R85): A slave enables TIDE_OUT and sends its ECHO within 10 µs of the POLL. -/
  | tideEchoSend (turn : Word)
  /-- TIDE_ECHO (R87): The MASTER receives an ECHO on TIDE_RET and updates D_k. -/
  | tideEcho (t : BitVec 64) (bs : List Byte)
  /-- TIDE_ECHO_TIMEOUT (R88): An awaited ECHO fails; after 4 in succession the MASTER raises source 28. -/
  | tideEchoTimeout
  /-- LOCKSENSE_QUALIFY (R580): Three agreeing LOCKSENSE samples change the qualified state. -/
  | locksenseQualify (high : Bool)
  /-- HOLDOVER_ENTRY (R91): LOCKSENSE stays qualified low for 10 µs and the tideline PLL enters holdover. -/
  | holdoverEntry
  /-- REFCLK_LOSS (R579): No REFCLK edge for 200 ns forces holdover. -/
  | refclkLoss
  /-- HOLDOVER_RELOCK (R92): LOCKSENSE has been qualified high for RELOCK_MS and the device switches back to REFCLK. -/
  | holdoverRelock
  /-- HOLDOVER_EXIT (R92): The frequency pull-back completes; HOLDOVER clears and event 184 is raised. -/
  | holdoverExit
  /-- CLKOUT_CONFIG (R95): A write of TIDE_CLKOUT changes or disables CLKOUT after the current high phase. -/
  | clkoutConfig (en : Bool) (sel : BitVec 3)
  /-- LINK_SYNC_ACQUIRE (R102): A lane receiver reaches sync after 4 aligned K28.5. -/
  | linkSyncAcquire (L : Fin 144) (cur : BitVec 20)
  /-- LINK_SYNC_LOSS (R102): A lane receiver leaves sync after 4 invalid code groups within 16. -/
  | linkSyncLoss (L : Fin 144) (cur : BitVec 20) (syms : List Sym)
  /-- LOSS_OF_LIGHT (R139): DLOS passes without a valid symbol on a lane and loss of light is declared. -/
  | lossOfLight (L : Fin 144) (cur : BitVec 20) (syms : List Sym)
  /-- RETURN_MISS (R198): RMISS consecutive deckles pass without an accepted RETURN and the context becomes LOST with
  NORETURN. -/
  | returnMiss (c : Fin 128)
  /-- DARK_INTERVAL_END (R199): The dark interval of a LOST context's lane ends and the lane becomes a reserved survey
  lane. -/
  | darkIntervalEnd (L : Fin 144)
  /-- RETURN_FRAME (R159): A RETURN frame is received on a bound lane and accepted or discarded under its checks and
  sequence. -/
  | returnFrame (L : Fin 144) (cur : BitVec 20) (syms : List Sym) (ovf : Bool)
  /-- SNAPSHOT_DEADLINE (R242): The snapshot deadline B(n) + S expires and the SNAPSHOT is released with stale
  entries. -/
  | snapshotDeadline
  /-- TELEM_FRAME (R295): A TELEM frame is received and written as a record into its TELEM race. -/
  | telemFrame (L : Fin 144) (syms : List Sym)
  /-- ECHO_GROUP (R164): An echo group is received on a lane and matched to a proof window or counted. -/
  | echoGroup (L : Fin 144) (t : BitVec 64) (syms : List Sym) (bads : Fin 4) (a b crc : Byte) (ovf : Bool)
  /-- PROOF_WINDOW_CLOSE (R163): A proof window closes without a matching echo and the outcome is SILENT. -/
  | proofWindowClose (c : Fin 128) (ssq : Byte) (idx : Fin 4) (t : BitVec 64)
  /-- PROOF_RECORD_RELEASE (R174): A proof record is released to the sluice port, mailbox, race, events and counters. -/
  | proofRecordRelease (c : Fin 128) (ovf : Bool)
  /-- PROOF_SUMMARY_BREACH (R175): FAILLIM consecutive target deckles with failures raise breach source 50. -/
  | proofSummaryBreach (c : Fin 128)
  /-- SHEET_LAUNCH (R152): A dispatched sheet is sent on its lane with device-owned fields filled and proof windows
  scheduled. -/
  | sheetLaunch (L : Fin 144) (t0 t1 : BitVec 64) (within : BitVec 10)
  /-- BEACON (R187): A BEACON is sent on a survey lane in deckles with n mod 16 = L mod 16. -/
  | beacon (L : Fin 144)
  /-- ADMIT_REQUEST (R189): An ADMIT request is received on a survey lane and decided by the admission rows. -/
  | admitRequest (L : Fin 144) (syms : List Sym) (also : List (Fin 144 × List Sym))
  /-- APPROVE (R192): A write of CTX_APPROVE.APPROVE admits the head entry's cell to a context. -/
  | approve (ctx : Byte) (same : Bool)
  /-- DENY (R192): A write of CTX_APPROVE.DENY refuses the head entry's cell. -/
  | deny (same : Bool)
  /-- RETIRE (R203): A write of CTX_CMD.RETIRE makes a context RETIRING or FREE. -/
  | retire (c : Fin 128)
  /-- RESUME (R239): A write of CTX_CMD.RESUME releases a SAFEHOLD context on source S. -/
  | resume (c : Fin 128)
  /-- RELOCATE (R204): A write of CTX_RELOC.GO moves a context to a spare lane in SERVICE. -/
  | relocate (path : Path) (c : Fin 128) (L : Byte) (same : Bool)
  /-- MGMT_RESPONSE (R115): A MGMT RESP or NACK frame from the cell is received and written back. -/
  | mgmtResponse (L : Fin 144) (syms : List Sym)
  /-- MGMT_TIMEOUT (R115): A MGMT request has no answer after 2 ms and fails with TIMEOUT. -/
  | mgmtTimeout (q : Fin 32)
  /-- BULK_FRAME_RECEIVE (R133): A BULK frame from a cell is received, accepted or discarded, and its CACK and NEXT
  are taken. -/
  | bulkFrameReceive (L : Fin 144) (syms : List Sym)
  /-- BULK_PACKET_SEND (R132): The device sends a BULK data packet to a cell when credit allows. -/
  | bulkPacketSend (L : Fin 144)
  /-- BULK_RESEND_TIMEOUT (R134): NEXT has not advanced for 500 µs and the sender resends from NEXT. -/
  | bulkResendTimeout (L : Fin 144)
  /-- BULK_CREDIT_REPORT (R133): A CREDIT_ONLY frame reports changed CACK and NEXT within 50 µs. -/
  | bulkCreditReport (L : Fin 144)
  /-- LED_DARK_LATCH (R170): A lane's DARK counter reaches 30 and LED_DARK latches. -/
  | ledDarkLatch (L : Fin 144) (slots : List (List LedBit))
  /-- LED_LIT_LATCH (R170): A lane's LIT counter reaches 30 and LED_LIT latches. -/
  | ledLitLatch (L : Fin 144) (slots : List (List LedBit))
  /-- LED_REARM (R172): A write of LANE_LED.REARM in SERVICE clears the LED latches and restores drive. -/
  | ledRearm (path : Path) (L : Fin 144)
  /-- SLUICE_SYNC_ACQUIRE (R220): A sluice receiver reaches sync and its state reads UP. -/
  | sluiceSyncAcquire (k : Fin 2)
  /-- SLUICE_SYNC_LOSS (R221): A sluice lane leaves sync; source 25 + k is raised in the run modes. -/
  | sluiceSyncLoss (k : Fin 2) (codes : Byte) (openFrame : Bool)
  /-- REAM_FRAME (R229): A REAM frame is received and checked for form, sequence, map, time and duplicates. -/
  | reamFrame (k : Fin 2) (ta : BitVec 64) (fr : FrameEnd) (bs : List Byte) (ovf : List (Fin 128))
  /-- REAM_CUTOFF (R237): At C(m) held sheets are dispatched and contexts without a sheet repeat. -/
  | reamCutoff (ovf : List (Fin 128))
  /-- SAFEHOLD_ENTRY (R238): HC reaches the hold limit; the context takes the safe aspect in SAFEHOLD and source 49 is
  raised. -/
  | safeholdEntry (c : Fin 128)
  /-- SLUICE_TRANSMIT (R245): A free sluice transmitter builds one frame of the oldest waiting kind. -/
  | sluiceTransmit (k : Fin 2) (now : BitVec 64)
  /-- CTRL_MODE (R248): A CTRL MODE request from the engine is decided as a mode request. -/
  | ctrlMode (k : Fin 2) (tag : Byte) (args : List Byte) (same : Bool)
  /-- CTRL_TARGET (R248): A CTRL TARGET request sets the NCO target if accepted. -/
  | ctrlTarget (k : Fin 2) (tag : Byte) (args : List Byte)
  /-- CTRL_COUCH (R248): A CTRL COUCH request asks for a couch to the named source. -/
  | ctrlCouch (k : Fin 2) (tag : Byte) (args : List Byte) (same : Bool)
  /-- CTRL_PING (R248): A CTRL PING request is answered with tideline timestamps. -/
  | ctrlPing (k : Fin 2) (tag : Byte) (t : BitVec 64) (args : List Byte)
  /-- CTRL_STATUS (R248): A CTRL STATUS request is answered with the lane's link, error and freeboard words. -/
  | ctrlStatus (k : Fin 2) (tag : Byte) (args : List Byte)
  /-- CTRL_UNKNOWN (R249): A CTRL request with an unknown OP or bad arguments is answered with OP 0xFF. -/
  | ctrlUnknown (k : Fin 2) (op tag : Byte)
  /-- COUCH_REQUEST (R261): A host write of COUCH_REQ requests a couch, decided by the rows of R261. -/
  | couchRequest (src pol : BitVec 2) (same : Bool)
  /-- COUCH_CANCEL (R270): A write of COUCH_REQ.CANCEL returns every context to the outgoing source. -/
  | couchCancel
  /-- COUCH_TIMEOUT (R267): The couch timeout expires and FORCE or ABORT applies to the remaining contexts. -/
  | couchTimeout
  /-- PCIE_LINK_DOWN (R284): The PCIe link goes down; every enabled race stops with ERR LINK. -/
  | pcieLinkDown
  /-- FUNCTION_LEVEL_RESET (R284): A function level reset resets configuration space and stops the races. -/
  | functionLevelReset
  /-- PCIE_LINK_UP (R284): The PCIe link comes up and event 188 is raised. -/
  | pcieLinkUp (w gen : Fin 3)
  /-- DMA_ERROR (R285): A race read receives an error completion or times out; the race stops with ERR DMA. -/
  | dmaError (q : Fin 32) (readable : Bool) (c : Fin 128) (bs : List Byte)
  /-- RACE_ENABLE (R286): A write of RACE_CFG.EN enables a race or is refused for kind or VAT holder. -/
  | raceEnable (q : Fin 32) (v : Word)
  /-- RACE_DOORBELL (R290): A write of RACE_TAIL posts descriptors or stops the race on a bad value. -/
  | raceDoorbell (q : Fin 32) (v : Word)
  /-- DESCRIPTOR_FETCH (R290): A fetched descriptor arrives and is checked for sequence and form. -/
  | descriptorFetch (q : Fin 32) (bs data : List Byte)
  /-- BULK_OUT_PACKET_READ (R298): A BULK_OUT packet is read from host memory when a staging buffer is free. -/
  | bulkOutPacketRead (q : Fin 32) (c : Fin 128) (data : List Byte)
  /-- DESCRIPTOR_COMPLETE (R291): The device writes back a completed descriptor with STATUS, DLEN and STAMP. -/
  | descriptorComplete (q : Fin 32)
  /-- RACE_IRQ_TIMER (R294): The coalescing time passes since the first unsignalled completion and the race event is
  raised. -/
  | raceIrqTimer (q : Fin 32)
  /-- RACE_FLUSH_TIMER (R296): FLUSH µs after its first record a partly filled TELEM or PROOF buffer completes. -/
  | raceFlushTimer (q : Fin 32)
  /-- RACE_STOP (R308): A write of RACE_CTRL.STOP stops fetching and cuts short the current transfer. -/
  | raceStop (q : Fin 32)
  /-- RACE_RESUME (R315): A write of RACE_CTRL.RESUME clears STOPPED and fetching continues from HEAD. -/
  | raceResume (q : Fin 32)
  /-- RACE_REARM (R309): A write of RACE_CTRL.REARM re-reads base and size and sets HEAD and TAIL to NSEQ. -/
  | raceRearm (q : Fin 32)
  /-- VAT_ARM (R305): A write of RACE_VAT_CTRL.ARM arms the vat capture. -/
  | vatArm
  /-- VAT_TRIGGER (R305): A write of RACE_VAT_CTRL.TRIG triggers the vat capture. -/
  | vatTrigger
  /-- VAT_DISCARD (R306): A write of RACE_VAT_CTRL.DISCARD returns the vat to IDLE. -/
  | vatDiscard
  /-- VAT_FREEZE (R305): POST records after the trigger have been written and the vat becomes FROZEN. -/
  | vatFreeze
  /-- VAT_PORT_READ (R322): A read of RACE_VAT_PORT returns and consumes the next 4 drain bytes. -/
  | vatPortRead
  /-- GPIO_VAT_TRIG (R600): A qualified rising edge on the VAT_TRIG GPIO triggers the vat. -/
  | gpioVatTrig (pin : Fin 8)
  /-- SPI_WRITE_FRAME (R310): A 9-byte SPI write frame ends with SPI_CS_N rising and writes a register if valid. -/
  | spiWriteFrame (bs : List Byte)
  /-- SPI_READ_FRAME (R310): An SPI read frame returns STATUS and data once its request CRC is valid. -/
  | spiReadFrame (bs : List Byte)
  /-- POLDER_RUN_START (R325): At B(m − 1) + START the polder engine starts the run for target m. -/
  | polderRunStart (p : Fin 8)
  /-- RUN_DEADLINE (R327): D(m) passes with the run unfinished; the invocation is abandoned and source 8 + p raised. -/
  | runDeadline (p : Fin 8)
  /-- BUDGET_EXHAUSTED (R346): A context's cycle budget is exhausted and R347 applies. -/
  | budgetExhausted (p : Fin 8)
  /-- PLD_NOP (R333): Polder engine NOP. -/
  | pldNop (p : Fin 8) (w : BitVec 26)
  /-- PLD_ADD (R333): Polder engine ADD. -/
  | pldAdd (p : Fin 8) (w : BitVec 26)
  /-- PLD_SUB (R333): Polder engine SUB. -/
  | pldSub (p : Fin 8) (w : BitVec 26)
  /-- PLD_AND (R333): Polder engine AND. -/
  | pldAnd (p : Fin 8) (w : BitVec 26)
  /-- PLD_OR (R333): Polder engine OR. -/
  | pldOr (p : Fin 8) (w : BitVec 26)
  /-- PLD_XOR (R333): Polder engine XOR. -/
  | pldXor (p : Fin 8) (w : BitVec 26)
  /-- PLD_SHL (R333): Polder engine shift left. -/
  | pldShl (p : Fin 8) (w : BitVec 26)
  /-- PLD_SHR (R333): Polder engine logical shift right. -/
  | pldShr (p : Fin 8) (w : BitVec 26)
  /-- PLD_SAR (R333): Polder engine arithmetic shift right. -/
  | pldSar (p : Fin 8) (w : BitVec 26)
  /-- PLD_MUL (R333): Polder engine multiply, low word. -/
  | pldMul (p : Fin 8) (w : BitVec 26)
  /-- PLD_MULH (R333): Polder engine signed multiply, high word. -/
  | pldMulh (p : Fin 8) (w : BitVec 26)
  /-- PLD_MIN (R333): Polder engine signed minimum. -/
  | pldMin (p : Fin 8) (w : BitVec 26)
  /-- PLD_MAX (R333): Polder engine signed maximum. -/
  | pldMax (p : Fin 8) (w : BitVec 26)
  /-- PLD_SLT (R333): Polder engine set if less than, signed. -/
  | pldSlt (p : Fin 8) (w : BitVec 26)
  /-- PLD_SLTU (R333): Polder engine set if less than, unsigned. -/
  | pldSltu (p : Fin 8) (w : BitVec 26)
  /-- PLD_ADDI (R333): Polder engine add immediate. -/
  | pldAddi (p : Fin 8) (w : BitVec 26)
  /-- PLD_ANDI (R333): Polder engine AND immediate. -/
  | pldAndi (p : Fin 8) (w : BitVec 26)
  /-- PLD_ORI (R333): Polder engine OR immediate. -/
  | pldOri (p : Fin 8) (w : BitVec 26)
  /-- PLD_XORI (R333): Polder engine XOR immediate. -/
  | pldXori (p : Fin 8) (w : BitVec 26)
  /-- PLD_SHLI (R333): Polder engine shift left immediate. -/
  | pldShli (p : Fin 8) (w : BitVec 26)
  /-- PLD_SHRI (R333): Polder engine logical shift right immediate. -/
  | pldShri (p : Fin 8) (w : BitVec 26)
  /-- PLD_SARI (R333): Polder engine arithmetic shift right immediate. -/
  | pldSari (p : Fin 8) (w : BitVec 26)
  /-- PLD_LUI (R333): Polder engine load upper immediate. -/
  | pldLui (p : Fin 8) (w : BitVec 26)
  /-- PLD_LDW (R333): Polder engine load word. -/
  | pldLdw (p : Fin 8) (w : BitVec 26)
  /-- PLD_LDH (R333): Polder engine load halfword. -/
  | pldLdh (p : Fin 8) (w : BitVec 26)
  /-- PLD_LDB (R333): Polder engine load byte. -/
  | pldLdb (p : Fin 8) (w : BitVec 26)
  /-- PLD_STW (R333): Polder engine store word. -/
  | pldStw (p : Fin 8) (w : BitVec 26)
  /-- PLD_STH (R333): Polder engine store halfword. -/
  | pldSth (p : Fin 8) (w : BitVec 26)
  /-- PLD_STB (R333): Polder engine store byte. -/
  | pldStb (p : Fin 8) (w : BitVec 26)
  /-- PLD_BEQ (R333): Polder engine branch if equal. -/
  | pldBeq (p : Fin 8) (w : BitVec 26)
  /-- PLD_BNE (R333): Polder engine branch if not equal. -/
  | pldBne (p : Fin 8) (w : BitVec 26)
  /-- PLD_BLT (R333): Polder engine branch if less, signed. -/
  | pldBlt (p : Fin 8) (w : BitVec 26)
  /-- PLD_BGE (R333): Polder engine branch if greater or equal, signed. -/
  | pldBge (p : Fin 8) (w : BitVec 26)
  /-- PLD_BLTU (R333): Polder engine branch if less, unsigned. -/
  | pldBltu (p : Fin 8) (w : BitVec 26)
  /-- PLD_BGEU (R333): Polder engine branch if greater or equal, unsigned. -/
  | pldBgeu (p : Fin 8) (w : BitVec 26)
  /-- PLD_JMP (R333): Polder engine jump. -/
  | pldJmp (p : Fin 8) (w : BitVec 26)
  /-- PLD_CALL (R333): Polder engine call. -/
  | pldCall (p : Fin 8) (w : BitVec 26)
  /-- PLD_RET (R333): Polder engine return. -/
  | pldRet (p : Fin 8) (w : BitVec 26)
  /-- PLD_EMIT (R337): EMIT commits OUT_SHEET as the context's sheet for target m. -/
  | pldEmit (p : Fin 8) (w : BitVec 26)
  /-- PLD_END (R333): END ends the invocation. -/
  | pldEnd (p : Fin 8) (w : BitVec 26)
  /-- PLD_DEMAND (R339): DEMAND sets SAFEREQ and sends the safe-aspect sheet at once. -/
  | pldDemand (p : Fin 8) (w : BitVec 26)
  /-- PLD_RELEASE (R339): RELEASE clears SAFEREQ. -/
  | pldRelease (p : Fin 8) (w : BitVec 26)
  /-- PLD_MARK (R348): MARK sets FILLDONE from its operand. -/
  | pldMark (p : Fin 8) (w : BitVec 26)
  /-- PLD_NEXTP (R340): NEXTP removes the head record of the proof mailbox. -/
  | pldNextp (p : Fin 8) (w : BitVec 26)
  /-- PLD_NEXTB (R341): NEXTB releases the inbound bulk packet and presents the next. -/
  | pldNextb (p : Fin 8) (w : BitVec 26)
  /-- PLD_POSTB (R342): POSTB posts an outbound bulk packet when a staging buffer is free. -/
  | pldPostb (p : Fin 8) (w : BitVec 26)
  /-- PLD_SIGNAL (R333): SIGNAL writes PLD_CTRL.SIG and raises event 160 + p. -/
  | pldSignal (p : Fin 8) (w : BitVec 26)
  /-- PLD_TIME (R333): TIME reads the polder tideline replica. -/
  | pldTime (p : Fin 8) (w : BitVec 26)
  /-- DIKE_INPUT_PHASE (R359): At t_c the dike cycle starts and the input image is latched. -/
  | dikeInputPhase
  /-- DIKE_PROGRAM_START (R358): At t_c + 2 µs execution starts at word 0 of the active bank. -/
  | dikeProgramStart
  /-- DIKE_SWAP_PERFORM (R384): At the end of the output phase a pending bank swap is performed. -/
  | dikeSwapPerform
  /-- DIKE_OVERRUN (R361): END has not retired by the warden deadline and the processor stops with OVERRUN. -/
  | dikeOverrun
  /-- WARDEN_STALL (R377): No cycle start reaches the warden within 2.5 T_cyc and it stops the processor with STALL. -/
  | wardenStall
  /-- DIKE_CRC_CHECK (R376): A 1 s CRC span of the active bank completes; a mismatch stops the processor. -/
  | dikeCrcCheck (crc : Word)
  /-- DIKE_NOP (R369): Dike NOP. -/
  | dikeNop (w : BitVec 24)
  /-- DIKE_LD (R369): Dike load bit into A. -/
  | dikeLd (w : BitVec 24)
  /-- DIKE_LDN (R369): Dike load inverted bit into A. -/
  | dikeLdn (w : BitVec 24)
  /-- DIKE_AND (R369): Dike AND bit into A. -/
  | dikeAnd (w : BitVec 24)
  /-- DIKE_ANDN (R369): Dike AND inverted bit into A. -/
  | dikeAndn (w : BitVec 24)
  /-- DIKE_OR (R369): Dike OR bit into A. -/
  | dikeOr (w : BitVec 24)
  /-- DIKE_ORN (R369): Dike OR inverted bit into A. -/
  | dikeOrn (w : BitVec 24)
  /-- DIKE_XOR (R369): Dike XOR bit into A. -/
  | dikeXor (w : BitVec 24)
  /-- DIKE_ST (R369): Dike store A to a bit. -/
  | dikeSt (w : BitVec 24)
  /-- DIKE_STN (R369): Dike store NOT A to a bit. -/
  | dikeStn (w : BitVec 24)
  /-- DIKE_SET (R369): Dike set a bit when A is 1. -/
  | dikeSet (w : BitVec 24)
  /-- DIKE_RST (R369): Dike reset a bit when A is 1. -/
  | dikeRst (w : BitVec 24)
  /-- DIKE_NOT (R369): Dike invert A. -/
  | dikeNot (w : BitVec 24)
  /-- DIKE_PUSH (R370): Dike push A and an operation on the branch stack. -/
  | dikePush (w : BitVec 24)
  /-- DIKE_POP (R370): Dike pop and combine A with the saved value. -/
  | dikePop (w : BitVec 24)
  /-- DIKE_PE (R371): Dike rising-edge detection on an edge bit. -/
  | dikePe (w : BitVec 24)
  /-- DIKE_NE (R371): Dike falling-edge detection on an edge bit. -/
  | dikeNe (w : BitVec 24)
  /-- DIKE_TON (R372): Dike on-delay timer. -/
  | dikeTon (w : BitVec 24)
  /-- DIKE_TOF (R372): Dike off-delay timer. -/
  | dikeTof (w : BitVec 24)
  /-- DIKE_TP (R372): Dike pulse timer. -/
  | dikeTp (w : BitVec 24)
  /-- DIKE_TRES (R372): Dike timer reset. -/
  | dikeTres (w : BitVec 24)
  /-- DIKE_CTU (R373): Dike count up. -/
  | dikeCtu (w : BitVec 24)
  /-- DIKE_CTD (R373): Dike count down. -/
  | dikeCtd (w : BitVec 24)
  /-- DIKE_CRES (R369): Dike counter reset. -/
  | dikeCres (w : BitVec 24)
  /-- DIKE_LW (R369): Dike load word into X. -/
  | dikeLw (w : BitVec 24)
  /-- DIKE_SW (R369): Dike store X to a word or preset. -/
  | dikeSw (w : BitVec 24)
  /-- DIKE_LK (R369): Dike load constant into X. -/
  | dikeLk (w : BitVec 24)
  /-- DIKE_LKH (R369): Dike load constant into X high half. -/
  | dikeLkh (w : BitVec 24)
  /-- DIKE_ADDW (R369): Dike add word to X. -/
  | dikeAddw (w : BitVec 24)
  /-- DIKE_SUBW (R369): Dike subtract word from X. -/
  | dikeSubw (w : BitVec 24)
  /-- DIKE_ANDW (R369): Dike AND word into X. -/
  | dikeAndw (w : BitVec 24)
  /-- DIKE_ORW (R369): Dike OR word into X. -/
  | dikeOrw (w : BitVec 24)
  /-- DIKE_CEQ (R369): Dike compare equal into A. -/
  | dikeCeq (w : BitVec 24)
  /-- DIKE_CLT (R369): Dike compare less than into A. -/
  | dikeClt (w : BitVec 24)
  /-- DIKE_CGE (R369): Dike compare greater or equal into A. -/
  | dikeCge (w : BitVec 24)
  /-- DIKE_XBIT (R369): Dike extract a bit of X into A. -/
  | dikeXbit (w : BitVec 24)
  /-- DIKE_JMP (R369): Dike forward jump. -/
  | dikeJmp (w : BitVec 24)
  /-- DIKE_JC (R369): Dike jump if A is 1. -/
  | dikeJc (w : BitVec 24)
  /-- DIKE_JNC (R369): Dike jump if A is 0. -/
  | dikeJnc (w : BitVec 24)
  /-- DIKE_END (R369): Dike END ends the program phase. -/
  | dikeEnd (w : BitVec 24) (same : Bool)
  /-- DIKE_ARM (R379): A write of DIKE_CTRL.ARM arms the restart of a stopped processor. -/
  | dikeArm (path : Path)
  /-- DIKE_SWAP (R383): A write of DIKE_CTRL.SWAP requests a bank swap. -/
  | dikeSwap (path : Path)
  /-- FORCE_CLEAR (R389): A write of DIKE_CTRL.FCLR releases all forces at the next input phase. -/
  | forceClear (path : Path)
  /-- PROGRAM_WINDOW_WRITE (R382): A write of DIKE_PWIN_DATA stores a word in the inactive bank. -/
  | programWindowWrite (path : Path) (v : Word)
  /-- SYMBOL_WINDOW_WRITE (R382): A write of DIKE_SWIN_DATA stores a symbol table entry. -/
  | symbolWindowWrite (path : Path) (v : Word)
  /-- ONLINE_PARAM_WRITE (R382): A write of an on-line change address or length register clears CHECKED. -/
  | onlineParamWrite (path : Path) (which : Fin 5) (v : Word)
  /-- FORCE_SET (R386): A write of DIKE_FENT with VALID = 1 sets a force. -/
  | forceSet (path : Path) (area : BitVec 4) (addr : BitVec 16)
  /-- FORCE_RELEASE (R386): A write of DIKE_FENT with VALID = 0 releases a force. -/
  | forceRelease (path : Path)
  /-- ISO_FRAME_TX (R399): An isolation frame is sent in each direction every 20 µs. -/
  | isoFrameTx
  /-- BERM_FRAME_RECEIVE (R399): The berm receives a valid terp frame and applies its output states. -/
  | bermFrameReceive (crcOk : Bool)
  /-- TERP_FRAME_RECEIVE (R399): The terp island receives a valid berm frame with the field values. -/
  | terpFrameReceive (crcOk : Bool)
  /-- BERM_SILENCE (R400): The berm receives no valid frame for SILENCE and switches safety outputs off. -/
  | bermSilence
  /-- TERP_SILENCE (R401): The terp island receives no valid berm frame for SILENCE and raises source 38. -/
  | terpSilence
  /-- BERM_SELFCHECK_FAIL (R401): The berm self-check fails; it reports source 39 and acts as silent. -/
  | bermSelfcheckFail
  /-- INPUT_SAMPLE (R402): Each input current is sampled every 1 µs and classified. -/
  | inputSample (x : Fin 24) (iin : Byte) (last : Bool)
  /-- INPUT_DEBOUNCE (R403): A raw state holds for DEB µs and the debounced state changes. -/
  | inputDebounce (x : Fin 24)
  /-- INPUT_INVALID_TIMEOUT (R403): Samples stay in a gap for 10 ms and INVALID is set. -/
  | inputInvalidTimeout (x : Fin 24)
  /-- TEST_PULSE_START (R406): A test-pulse source is driven low for TPW. -/
  | testPulseStart (k : Fin 4)
  /-- TEST_PULSE_END (R407): A test pulse ends and the inputs are checked for cross-feed and cross-short. -/
  | testPulseEnd
  /-- INRUSH_WINDOW_END (R408): 20 ms after switch-on the current limit falls to 0.8 A. -/
  | inrushWindowEnd (k : Fin 16)
  /-- OUTPUT_OVERLOAD (R408): An output has been in limitation for 10 ms and is switched off with OVERLOAD. -/
  | outputOverload (k : Fin 16)
  /-- OUTPUT_SAMPLE (R409): Each output pin is sampled every 1 ms for readback and back-feed. -/
  | outputSample (k : Fin 16) (pin : Fin 3)
  /-- DARK_TEST_START (R410): An ON output with DTEST is switched off for DTW. -/
  | darkTestStart (k : Fin 16)
  /-- DARK_TEST_END (R410): A dark test pulse ends and is judged. -/
  | darkTestEnd (k : Fin 16) (pin : Fin 3)
  /-- CORRELATION_PULSE (R411): A correlation pulse on another output refines a BACKFED mark to BRIDGED. -/
  | correlationPulse (k : Fin 16) (pin : Fin 3)
  /-- LAMP_PROOF_SAMPLE (R415): Each lamp output is proven every 1 ms against its command. -/
  | lampProofSample (k : Fin 16) (iout : Byte) (pin : Fin 3)
  /-- LAMP_DEADLINE (R424): A lamp remains UNPROVEN 30 ms after its commanded change. -/
  | lampDeadline (k : Fin 16)
  /-- LAMP_FLASH_TOGGLE (R424): Flashing lamps toggle every 500 ms. -/
  | lampFlashToggle
  /-- LAMP_FAILED_CLEAR (R415): A host write clears FLD_OUT.FAILED and the lamp is proven afresh. -/
  | lampFailedClear (k : Fin 16)
  /-- ISO_OK_DWELL (R426): Every masked input has held for DWELL and ISO_OK rises. -/
  | isoOkDwell
  /-- GRPA_REARM (R413): A write of FLD_CTRL.GRPA_REARM rearms the LPA supply group. -/
  | grpaRearm (path : Path)
  /-- GRPB_REARM (R413): A write of FLD_CTRL.GRPB_REARM rearms the LPB supply group. -/
  | grpbRearm (path : Path)
  /-- SUPPLY_SAMPLE (R417): Each field rail is sampled every 50 µs and the supply state updated. -/
  | supplySample (rail : Fin 3) (v : BitVec 10)
  /-- SUPPLY_DROPOUT (R419): 22 samples below 15 V declare DROPOUT; outputs latch off. -/
  | supplyDropout
  /-- RELEASE_OK_COUNT (R420): Every rail has read 19.2 V or more for 100 ms and RELEASE_OK becomes 1. -/
  | releaseOkCount
  /-- BERM_RESET (R417): LPL falls below the berm minimum and the berm resets with outputs off. -/
  | bermReset
  /-- BERM_START (R417): LPL rises and the berm starts with DROPLATCH set. -/
  | bermStart
  /-- SAFE_DEMAND_WORD (R431): A polder receives the safe-demand word of a terp cycle. -/
  | safeDemandWord (p : Fin 8) (flips : BitVec 144)
  /-- SAFE_DEMAND_TIMEOUT (R431): No word with a new toggle arrives for 100 ns and the polder demands the safe aspect
  for all. -/
  | safeDemandTimeout (p : Fin 8)
  /-- CONTACTOR_TON_EXPIRY (R440): TON expires in CLOSING without closed feedback; the channel enters F_PICKUP. -/
  | contactorTonExpiry (j : Fin 4)
  /-- CONTACTOR_TOFF_EXPIRY (R440): TOFF expires in OPENING without open feedback; the channel enters F_DROP. -/
  | contactorToffExpiry (j : Fin 4)
  /-- TWIN_FRAME (R444): A twin port receives a telegram copy and decides it. -/
  | twinFrame (k : Fin 2) (fcsOk : Bool) (etype : BitVec 16) (bs : List Byte)
  /-- TWIN_PAIRING_TIMEOUT (R445): The pairing window ends with one copy, a single loss. -/
  | twinPairingTimeout
  /-- TWIN_WATCHDOG (R447): No telegram is accepted for WDOG; TSTATE becomes LOST and the run permit 0. -/
  | twinWatchdog
  /-- BREACH_RAISE (R459): A source's pin changes to fault; it becomes sticky and gets its effective level. -/
  | breachRaise (src : Fin 64) (ecc : Bool) (addr : BitVec 24) (code : Byte) (more : List (Fin 64 × Byte))
  /-- GRACE_EXPIRY (R462): The grace timer expires and unacknowledged sources escalate. -/
  | graceExpiry
  /-- BREACH_ACK (R463): A write of BRCH_ACK acknowledges sources. -/
  | breachAck (path : Path) (k : Fin 2) (v : Word)
  /-- BREACH_CLEAR (R464): A write of BRCH_STICKY clears acknowledged inactive sources. -/
  | breachClear (path : Path) (k : Fin 2) (v : Word)
  /-- INJECT_GO (R470): A write of BRCH_INJ_CTRL.GO arms a check-bit injection. -/
  | injectGo (path : Path) (w : Word)
  /-- INJECT_ABORT (R470): A write of BRCH_INJ_CTRL.ABORT ends an armed injection. -/
  | injectAbort (path : Path)
  /-- INJECTED_READ (R472): The first checked read of the armed word ends the injection as PURE or UNSOLICITED. -/
  | injectedRead (synd : BitVec 7) (dbl : Bool) (other : Bool)
  /-- INJECT_TIMEOUT (R472): 1 s passes without a checked read and the injection ends NOT_READ. -/
  | injectTimeout
  /-- BIST_RUN (R481): A write of BIST_CTRL.RUN queues tests. -/
  | bistRun (v : Word)
  /-- BIST_ABORT (R485): A write of BIST_CTRL.ABORT cuts short every running test and empties the queue. -/
  | bistAbort
  /-- BIST_TEST_START (R481): The sequencer starts the oldest queued test whose condition holds. -/
  | bistTestStart
  /-- BIST_TEST_END (R484): A test reaches its terminal state and is judged. -/
  | bistTestEnd (t : Fin 54) (count : Word) (sig : Word) (failAt : Option (BitVec 24))
  /-- BIST_OVERTIME (R485): A test exceeds twice its longest run time and is cut short. -/
  | bistOvertime (t : Fin 54) (count : Word)
  /-- BIST_REINIT_DONE (R483): The reinitialisation after a test completes and a polder may leave BIST. -/
  | bistReinitDone (t : Fin 54)
  /-- BIST_SEQUENCER_STALL (R486): The sequencer stops advancing for 1 s; source 46 is raised. -/
  | bistSequencerStall
  /-- ROLL_CHECK_START (R488): Every PERIOD seconds the next spare lane begins a rolling check. -/
  | rollCheckStart
  /-- ROLL_CHECK_END (R490): A rolling check ends and a FAIL raises source 16 + p. -/
  | rollCheckEnd (steps : BitVec 16) (failAt : Option Byte) (sigOk : Bool)
  /-- SOFT_REPAIR (R493): A write of BIST_REP with GO = 1 and FUSE = 0 makes a soft repair. -/
  | softRepair (path : Path) (w : Word)
  /-- FUSE_REPAIR (R494): A write of BIST_REP with GO = 1 and FUSE = 1 blows a repair fuse. -/
  | fuseRepair (path : Path) (w : Word)
  /-- LOAD_COMPLETE (R532): The image is read, checked and applied, and the device enters RAISE or DARK. -/
  | loadComplete (jedec : BitVec 24) (bad : List (Fin 128)) (retEcc : Bool)
  /-- FLASH_TIMEOUT (R503): WIP stays 1 beyond its limit and the flash operation fails. -/
  | flashTimeout (ofLog : Bool)
  /-- RELOAD (R47): A write of GLB_CTRL.RELOAD requests LOAD from DARK. -/
  | reload (path : Path)
  /-- COLD_REQUEST (R551): A write of GLB_CTRL.COLD sets COLDREQ. -/
  | coldRequest (path : Path)
  /-- PASSWORD_CHECK (R516): A write of WMK_PWD_CTRL.CHECK requests a password check. -/
  | passwordCheck (path : Path) (len : BitVec 7)
  /-- PASSWORD_RESULT (R518): The password computation ends with MATCH or MISMATCH. -/
  | passwordResult
  /-- LOCKOUT_END (R518): 600 s of powered lockout time end. -/
  | lockoutEnd
  /-- IMAGE_WRITE_BEGIN (R519): A write of WMK_WR_CTRL.BEGIN starts an image write by erasing the target slot. -/
  | imageWriteBegin (path : Path)
  /-- IMAGE_ERASE_DONE (R519): The slot erase completes and STATE becomes RECEIVING. -/
  | imageEraseDone
  /-- IMAGE_WRITE_DATA (R519): A write of WMK_WR_DATA appends 4 image bytes. -/
  | imageWriteData (path : Path) (v : Word)
  /-- PAGE_PROGRAM_DONE (R519): A 256-byte page program completes and frees its buffer. -/
  | pageProgramDone
  /-- IMAGE_COMMIT (R520): A write of WMK_WR_CTRL.COMMIT checks the written image. -/
  | imageCommit (path : Path)
  /-- IMAGE_COMMIT_DONE (R520): The commit check ends and the directory is written or the write refused. -/
  | imageCommitDone
  /-- IMAGE_WRITE_ABORT (R521): A write of WMK_WR_CTRL.ABORT ends the image write. -/
  | imageWriteAbort (path : Path)
  /-- LOG_ENTRY_WRITE (R526): A staged change log entry is written to flash. -/
  | logEntryWrite
  /-- LOG_RETRY (R526): Every 10 s a failed staged entry is retried. -/
  | logRetry
  /-- LCS_ADVANCE (R515): A write of LCS_ADV with CONFIRM requests a life-cycle advance. -/
  | lcsAdvance (path : Path) (v : Word)
  /-- KEY_FIRST (R622): A write of GLB_KEY with 0x5E12 after MATCH takes step 2. -/
  | keyFirst (path : Path)
  /-- KEY_SECOND (R622): A write of GLB_KEY with 0xA1ED opens the key sequence. -/
  | keySecond (path : Path)
  /-- KEY_CLOSE (R623): A write of GLB_KEY with 0x0000 closes the key sequence. -/
  | keyClose (path : Path)
  /-- KEY_FAILED_WRITE (R623): A GLB_KEY write that breaks the sequence consumes MATCH or closes it. -/
  | keyFailedWrite (path : Path) (v : BitVec 16)
  /-- KEY_STEP_TIMEOUT (R622): The 10 s or 1 s window of a key step passes and the sequence returns to idle. -/
  | keyStepTimeout
  /-- KEY_IDLE_TIMEOUT (R624): 600 s pass without a keyed write and the sequence closes with IDLE. -/
  | keyIdleTimeout
  /-- FIC_NOP (R538): FIC NOP. -/
  | ficNop (w : BitVec 24)
  /-- FIC_LDI (R538): FIC load immediate. -/
  | ficLdi (w : BitVec 24)
  /-- FIC_LDH (R538): FIC load high half. -/
  | ficLdh (w : BitVec 24)
  /-- FIC_MOV (R538): FIC move register. -/
  | ficMov (w : BitVec 24)
  /-- FIC_ADD (R538): FIC add. -/
  | ficAdd (w : BitVec 24)
  /-- FIC_SUB (R538): FIC subtract. -/
  | ficSub (w : BitVec 24)
  /-- FIC_AND (R538): FIC AND. -/
  | ficAnd (w : BitVec 24)
  /-- FIC_OR (R538): FIC OR. -/
  | ficOr (w : BitVec 24)
  /-- FIC_XOR (R538): FIC XOR. -/
  | ficXor (w : BitVec 24)
  /-- FIC_SHR (R538): FIC shift right. -/
  | ficShr (w : BitVec 24)
  /-- FIC_SHL (R538): FIC shift left. -/
  | ficShl (w : BitVec 24)
  /-- FIC_CEQ (R538): FIC compare equal into F. -/
  | ficCeq (w : BitVec 24)
  /-- FIC_CLTU (R538): FIC compare less unsigned into F. -/
  | ficCltu (w : BitVec 24)
  /-- FIC_TST (R538): FIC test bits into F. -/
  | ficTst (w : BitVec 24)
  /-- FIC_RD (R539): FIC register read through the hub. -/
  | ficRd (w : BitVec 24)
  /-- FIC_WR (R539): FIC register write through the hub. -/
  | ficWr (w : BitVec 24)
  /-- FIC_POLL (R540): FIC POLL starts reading a register every 1 µs. -/
  | ficPoll (w : BitVec 24) (w1 : Word)
  /-- FIC_POLL_READ (R540): A POLL read matches and ends the POLL with F = 1. -/
  | ficPollRead
  /-- FIC_POLL_TIMEOUT (R540): The POLL timeout passes and F becomes 0. -/
  | ficPollTimeout
  /-- FIC_JMP (R538): FIC jump. -/
  | ficJmp (w : BitVec 24)
  /-- FIC_BF (R538): FIC branch if F. -/
  | ficBf (w : BitVec 24)
  /-- FIC_BNF (R538): FIC branch if not F. -/
  | ficBnf (w : BitVec 24)
  /-- FIC_DJNZ (R538): FIC decrement and branch if not zero. -/
  | ficDjnz (w : BitVec 24)
  /-- FIC_DELAY (R538): FIC DELAY starts a wait of imm16 µs. -/
  | ficDelay (w : BitVec 24)
  /-- FIC_DELAY_END (R538): A FIC DELAY wait ends. -/
  | ficDelayEnd
  /-- FIC_DECK (R538): FIC DECK starts a wait for deckle boundaries. -/
  | ficDeck (w : BitVec 24)
  /-- FIC_DECK_END (R538): A FIC DECK wait ends at the counted boundary. -/
  | ficDeckEnd
  /-- FIC_MARK (R538): FIC MARK writes GLB_START.STEP. -/
  | ficMark (w : BitVec 24)
  /-- FIC_TEST (R538): FIC TEST queues self-tests and waits. -/
  | ficTest (w : BitVec 24)
  /-- FIC_TEST_END (R538): The tests of a FIC TEST finish and F is set. -/
  | ficTestEnd
  /-- FIC_END (R542): FIC END ends the program with SUCCESS, FAIL or TEST. -/
  | ficEnd (w : BitVec 24)
  /-- FIC_TIME_LIMIT (R542): The FIC time limit expires and FRES reads TIME. -/
  | ficTimeLimit
  /-- LEDGER_TICK (R555): The 1 s ledger tick counts powered time and scrubs 4,096 words. -/
  | ledgerTick (lit : List (Fin 144 × Byte)) (temps : List (BitVec 16)) (dbl : Option (BitVec 19))
  /-- LEDGER_COMMIT (R555): Every 10 powered seconds the ledger accumulators are committed to MRAM. -/
  | ledgerCommit
  /-- TREND_INTERVAL (R560): A trend interval ends and each UP lane's mean RSSI is taken. -/
  | trendInterval (means : List (Fin 144 × Byte))
  /-- WEEK_ROLLOVER (R561): A ledger week ends; weekly records are written and margins evaluated. -/
  | weekRollover
  /-- WARN_CLEAR (R570): A write of 1 to LDG_WARN clears a lane's WARN bits. -/
  | warnClear (k : Fin 5) (v : Word)
  /-- EVENT_ENABLE (R567): A write of EVT_EN with a pending source sends its message. -/
  | eventEnable (k : Fin 6) (v : Word)
  /-- MSIX_UNMASK (R567): An unmask sends the messages of pending vectors. -/
  | msixUnmask (fn : Bool) (v : Fin 32)
  /-- MODE_WORD_TIMEOUT (R569): No mode word reaches the terp island for 100 µs and SAFE_N goes low. -/
  | modeWordTimeout
  /-- RAIL_WARNING (R575): A rail lies beyond its warning limits for 2 µs and its breach source is raised. -/
  | railWarning (rail : Fin 6)
  /-- RAIL_RECOVER (R575): A rail has lain within its limits for 100 µs and its source reports no fault. -/
  | railRecover (rail : Fin 6)
  /-- RAIL_ACTION (R575): A rail stays below its action threshold for 2 µs and its action is taken. -/
  | railAction (rail : Fin 6)
  /-- SERIALISER_RESTART (R575): VSER has been within limits for 1 ms and the serialisers restart. -/
  | serialiserRestart
  /-- LED_DRIVER_RESTORE (R575): VOPT has read 3.135 V or more for 1 ms and the LED drivers are enabled. -/
  | ledDriverRestore
  /-- THERMAL_WARNING (R589): A sensor reads 113 °C or more and source 31 is raised. -/
  | thermalWarning (sensor : Fin 11) (t : Byte)
  /-- THERMAL_RESET (R589): A sensor reads 125 °C for 100 µs and the core die is reset. -/
  | thermalReset (sensor : Fin 11) (t : Byte)
  /-- POWER_ON (R581): VCORE, VANA and VIO rise above their thresholds and the core die leaves power-off into reset. -/
  | powerOn
  /-- RESET_PIN (R581): RESET_N is low for 1 µs or more and the core die is reset. -/
  | resetPin
  /-- PERST (R581): PERST_N low resets the PCIe endpoint only. -/
  | perst
  /-- TRST (R581): TRST_N low resets the JTAG test access port. -/
  | trst
  /-- RESET_RELEASE (R582): 1 ms after the last reset source releases the core die enters LOAD. -/
  | resetRelease (prog : List (BitVec 32 × List Byte))
  /-- ISLAND_CLOCK_RECOVER (R21): A monitored island clock passes its monitor again, its GLB_ISLAND bit returns to 1
  and breach source 30 stops being active. -/
  | islandClockRecover (isl : Island)
  /-- THERMAL_COOLDOWN (R589): The junction temperature falls so that every sensor reads 108 °C or less, ending source
  31 and THOT, or 100 °C or less, releasing a thermal reset. -/
  | thermalCooldown (sensor : Fin 11) (t : Byte)
  /-- REFCLK_RESTORE (R579): REFCLK edges return, PWR_STATUS.REFCLK reads 1 and the RELOCK_MS condition of R579 and
  the reset-release condition of R582 can be met again. -/
  | refclkRestore
  /-- RETENTION_LOSS (R543): VRET falls below its retention minimum, so the retention area and PWR_RST are lost and
  RETOK reads 0 at the next reset release. -/
  | retentionLoss
  /-- LCS_FUSE_BLOWN (R515): The life-cycle fuse blow that an accepted advance started completes within 20 ms and
  LCS_STATE.PEND is set. -/
  | lcsFuseBlown
  /-- LEDGER_WINDOW_READ (R564): A read of the ledger window returns the MRAM word of the selected page, or 0 with
  LDG_STATUS.RESULT set to BUSY while the management engine is stopped. -/
  | ledgerWindowRead (off : BitVec 13)
  deriving DecidableEq, Repr

end Sys2Proof
end

