-- ==== Sys2Proof/WellFormed.lean ====
section
/-! DEFINITION. Well-formed commands: what the operands of a command have beyond their types.  A list of instances names
each at most once, an instruction word of the FIC has the fields of its format (R538), a descriptor has its 32 bytes
(R288), a symbol slot has ten bits (R97), a register write enables at least one byte, and the external programmer writes within the largest flash
(R502). -/

namespace Sys2Proof

namespace Wf

/-- A list that names no number twice. -/
def distinct : List Nat → Bool
  | [] => true
  | x :: xs => !xs.contains x && distinct xs

/-- Format A: bits [19:16] are 0. -/
def ficA (w : BitVec 24) : Bool := w.toNat / 2 ^ 16 % 16 == 0

/-- Format AB: bits [15:0] are 0. -/
def ficAB (w : BitVec 24) : Bool := w.toNat % 2 ^ 16 == 0

/-- Format J: bits [23:16] are 0. -/
def ficJ (w : BitVec 24) : Bool := w.toNat / 2 ^ 16 == 0

/-- Format O: bits [19:18] are 0 and the word offset lies within R539. -/
def ficO (w : BitVec 24) : Bool := decide (w.toNat % 2 ^ 20 < 0x3C000)

/-- Format P: a timeout of 1 or more, and a second word whose bits [31:18] are 0 and whose word offset lies within
R539. -/
def ficP (w : BitVec 24) (w1 : Word) : Bool := decide (1 ≤ w.toNat % 2 ^ 16) && decide (w1.toNat < 0x3C000)

/-- Bytes that lie within a flash of 512 Mbit (R502). -/
def inFlash (addr len : Nat) : Bool := decide (addr + len ≤ 0x4000000)

end Wf

open Wf

/-- The command is well formed. -/
def Instr.wf : Instr → Bool
  | .registerWrite _ _ _ be => decide (be ≠ 0)
  | .rcRead _ _ be => decide (be ≠ 0)
  | .wideReadLow _ _ be => decide (be ≠ 0)
  | .tidelineStrobe _ => true
  | .clockMonitorFault _ => true
  | .terpClockCompare _ => true
  | .mgmtEngineStop _ _ _ => true
  | .mgmtSupervisorTimeout => true
  | .mgmtEngineRestart => true
  | .hostModeRequest _ _ _ => true
  | .autoFill => true
  | .autoRun => true
  | .holdLimit => true
  | .deckleBoundary => true
  | .tideTgtWrite _ _ => true
  | .jump => true
  | .rerange => true
  | .timeMarkLaunch _ => true
  | .rangeRequest _ _ => true
  | .rangeReply _ _ _ _ => true
  | .rangeTimeout _ => true
  | .tideTimeSend => true
  | .tidePollSend _ => true
  | .tideTimeReceive _ _ => true
  | .tideTimeMissing => true
  | .tidePollReceive _ => true
  | .tideEchoSend _ => true
  | .tideEcho _ _ => true
  | .tideEchoTimeout => true
  | .locksenseQualify _ => true
  | .holdoverEntry => true
  | .refclkLoss => true
  | .holdoverRelock => true
  | .holdoverExit => true
  | .clkoutConfig _ _ => true
  | .linkSyncAcquire _ _ => true
  | .linkSyncLoss _ _ _ => true
  | .lossOfLight _ _ _ => true
  | .returnMiss _ => true
  | .darkIntervalEnd _ => true
  | .returnFrame _ _ _ _ => true
  | .snapshotDeadline => true
  | .telemFrame _ _ => true
  | .echoGroup _ _ _ _ _ _ _ _ => true
  | .proofWindowClose _ _ _ _ => true
  | .proofRecordRelease _ _ => true
  | .proofSummaryBreach _ => true
  | .sheetLaunch _ _ _ _ => true
  | .beacon _ => true
  | .admitRequest _ _ _ => true
  | .approve _ _ => true
  | .deny _ => true
  | .retire _ => true
  | .resume _ => true
  | .relocate _ _ _ _ => true
  | .mgmtResponse _ _ => true
  | .mgmtTimeout _ => true
  | .bulkFrameReceive _ _ => true
  | .bulkPacketSend _ => true
  | .bulkResendTimeout _ => true
  | .bulkCreditReport _ => true
  | .ledDarkLatch _ slots => slots.all fun s => decide (s.length = 10)
  | .ledLitLatch _ slots => slots.all fun s => decide (s.length = 10)
  | .ledRearm _ _ => true
  | .sluiceSyncAcquire _ => true
  | .sluiceSyncLoss _ _ _ => true
  | .reamFrame _ _ _ _ ctxs => distinct (ctxs.map fun c => c.val)
  | .reamCutoff ctxs => distinct (ctxs.map fun c => c.val)
  | .safeholdEntry _ => true
  | .sluiceTransmit _ _ => true
  | .ctrlMode _ _ _ _ => true
  | .ctrlTarget _ _ _ => true
  | .ctrlCouch _ _ _ _ => true
  | .ctrlPing _ _ _ _ => true
  | .ctrlStatus _ _ _ => true
  | .ctrlUnknown _ _ _ => true
  | .couchRequest _ _ _ => true
  | .couchCancel => true
  | .couchTimeout => true
  | .pcieLinkDown => true
  | .functionLevelReset => true
  | .pcieLinkUp _ _ => true
  | .dmaError _ _ _ _ => true
  | .raceEnable _ _ => true
  | .raceDoorbell _ _ => true
  | .descriptorFetch _ bs _ => decide (bs.length = 32)
  | .bulkOutPacketRead _ _ _ => true
  | .descriptorComplete _ => true
  | .raceIrqTimer _ => true
  | .raceFlushTimer _ => true
  | .raceStop _ => true
  | .raceResume _ => true
  | .raceRearm _ => true
  | .vatArm => true
  | .vatTrigger => true
  | .vatDiscard => true
  | .vatFreeze => true
  | .vatPortRead => true
  | .gpioVatTrig _ => true
  | .spiWriteFrame _ => true
  | .spiReadFrame _ => true
  | .polderRunStart _ => true
  | .runDeadline _ => true
  | .budgetExhausted _ => true
  | .pldNop _ _ => true
  | .pldAdd _ _ => true
  | .pldSub _ _ => true
  | .pldAnd _ _ => true
  | .pldOr _ _ => true
  | .pldXor _ _ => true
  | .pldShl _ _ => true
  | .pldShr _ _ => true
  | .pldSar _ _ => true
  | .pldMul _ _ => true
  | .pldMulh _ _ => true
  | .pldMin _ _ => true
  | .pldMax _ _ => true
  | .pldSlt _ _ => true
  | .pldSltu _ _ => true
  | .pldAddi _ _ => true
  | .pldAndi _ _ => true
  | .pldOri _ _ => true
  | .pldXori _ _ => true
  | .pldShli _ _ => true
  | .pldShri _ _ => true
  | .pldSari _ _ => true
  | .pldLui _ _ => true
  | .pldLdw _ _ => true
  | .pldLdh _ _ => true
  | .pldLdb _ _ => true
  | .pldStw _ _ => true
  | .pldSth _ _ => true
  | .pldStb _ _ => true
  | .pldBeq _ _ => true
  | .pldBne _ _ => true
  | .pldBlt _ _ => true
  | .pldBge _ _ => true
  | .pldBltu _ _ => true
  | .pldBgeu _ _ => true
  | .pldJmp _ _ => true
  | .pldCall _ _ => true
  | .pldRet _ _ => true
  | .pldEmit _ _ => true
  | .pldEnd _ _ => true
  | .pldDemand _ _ => true
  | .pldRelease _ _ => true
  | .pldMark _ _ => true
  | .pldNextp _ _ => true
  | .pldNextb _ _ => true
  | .pldPostb _ _ => true
  | .pldSignal _ _ => true
  | .pldTime _ _ => true
  | .dikeInputPhase => true
  | .dikeProgramStart => true
  | .dikeSwapPerform => true
  | .dikeOverrun => true
  | .wardenStall => true
  | .dikeCrcCheck _ => true
  | .dikeNop _ => true
  | .dikeLd _ => true
  | .dikeLdn _ => true
  | .dikeAnd _ => true
  | .dikeAndn _ => true
  | .dikeOr _ => true
  | .dikeOrn _ => true
  | .dikeXor _ => true
  | .dikeSt _ => true
  | .dikeStn _ => true
  | .dikeSet _ => true
  | .dikeRst _ => true
  | .dikeNot _ => true
  | .dikePush _ => true
  | .dikePop _ => true
  | .dikePe _ => true
  | .dikeNe _ => true
  | .dikeTon _ => true
  | .dikeTof _ => true
  | .dikeTp _ => true
  | .dikeTres _ => true
  | .dikeCtu _ => true
  | .dikeCtd _ => true
  | .dikeCres _ => true
  | .dikeLw _ => true
  | .dikeSw _ => true
  | .dikeLk _ => true
  | .dikeLkh _ => true
  | .dikeAddw _ => true
  | .dikeSubw _ => true
  | .dikeAndw _ => true
  | .dikeOrw _ => true
  | .dikeCeq _ => true
  | .dikeClt _ => true
  | .dikeCge _ => true
  | .dikeXbit _ => true
  | .dikeJmp _ => true
  | .dikeJc _ => true
  | .dikeJnc _ => true
  | .dikeEnd _ _ => true
  | .dikeArm _ => true
  | .dikeSwap _ => true
  | .forceClear _ => true
  | .programWindowWrite _ _ => true
  | .symbolWindowWrite _ _ => true
  | .onlineParamWrite _ _ _ => true
  | .forceSet _ _ _ => true
  | .forceRelease _ => true
  | .isoFrameTx => true
  | .bermFrameReceive _ => true
  | .terpFrameReceive _ => true
  | .bermSilence => true
  | .terpSilence => true
  | .bermSelfcheckFail => true
  | .inputSample _ _ _ => true
  | .inputDebounce _ => true
  | .inputInvalidTimeout _ => true
  | .testPulseStart _ => true
  | .testPulseEnd => true
  | .inrushWindowEnd _ => true
  | .outputOverload _ => true
  | .outputSample _ _ => true
  | .darkTestStart _ => true
  | .darkTestEnd _ _ => true
  | .correlationPulse _ _ => true
  | .lampProofSample _ _ _ => true
  | .lampDeadline _ => true
  | .lampFlashToggle => true
  | .lampFailedClear _ => true
  | .isoOkDwell => true
  | .grpaRearm _ => true
  | .grpbRearm _ => true
  | .supplySample _ _ => true
  | .supplyDropout => true
  | .releaseOkCount => true
  | .bermReset => true
  | .bermStart => true
  | .safeDemandWord _ _ => true
  | .safeDemandTimeout _ => true
  | .contactorTonExpiry _ => true
  | .contactorToffExpiry _ => true
  | .twinFrame _ _ _ _ => true
  | .twinPairingTimeout => true
  | .twinWatchdog => true
  | .breachRaise src _ _ _ more => distinct (src.val :: more.map fun e => e.1.val)
  | .graceExpiry => true
  | .breachAck _ _ _ => true
  | .breachClear _ _ _ => true
  | .injectGo _ _ => true
  | .injectAbort _ => true
  | .injectedRead _ _ _ => true
  | .injectTimeout => true
  | .bistRun _ => true
  | .bistAbort => true
  | .bistTestStart => true
  | .bistTestEnd _ _ _ _ => true
  | .bistOvertime _ _ => true
  | .bistReinitDone _ => true
  | .bistSequencerStall => true
  | .rollCheckStart => true
  | .rollCheckEnd _ _ _ => true
  | .softRepair _ _ => true
  | .fuseRepair _ _ => true
  | .loadComplete _ bad _ => distinct (bad.map fun c => c.val)
  | .flashTimeout _ => true
  | .reload _ => true
  | .coldRequest _ => true
  | .passwordCheck _ _ => true
  | .passwordResult => true
  | .lockoutEnd => true
  | .imageWriteBegin _ => true
  | .imageEraseDone => true
  | .imageWriteData _ _ => true
  | .pageProgramDone => true
  | .imageCommit _ => true
  | .imageCommitDone => true
  | .imageWriteAbort _ => true
  | .logEntryWrite => true
  | .logRetry => true
  | .lcsAdvance _ _ => true
  | .keyFirst _ => true
  | .keySecond _ => true
  | .keyClose _ => true
  | .keyFailedWrite _ _ => true
  | .keyStepTimeout => true
  | .keyIdleTimeout => true
  | .ficNop w => ficJ w
  | .ficLdi w => ficA w
  | .ficLdh w => ficA w
  | .ficMov w => ficAB w
  | .ficAdd w => ficAB w
  | .ficSub w => ficAB w
  | .ficAnd w => ficAB w
  | .ficOr w => ficAB w
  | .ficXor w => ficAB w
  | .ficShr w => ficA w
  | .ficShl w => ficA w
  | .ficCeq w => ficAB w
  | .ficCltu w => ficAB w
  | .ficTst w => ficAB w
  | .ficRd w => ficO w
  | .ficWr w => ficO w
  | .ficPoll w w1 => ficP w w1
  | .ficPollRead => true
  | .ficPollTimeout => true
  | .ficJmp w => ficJ w
  | .ficBf w => ficJ w
  | .ficBnf w => ficJ w
  | .ficDjnz w => ficA w
  | .ficDelay w => ficJ w
  | .ficDelayEnd => true
  | .ficDeck w => ficJ w
  | .ficDeckEnd => true
  | .ficMark w => ficJ w
  | .ficTest w => ficJ w
  | .ficTestEnd => true
  | .ficEnd w => ficJ w
  | .ficTimeLimit => true
  | .ledgerTick lit temps _ => distinct (lit.map fun e => e.1.val) && decide (temps.length = 8)
  | .ledgerCommit => true
  | .trendInterval means => distinct (means.map fun e => e.1.val)
  | .weekRollover => true
  | .warnClear _ _ => true
  | .eventEnable _ _ => true
  | .msixUnmask _ _ => true
  | .modeWordTimeout => true
  | .railWarning _ => true
  | .railRecover _ => true
  | .railAction _ => true
  | .serialiserRestart => true
  | .ledDriverRestore => true
  | .thermalWarning _ _ => true
  | .thermalReset _ _ => true
  | .powerOn => true
  | .resetPin => true
  | .perst => true
  | .trst => true
  | .resetRelease prog => prog.all fun e => inFlash e.1.toNat e.2.length
  | .islandClockRecover _ => true
  | .thermalCooldown _ _ => true
  | .refclkRestore => true
  | .retentionLoss => true
  | .lcsFuseBlown => true
  | .ledgerWindowRead _ => true

end Sys2Proof
end

