-- ==== Sys2Proof/Decode.lean ====
section
/-! DEFINITION. The command that a word of the table spells.  The block has no instruction decoder, and every row of its
table of operations and events stands without bits, so no word spells a command. -/

namespace Sys2Proof

/-- The command that `_nbits` bits of `_w` spell: none, since no row gives bits. -/
def decodeTableWord (_nbits _w : Nat) : Option Instr := none

end Sys2Proof
end

