-- ==== Sys2Proof/Config.lean ====
section
/-! DEFINITION. What an implementation fixes and the values the spec leaves open.  A constant without a body is a free
value: no proof can see what it is, and a statement about it holds for every value it may have. -/

namespace Sys2Proof.Config

/-- A value that the spec leaves open; the argument is the number of free values drawn before it. -/
opaque freeWord : Nat → Word

/-- The factory calibration of lane L in ps (R81), which the fuses hold: LED pin-to-fibre and photodiode pin-to-fibre
path delay. -/
opaque laneTxd : Nat → BitVec 16

opaque laneRxd : Nat → BitVec 16

/-- The signature that Gudaeth expects of self-test t (R480): held in the sequencer, not printed in the spec. -/
opaque expectedSignature : Nat → Word

end Sys2Proof.Config
end

