-- ==== Sys2Proof/Machine/RegMap.lean ====
section
/-! DEFINITION. The register map: every register field of the spec's field tables (the tables that the index R628
names), with its offset in BAR0 (R620, R621), its place in the word, its width, its reset value and its type (R4).

A field is the unit of the register file.  A register that holds one bit, or one small field, per instance
(EVT_PEND, BRCH_EFF and the like) gives a field of its own to each instance.  Reset columns that read "see text",
"image", "ledger", "fuse" or "from R480" are resolved as the assumption log says. -/

namespace Sys2Proof.Machine

/-- A register field: BAR0 offset of its register, lowest bit, width, reset value. -/
structure Fld where
  off : Nat
  lsb : Nat
  w   : Nat
  rst : Nat
  deriving DecidableEq, Repr

/-- The name of a field in the register file: fields at different places have different keys. -/
def Fld.key (f : Fld) : Nat := f.off * 32 + f.lsb

/-- The field types of R4.  `ka` is a KRW field that starts an action and reads 0. -/
inductive FTy where
  | ro | rw | w1c | wo | rc | krw | ka
  deriving DecidableEq, Repr

/-- What loads a field at LOAD: nothing, the image's LOADLIST (R509) or its SAFETY section. -/
inductive LoadBy where
  | none | image | safety
  deriving DecidableEq, Repr

/-- One field of a register table: the field by instance, its type, what loads it, and its permitted values. -/
structure FSpec where
  fld  : Nat → Fld
  ty   : FTy
  load : LoadBy
  lo   : Nat
  hi   : Nat

/-- A register table: base offset, distance between instances, number of instances, fields. -/
structure Row where
  base   : Nat
  stride : Nat
  count  : Nat
  lane   : Bool
  flds   : List FSpec

/-- One ordinary field of a register table. -/
def FSpec.one (f : Nat → Fld) (ty : FTy) (ld : LoadBy) (lo hi : Nat) : List FSpec := [⟨f, ty, ld, lo, hi⟩]

/-- A register that holds `n` like fields, one per instance of a numbered set (R621). -/
def FSpec.array (f : Nat → Fld) (n : Nat) (ty : FTy) (ld : LoadBy) : List FSpec :=
  (List.range n).map fun j => ⟨fun k => f (k * n + j), ty, ld, 0, 2 ^ (f 0).w - 1⟩

/-- Group base of lane L (R621). -/
def laneOff (L : Nat) : Nat := 0x40000 + (L / 18) * 0x8000 + 0x1000 + (L % 18) * 0x40

/-- Reset vector of an event source (R571). -/
def vecReset (e : Nat) : Nat :=
  if e < 128 then 0 else if e < 160 then 1 + (e - 128) % 16 else if e < 168 then 17
  else if e < 176 then 18 else if e < 184 then 19 else if e < 192 then 20 else 0

/-- Default level of a breach source (R457). -/
def levelReset (s : Nat) : Nat :=
  if s < 8 then 3 else if s < 24 then 1 else if s = 24 then 3 else if s < 27 then 2 else if s < 30 then 1
  else if s = 30 then 3 else if s = 31 then 2 else if s < 40 then 3 else if s < 44 then 2
  else if s = 44 then 4 else if s < 53 then 1 else if s = 53 then 2 else 0

/-- Expected pattern count of a self-test (R480). -/
def testCount (t : Nat) : Nat :=
  if t < 48 then
    match t % 6 with
    | 0 => 64 | 1 => 6336 | 2 => 655360 | 3 => 40960 | 4 => 20480 | _ => 65536
  else match t with
    | 48 => 1310720 | 49 => 307200 | 50 => 10485760 | 51 => 491520 | 52 => 327680 | 53 => 524288 | _ => 0

namespace Reg

/-! GLB_ID (R1) -/
def GLB_ID_PART : Fld := ⟨0x0, 16, 16, 0x8128⟩
def GLB_ID_POLDERS : Fld := ⟨0x0, 12, 4, 8⟩
def GLB_ID_STEP : Fld := ⟨0x0, 8, 4, 1⟩
def GLB_ID_BERM_STEP : Fld := ⟨0x0, 4, 4, 1⟩
/-! GLB_CTRL (R551) -/
def GLB_CTRL_COLDREQ : Fld := ⟨0x4, 3, 1, 0⟩
def GLB_CTRL_WARMEN : Fld := ⟨0x4, 2, 1, 1⟩
def GLB_CTRL_COLD : Fld := ⟨0x4, 1, 1, 0⟩
def GLB_CTRL_RELOAD : Fld := ⟨0x4, 0, 1, 0⟩
/-! GLB_MODE (R36) -/
def GLB_MODE_DCAUSE : Fld := ⟨0x10, 28, 4, 0⟩
def GLB_MODE_RESULT : Fld := ⟨0x10, 24, 4, 0⟩
def GLB_MODE_CAUSE : Fld := ⟨0x10, 20, 4, 0⟩
def GLB_MODE_PENDING : Fld := ⟨0x10, 16, 4, 15⟩
def GLB_MODE_BASE : Fld := ⟨0x10, 12, 4, 0⟩
def GLB_MODE_PREV : Fld := ⟨0x10, 8, 4, 0⟩
def GLB_MODE_MODE : Fld := ⟨0x10, 0, 4, 0⟩
/-! GLB_MODE_REQ (R39) -/
def GLB_MODE_REQ_PARK : Fld := ⟨0x14, 4, 1, 0⟩
def GLB_MODE_REQ_TARGET : Fld := ⟨0x14, 0, 4, 0⟩
/-! GLB_MODE_CFG (R40) -/
def GLB_MODE_CFG_DIKE_REQ : Fld := ⟨0x18, 7, 1, 0⟩
def GLB_MODE_CFG_ENG_REQ : Fld := ⟨0x18, 6, 1, 0⟩
def GLB_MODE_CFG_AUTO_RUN : Fld := ⟨0x18, 5, 1, 0⟩
def GLB_MODE_CFG_AUTO_FILL : Fld := ⟨0x18, 4, 1, 0⟩
def GLB_MODE_CFG_RUN_MODEL : Fld := ⟨0x18, 0, 4, 5⟩
/-! GLB_START (R552) -/
def GLB_START_FRES : Fld := ⟨0x20, 28, 4, 0⟩
def GLB_START_KIND : Fld := ⟨0x20, 22, 2, 0⟩
def GLB_START_WVALID : Fld := ⟨0x20, 21, 1, 0⟩
def GLB_START_RETOK : Fld := ⟨0x20, 20, 1, 0⟩
def GLB_START_SRC : Fld := ⟨0x20, 16, 4, 0⟩
def GLB_START_STEP : Fld := ⟨0x20, 0, 16, 0⟩
/-! GLB_BUSY (R554) -/
def GLB_BUSY_COUNT : Fld := ⟨0x24, 24, 8, 0⟩
def GLB_BUSY_RKIND : Fld := ⟨0x24, 20, 4, 0⟩
def GLB_BUSY_WKIND : Fld := ⟨0x24, 16, 4, 0⟩
def GLB_BUSY_LKIND : Fld := ⟨0x24, 12, 4, 0⟩
def GLB_BUSY_WPRI : Fld := ⟨0x24, 10, 2, 0⟩
def GLB_BUSY_LPRI : Fld := ⟨0x24, 8, 2, 0⟩
def GLB_BUSY_RIDX : Fld := ⟨0x24, 0, 8, 0⟩
/-! GLB_START_T (R553) -/
def GLB_START_T_LOADT : Fld := ⟨0x28, 16, 16, 0⟩
def GLB_START_T_RAISET : Fld := ⟨0x28, 0, 16, 0⟩
/-! GLB_ALAT (R32) -/
def GLB_ALAT_LAST_MAX : Fld := ⟨0x40, 16, 16, 0⟩
def GLB_ALAT_FIRST_MAX : Fld := ⟨0x40, 0, 16, 0⟩
/-! GLB_ISLAND (R23) -/
def GLB_ISLAND_BERM_LINK : Fld := ⟨0x44, 13, 1, 0⟩
def GLB_ISLAND_TIDE_OK : Fld := ⟨0x44, 12, 1, 0⟩
def GLB_ISLAND_TERP_OK : Fld := ⟨0x44, 11, 1, 0⟩
def GLB_ISLAND_MGMT_OK : Fld := ⟨0x44, 10, 1, 0⟩
def GLB_ISLAND_HUB_OK : Fld := ⟨0x44, 9, 1, 0⟩
def GLB_ISLAND_POLDER_OK : Fld := ⟨0x44, 0, 8, 0⟩
/-! GLB_GPIO (R601) -/
def GLB_GPIO_IN : Fld := ⟨0x60, 24, 8, 0⟩
def GLB_GPIO_CLAIMED : Fld := ⟨0x60, 16, 8, 0⟩
def GLB_GPIO_OUT : Fld := ⟨0x60, 8, 8, 0⟩
def GLB_GPIO_DIR : Fld := ⟨0x60, 0, 8, 0⟩
/-! GLB_GPIO_FN (R602) -/
def GLB_GPIO_FN_F6 : Fld := ⟨0x64, 20, 4, 0⟩
def GLB_GPIO_FN_F5 : Fld := ⟨0x64, 16, 4, 0⟩
def GLB_GPIO_FN_F4 : Fld := ⟨0x64, 12, 4, 0⟩
def GLB_GPIO_FN_F3 : Fld := ⟨0x64, 8, 4, 0⟩
def GLB_GPIO_FN_F2 : Fld := ⟨0x64, 4, 4, 0⟩
def GLB_GPIO_FN_F1 : Fld := ⟨0x64, 0, 4, 0⟩
/-! PWR_STATUS (R590) -/
def PWR_STATUS_REFCLK : Fld := ⟨0x80, 31, 1, 0⟩
def PWR_STATUS_LSRAW : Fld := ⟨0x80, 30, 1, 0⟩
def PWR_STATUS_LSQUAL : Fld := ⟨0x80, 29, 1, 0⟩
def PWR_STATUS_WARN : Fld := ⟨0x80, 16, 6, 0⟩
def PWR_STATUS_OPTOFF : Fld := ⟨0x80, 5, 1, 0⟩
def PWR_STATUS_SEROFF : Fld := ⟨0x80, 4, 1, 0⟩
def PWR_STATUS_THOT : Fld := ⟨0x80, 3, 1, 0⟩
/-! PWR_TEMP (R591) -/
def PWR_TEMP_PEAK : Fld := ⟨0x84, 24, 8, 128⟩
def PWR_TEMP_PSENS : Fld := ⟨0x84, 20, 4, 0⟩
def PWR_TEMP_TMAX : Fld := ⟨0x84, 8, 8, 0⟩
def PWR_TEMP_SENS : Fld := ⟨0x84, 0, 4, 0⟩
/-! PWR_RST (R592) -/
def PWR_RST_COUNT : Fld := ⟨0x88, 8, 8, 0⟩
def PWR_RST_POR : Fld := ⟨0x88, 7, 1, 0⟩
def PWR_RST_PIN : Fld := ⟨0x88, 6, 1, 0⟩
def PWR_RST_SUPPLY : Fld := ⟨0x88, 5, 1, 0⟩
def PWR_RST_THERMAL : Fld := ⟨0x88, 4, 1, 0⟩
def PWR_RST_RAIL : Fld := ⟨0x88, 0, 4, 15⟩
/-! GLB_KEY (R627) -/
def GLB_KEY_KEY : Fld := ⟨0x100, 0, 16, 0⟩
/-! GLB_KEY_STAT (R627) -/
def GLB_KEY_STAT_REJ : Fld := ⟨0x104, 24, 8, 0⟩
def GLB_KEY_STAT_CAUSE : Fld := ⟨0x104, 20, 4, 0⟩
def GLB_KEY_STAT_STEP : Fld := ⟨0x104, 18, 2, 0⟩
def GLB_KEY_STAT_PATH : Fld := ⟨0x104, 17, 1, 0⟩
def GLB_KEY_STAT_OPEN : Fld := ⟨0x104, 16, 1, 0⟩
def GLB_KEY_STAT_IDLE : Fld := ⟨0x104, 0, 10, 0⟩
/-! GLB_KEY_REJ (R627) -/
def GLB_KEY_REJ_OFF : Fld := ⟨0x108, 0, 20, 0⟩
/-! EVT_PEND (R571) -/
def EVT_PEND (i : Nat) : Fld := ⟨(0x200 + 4 * (i / 32)), 1 * (i % 32), 1, 0⟩
/-! EVT_EN (R571) -/
def EVT_EN (i : Nat) : Fld := ⟨(0x220 + 4 * (i / 32)), 1 * (i % 32), 1, 0⟩
/-! EVT_PIN (R571) -/
def EVT_PIN (i : Nat) : Fld := ⟨(0x240 + 4 * (i / 32)), 1 * (i % 32), 1, 0⟩
/-! EVT_MAP (R571) -/
def EVT_MAP (i : Nat) : Fld := ⟨(0x260 + 4 * (i / 4)), 8 * (i % 4), 5, (vecReset i)⟩
/-! EVT_STATUS (R571) -/
def EVT_STATUS_LINKOK : Fld := ⟨0x320, 2, 1, 0⟩
def EVT_STATUS_SAFE_N : Fld := ⟨0x320, 1, 1, 0⟩
def EVT_STATUS_EVT_N : Fld := ⟨0x320, 0, 1, 1⟩
/-! TIDE_NS_LO (R58) -/
def TIDE_NS_LO : Fld := ⟨0x10000, 0, 32, 0⟩
/-! TIDE_NS_HI (R58) -/
def TIDE_NS_HI : Fld := ⟨0x10004, 0, 32, 0⟩
/-! TIDE_FRAC (R58) -/
def TIDE_FRAC_FRAC : Fld := ⟨0x10008, 0, 16, 0⟩
/-! TIDE_DECKLE (R62) -/
def TIDE_DECKLE : Fld := ⟨0x1000C, 0, 32, 0⟩
/-! TIDE_CTRL (R67) -/
def TIDE_CTRL_RERANGE : Fld := ⟨0x10010, 1, 1, 0⟩
def TIDE_CTRL_JUMP : Fld := ⟨0x10010, 0, 1, 0⟩
/-! TIDE_STATUS (R68) -/
def TIDE_STATUS_RESULT : Fld := ⟨0x10014, 24, 4, 0⟩
def TIDE_STATUS_SYNC : Fld := ⟨0x10014, 12, 3, 0⟩
def TIDE_STATUS_HOLDOVER : Fld := ⟨0x10014, 11, 1, 0⟩
def TIDE_STATUS_SLEWING : Fld := ⟨0x10014, 10, 1, 0⟩
def TIDE_STATUS_JUMPED : Fld := ⟨0x10014, 9, 1, 0⟩
def TIDE_STATUS_LOCKSENSE : Fld := ⟨0x10014, 8, 1, 0⟩
/-! TIDE_PERIOD_LO (R63) -/
def TIDE_PERIOD_LO : Fld := ⟨0x10018, 0, 32, 0x4E200000⟩
/-! TIDE_PERIOD_HI (R63) -/
def TIDE_PERIOD_HI_HI : Fld := ⟨0x1001C, 0, 16, 0⟩
/-! TIDE_TGT_LO (R63) -/
def TIDE_TGT_LO : Fld := ⟨0x10020, 0, 32, 0x4E200000⟩
/-! TIDE_TGT_HI (R63) -/
def TIDE_TGT_HI_HI : Fld := ⟨0x10024, 0, 16, 0⟩
/-! TIDE_NOM_LO (R63) -/
def TIDE_NOM_LO : Fld := ⟨0x10028, 0, 32, 0x4E200000⟩
/-! TIDE_NOM_HI (R63) -/
def TIDE_NOM_HI_HI : Fld := ⟨0x1002C, 0, 16, 0⟩
/-! TIDE_NCO_CFG (R65) -/
def TIDE_NCO_CFG_ENG_TGT : Fld := ⟨0x10030, 25, 1, 1⟩
def TIDE_NCO_CFG_HOST_TGT : Fld := ⟨0x10030, 24, 1, 1⟩
def TIDE_NCO_CFG_WINDOW : Fld := ⟨0x10030, 8, 13, 0x1388⟩
def TIDE_NCO_CFG_SLEW : Fld := ⟨0x10030, 0, 8, 167⟩
/-! TIDE_GPH (R71) -/
def TIDE_GPH_INDEX : Fld := ⟨0x10034, 16, 16, 0⟩
def TIDE_GPH_N : Fld := ⟨0x10034, 0, 16, 0x3E8⟩
/-! TIDE_GPH_INC (R72) -/
def TIDE_GPH_INC : Fld := ⟨0x10038, 0, 32, 0x418937⟩
/-! TIDE_ALIGN (R78) -/
def TIDE_ALIGN_RINT : Fld := ⟨0x1003C, 16, 8, 64⟩
def TIDE_ALIGN_ALIGN : Fld := ⟨0x1003C, 0, 12, 0xC80⟩
/-! TIDE_SYNC (R89) -/
def TIDE_SYNC_ASYM : Fld := ⟨0x10040, 16, 16, 0⟩
def TIDE_SYNC_ID : Fld := ⟨0x10040, 4, 2, 0⟩
def TIDE_SYNC_COUNT : Fld := ⟨0x10040, 2, 2, 0⟩
def TIDE_SYNC_ROLE : Fld := ⟨0x10040, 0, 2, 0⟩
/-! TIDE_PEER (R90) -/
def TIDE_PEER_VALID (i : Nat) : Fld := ⟨(0x10044 + 4 * i), 31, 1, 0⟩
def TIDE_PEER_DK (i : Nat) : Fld := ⟨(0x10044 + 4 * i), 0, 24, 0⟩
/-! TIDE_HOLD (R93) -/
def TIDE_HOLD_ENTRIES : Fld := ⟨0x10050, 16, 16, 0⟩
def TIDE_HOLD_RELOCK_MS : Fld := ⟨0x10050, 0, 16, 100⟩
/-! TIDE_CLKOUT (R94) -/
def TIDE_CLKOUT_ACTIVE : Fld := ⟨0x10054, 4, 1, 0⟩
def TIDE_CLKOUT_EN : Fld := ⟨0x10054, 3, 1, 0⟩
def TIDE_CLKOUT_SEL : Fld := ⟨0x10054, 0, 3, 1⟩
/-! BRCH_STATUS (R473) -/
def BRCH_STATUS_RESULT : Fld := ⟨0x20000, 28, 4, 0⟩
def BRCH_STATUS_FIRST : Fld := ⟨0x20000, 16, 8, 255⟩
def BRCH_STATUS_LAST : Fld := ⟨0x20000, 8, 8, 255⟩
def BRCH_STATUS_GRACE : Fld := ⟨0x20000, 7, 1, 0⟩
def BRCH_STATUS_PEAK : Fld := ⟨0x20000, 4, 3, 0⟩
def BRCH_STATUS_LEVEL : Fld := ⟨0x20000, 0, 3, 0⟩
/-! BRCH_CFG (R474) -/
def BRCH_CFG_GMAX : Fld := ⟨0x20004, 24, 3, 3⟩
def BRCH_CFG_GRACE : Fld := ⟨0x20004, 0, 12, 100⟩
/-! BRCH_STICKY (R475) -/
def BRCH_STICKY (i : Nat) : Fld := ⟨(0x20008 + 4 * (i / 32)), 1 * (i % 32), 1, 0⟩
/-! BRCH_PIN (R475) -/
def BRCH_PIN (i : Nat) : Fld := ⟨(0x20010 + 4 * (i / 32)), 1 * (i % 32), 1, 0⟩
/-! BRCH_UNACK (R475) -/
def BRCH_UNACK (i : Nat) : Fld := ⟨(0x20018 + 4 * (i / 32)), 1 * (i % 32), 1, 0⟩
/-! BRCH_ACK (R475) -/
def BRCH_ACK (i : Nat) : Fld := ⟨(0x20020 + 4 * (i / 32)), 1 * (i % 32), 1, 0⟩
/-! BRCH_LEVEL (R476) -/
def BRCH_LEVEL (i : Nat) : Fld := ⟨(0x20040 + 4 * (i / 8)), 4 * (i % 8), 3, (levelReset i)⟩
/-! BRCH_EFF (R476) -/
def BRCH_EFF (i : Nat) : Fld := ⟨(0x20060 + 4 * (i / 8)), 4 * (i % 8), 3, 0⟩
/-! BRCH_INJ_CTRL (R478) -/
def BRCH_INJ_CTRL_GO : Fld := ⟨0x20080, 31, 1, 0⟩
def BRCH_INJ_CTRL_ABORT : Fld := ⟨0x20080, 30, 1, 0⟩
def BRCH_INJ_CTRL_MASK : Fld := ⟨0x20080, 16, 7, 0⟩
def BRCH_INJ_CTRL_MEM : Fld := ⟨0x20080, 12, 2, 0⟩
def BRCH_INJ_CTRL_SRC : Fld := ⟨0x20080, 0, 6, 0⟩
/-! BRCH_INJ_ADDR (R478) -/
def BRCH_INJ_ADDR_WORD : Fld := ⟨0x20084, 0, 24, 0⟩
/-! BRCH_INJ_STAT (R478) -/
def BRCH_INJ_STAT_STATE : Fld := ⟨0x20088, 30, 2, 0⟩
def BRCH_INJ_STAT_RESULT : Fld := ⟨0x20088, 27, 3, 0⟩
def BRCH_INJ_STAT_SYND : Fld := ⟨0x20088, 0, 7, 0⟩
/-! BRCH_DET (R477) -/
def BRCH_DET_INJ (i : Nat) : Fld := ⟨(0x20100 + 8 * i), 31, 1, 0⟩
def BRCH_DET_UNSOL (i : Nat) : Fld := ⟨(0x20100 + 8 * i), 30, 1, 0⟩
def BRCH_DET_COUNT (i : Nat) : Fld := ⟨(0x20100 + 8 * i), 24, 4, 0⟩
def BRCH_DET_ADDR (i : Nat) : Fld := ⟨(0x20100 + 8 * i), 0, 24, 0⟩
/-! BRCH_DCODE (R477) -/
def BRCH_DCODE_CODE (i : Nat) : Fld := ⟨(0x20104 + 8 * i), 0, 8, 0⟩
/-! SLU_CFG (R250) -/
def SLU_CFG_SRC0 : Fld := ⟨0x30000, 6, 2, 0⟩
def SLU_CFG_ROLE1 : Fld := ⟨0x30000, 1, 2, 0⟩
def SLU_CFG_EN0 : Fld := ⟨0x30000, 0, 1, 0⟩
/-! SLU_SRC (R251) -/
def SLU_SRC_ACTIVE : Fld := ⟨0x30004, 0, 2, 0⟩
/-! SLU_TIMING (R252) -/
def SLU_TIMING_FBWARN : Fld := ⟨0x30008, 16, 16, 0x1F4⟩
def SLU_TIMING_SNAPDL : Fld := ⟨0x30008, 0, 16, 100⟩
/-! SLU_HOLD (R253) -/
def SLU_HOLD_NORESUME : Fld := ⟨0x3000C, 24, 8, 0⟩
def SLU_HOLD_SAFEHOLD : Fld := ⟨0x3000C, 16, 8, 0⟩
def SLU_HOLD_REPMAX : Fld := ⟨0x3000C, 4, 4, 0⟩
def SLU_HOLD_LIMIT : Fld := ⟨0x3000C, 0, 4, 2⟩
/-! SLU_LINK (R254) -/
def SLU_LINK_CRC (i : Nat) : Fld := ⟨(0x30010 + 4 * i), 24, 8, 0⟩
def SLU_LINK_CODE (i : Nat) : Fld := ⟨(0x30010 + 4 * i), 16, 8, 0⟩
def SLU_LINK_FRAMING (i : Nat) : Fld := ⟨(0x30010 + 4 * i), 8, 8, 0⟩
def SLU_LINK_LCAUSE (i : Nat) : Fld := ⟨(0x30010 + 4 * i), 4, 4, 0⟩
def SLU_LINK_STATE (i : Nat) : Fld := ⟨(0x30010 + 4 * i), 0, 4, 0⟩
/-! SLU_RERR (R255) -/
def SLU_RERR_LATE (i : Nat) : Fld := ⟨(0x30018 + 4 * i), 24, 8, 0⟩
def SLU_RERR_MAP (i : Nat) : Fld := ⟨(0x30018 + 4 * i), 16, 8, 0⟩
def SLU_RERR_SEQ (i : Nat) : Fld := ⟨(0x30018 + 4 * i), 8, 8, 0⟩
def SLU_RERR_OTHER (i : Nat) : Fld := ⟨(0x30018 + 4 * i), 0, 8, 0⟩
/-! SLU_RSQ (R256) -/
def SLU_RSQ_TGT (i : Nat) : Fld := ⟨(0x30020 + 4 * i), 16, 16, 0⟩
def SLU_RSQ_RSQ (i : Nat) : Fld := ⟨(0x30020 + 4 * i), 0, 16, 0⟩
/-! SLU_FB (R257) -/
def SLU_FB_MIN (i : Nat) : Fld := ⟨(0x30028 + 4 * i), 16, 16, 0x7FFF⟩
def SLU_FB_LAST (i : Nat) : Fld := ⟨(0x30028 + 4 * i), 0, 16, 0⟩
/-! COUCH_CFG (R276) -/
def COUCH_CFG_ENG_EN : Fld := ⟨0x30040, 31, 1, 0⟩
def COUCH_CFG_POLICY : Fld := ⟨0x30040, 30, 1, 1⟩
def COUCH_CFG_TIMEOUT : Fld := ⟨0x30040, 16, 11, 64⟩
def COUCH_CFG_DABTOL : Fld := ⟨0x30040, 10, 6, 8⟩
def COUCH_CFG_TOL : Fld := ⟨0x30040, 0, 10, 50⟩
/-! COUCH_REQ (R277) -/
def COUCH_REQ_CANCEL : Fld := ⟨0x30044, 4, 1, 0⟩
def COUCH_REQ_POLICY : Fld := ⟨0x30044, 2, 2, 0⟩
def COUCH_REQ_SRC : Fld := ⟨0x30044, 0, 2, 0⟩
/-! COUCH_STATUS (R278) -/
def COUCH_STATUS_RESULT : Fld := ⟨0x30048, 28, 4, 0⟩
def COUCH_STATUS_END : Fld := ⟨0x30048, 24, 4, 0⟩
def COUCH_STATUS_ACTIVE : Fld := ⟨0x30048, 23, 1, 0⟩
def COUCH_STATUS_POLICY : Fld := ⟨0x30048, 22, 1, 0⟩
def COUCH_STATUS_IN : Fld := ⟨0x30048, 20, 2, 0⟩
def COUCH_STATUS_OUT : Fld := ⟨0x30048, 18, 2, 0⟩
/-! COUCH_PROG (R279) -/
def COUCH_PROG_ELAPSED : Fld := ⟨0x3004C, 16, 11, 0⟩
def COUCH_PROG_REMAIN : Fld := ⟨0x3004C, 0, 8, 0⟩
/-! COUCH_MAP (R280) -/
def COUCH_MAP (i : Nat) : Fld := ⟨(0x30050 + 4 * (i / 32)), 1 * (i % 32), 1, 0⟩
/-! COUCH_DIS (R281) -/
def COUCH_DIS_CTX : Fld := ⟨0x30060, 24, 8, 0⟩
def COUCH_DIS_REASON : Fld := ⟨0x30060, 20, 4, 0⟩
def COUCH_DIS_DIFF : Fld := ⟨0x30060, 0, 16, 0⟩
/-! RACE_DMA (R319) -/
def RACE_DMA_LINKUP : Fld := ⟨0x30800, 31, 1, 0⟩
def RACE_DMA_WIDTH : Fld := ⟨0x30800, 24, 4, 0⟩
def RACE_DMA_GEN : Fld := ⟨0x30800, 20, 4, 0⟩
def RACE_DMA_FLRCNT : Fld := ⟨0x30800, 8, 8, 0⟩
def RACE_DMA_DMAERR : Fld := ⟨0x30800, 0, 8, 0⟩
/-! RACE_VAT_CTRL (R320) -/
def RACE_VAT_CTRL_POST : Fld := ⟨0x30810, 16, 16, 0x100⟩
def RACE_VAT_CTRL_EVT : Fld := ⟨0x30810, 8, 8, 0⟩
def RACE_VAT_CTRL_EVTEN : Fld := ⟨0x30810, 7, 1, 0⟩
def RACE_VAT_CTRL_LVL : Fld := ⟨0x30810, 4, 3, 0⟩
def RACE_VAT_CTRL_DISCARD : Fld := ⟨0x30810, 3, 1, 0⟩
def RACE_VAT_CTRL_TRIG : Fld := ⟨0x30810, 2, 1, 0⟩
def RACE_VAT_CTRL_ARM : Fld := ⟨0x30810, 1, 1, 0⟩
/-! RACE_VAT_STAT (R321) -/
def RACE_VAT_STAT_STATE : Fld := ⟨0x30814, 29, 3, 0⟩
def RACE_VAT_STAT_RESULT : Fld := ⟨0x30814, 27, 2, 0⟩
def RACE_VAT_STAT_OLDEST : Fld := ⟨0x30814, 0, 22, 0⟩
/-! RACE_VAT_FILL (R322) -/
def RACE_VAT_FILL_FILL : Fld := ⟨0x30818, 0, 23, 0⟩
/-! RACE_VAT_PORT (R322) -/
def RACE_VAT_PORT_DATA : Fld := ⟨0x3081C, 0, 32, 0⟩
/-! RACE_SPI (R323) -/
def RACE_SPI_CRCERR : Fld := ⟨0x30820, 24, 8, 0⟩
def RACE_SPI_LENERR : Fld := ⟨0x30820, 16, 8, 0⟩
def RACE_SPI_EN : Fld := ⟨0x30820, 0, 1, 1⟩
/-! RACE_CFG (R312) -/
def RACE_CFG_EN (i : Nat) : Fld := ⟨(0x31000 + 64 * i), 31, 1, 0⟩
def RACE_CFG_SIZE (i : Nat) : Fld := ⟨(0x31000 + 64 * i), 24, 4, 4⟩
def RACE_CFG_CLASS (i : Nat) : Fld := ⟨(0x31000 + 64 * i), 8, 2, 0⟩
def RACE_CFG_KIND (i : Nat) : Fld := ⟨(0x31000 + 64 * i), 0, 4, 0⟩
/-! RACE_BASE_LO (R313) -/
def RACE_BASE_LO_ADDR (i : Nat) : Fld := ⟨(0x31004 + 64 * i), 12, 20, 0⟩
/-! RACE_BASE_HI (R313) -/
def RACE_BASE_HI (i : Nat) : Fld := ⟨(0x31008 + 64 * i), 0, 32, 0⟩
/-! RACE_TAIL (R314) -/
def RACE_TAIL (i : Nat) : Fld := ⟨(0x3100C + 64 * i), 0, 32, 0⟩
/-! RACE_HEAD (R314) -/
def RACE_HEAD (i : Nat) : Fld := ⟨(0x31010 + 64 * i), 0, 32, 0⟩
/-! RACE_NSEQ (R314) -/
def RACE_NSEQ (i : Nat) : Fld := ⟨(0x31014 + 64 * i), 0, 32, 0⟩
/-! RACE_CTRL (R315) -/
def RACE_CTRL_REARM (i : Nat) : Fld := ⟨(0x31018 + 64 * i), 2, 1, 0⟩
def RACE_CTRL_RESUME (i : Nat) : Fld := ⟨(0x31018 + 64 * i), 1, 1, 0⟩
def RACE_CTRL_STOP (i : Nat) : Fld := ⟨(0x31018 + 64 * i), 0, 1, 0⟩
/-! RACE_STAT (R316) -/
def RACE_STAT_DROPS (i : Nat) : Fld := ⟨(0x3101C + 64 * i), 16, 16, 0⟩
def RACE_STAT_ERR (i : Nat) : Fld := ⟨(0x3101C + 64 * i), 8, 4, 0⟩
def RACE_STAT_STOPPED (i : Nat) : Fld := ⟨(0x3101C + 64 * i), 0, 1, 0⟩
/-! RACE_IRQ (R317) -/
def RACE_IRQ_COUNT (i : Nat) : Fld := ⟨(0x31020 + 64 * i), 24, 8, 1⟩
def RACE_IRQ_TIME (i : Nat) : Fld := ⟨(0x31020 + 64 * i), 12, 12, 0⟩
def RACE_IRQ_FLUSH (i : Nat) : Fld := ⟨(0x31020 + 64 * i), 0, 12, 100⟩
/-! PLD_CTRL (R350) -/
def PLD_CTRL_SIG (i : Nat) : Fld := ⟨(0x40000 + 32768 * i), 24, 8, 0⟩
def PLD_CTRL_SIGCTX (i : Nat) : Fld := ⟨(0x40000 + 32768 * i), 16, 8, 0⟩
def PLD_CTRL_STATE (i : Nat) : Fld := ⟨(0x40000 + 32768 * i), 0, 2, 0⟩
/-! PLD_SCHED (R351) -/
def PLD_SCHED_START (i : Nat) : Fld := ⟨(0x40004 + 32768 * i), 0, 16, 0⟩
/-! PLD_LOAD (R352) -/
def PLD_LOAD_MAX (i : Nat) : Fld := ⟨(0x40008 + 32768 * i), 16, 16, 0⟩
def PLD_LOAD_LAST (i : Nat) : Fld := ⟨(0x40008 + 32768 * i), 0, 16, 0⟩
/-! PLD_FAULT (R353) -/
def PLD_FAULT_CAUSE (i : Nat) : Fld := ⟨(0x4000C + 32768 * i), 28, 4, 0⟩
def PLD_FAULT_CTX (i : Nat) : Fld := ⟨(0x4000C + 32768 * i), 16, 8, 0⟩
def PLD_FAULT_PC (i : Nat) : Fld := ⟨(0x4000C + 32768 * i), 0, 12, 0⟩
/-! LANE_CFG (R140) -/
def LANE_CFG_ION (i : Nat) : Fld := ⟨(laneOff i + 0x0), 16, 8, 60⟩
def LANE_CFG_DLOS (i : Nat) : Fld := ⟨(laneOff i + 0x0), 8, 4, 2⟩
def LANE_CFG_ROLE (i : Nat) : Fld := ⟨(laneOff i + 0x0), 0, 2, 0⟩
/-! LANE_LINK (R141) -/
def LANE_LINK_SYNC (i : Nat) : Fld := ⟨(laneOff i + 0x4), 31, 1, 0⟩
def LANE_LINK_LOS (i : Nat) : Fld := ⟨(laneOff i + 0x4), 30, 1, 0⟩
def LANE_LINK_RSSI (i : Nat) : Fld := ⟨(laneOff i + 0x4), 16, 8, 0⟩
def LANE_LINK_STATE (i : Nat) : Fld := ⟨(laneOff i + 0x4), 0, 4, 0⟩
/-! LANE_ERR (R142) -/
def LANE_ERR_CODE (i : Nat) : Fld := ⟨(laneOff i + 0x8), 24, 8, 0⟩
def LANE_ERR_CRC (i : Nat) : Fld := ⟨(laneOff i + 0x8), 16, 8, 0⟩
def LANE_ERR_FRAMING (i : Nat) : Fld := ⟨(laneOff i + 0x8), 8, 8, 0⟩
def LANE_ERR_LOSCNT (i : Nat) : Fld := ⟨(laneOff i + 0x8), 0, 8, 0⟩
/-! LANE_SEQ (R143) -/
def LANE_SEQ_RGAP (i : Nat) : Fld := ⟨(laneOff i + 0xC), 24, 8, 0⟩
def LANE_SEQ_ACKSEQ (i : Nat) : Fld := ⟨(laneOff i + 0xC), 16, 8, 0⟩
def LANE_SEQ_RSEQ (i : Nat) : Fld := ⟨(laneOff i + 0xC), 8, 8, 0⟩
def LANE_SEQ_SSEQ (i : Nat) : Fld := ⟨(laneOff i + 0xC), 0, 8, 0⟩
/-! LANE_BULK (R144) -/
def LANE_BULK_RETX (i : Nat) : Fld := ⟨(laneOff i + 0x10), 24, 8, 0⟩
def LANE_BULK_CREDIT (i : Nat) : Fld := ⟨(laneOff i + 0x10), 16, 8, 0⟩
def LANE_BULK_NEXT (i : Nat) : Fld := ⟨(laneOff i + 0x10), 8, 8, 0⟩
def LANE_BULK_PSEQ (i : Nat) : Fld := ⟨(laneOff i + 0x10), 0, 8, 0⟩
/-! LANE_LED (R172) -/
def LANE_LED_DARK_NOW (i : Nat) : Fld := ⟨(laneOff i + 0x14), 31, 1, 0⟩
def LANE_LED_LIT_NOW (i : Nat) : Fld := ⟨(laneOff i + 0x14), 30, 1, 0⟩
def LANE_LED_DARKACT (i : Nat) : Fld := ⟨(laneOff i + 0x14), 25, 1, 1⟩
def LANE_LED_REARM (i : Nat) : Fld := ⟨(laneOff i + 0x14), 24, 1, 0⟩
def LANE_LED_ISENSE (i : Nat) : Fld := ⟨(laneOff i + 0x14), 16, 8, 0⟩
def LANE_LED_DRIVE_OFF (i : Nat) : Fld := ⟨(laneOff i + 0x14), 8, 1, 0⟩
def LANE_LED_LED_LIT (i : Nat) : Fld := ⟨(laneOff i + 0x14), 1, 1, 0⟩
def LANE_LED_LED_DARK (i : Nat) : Fld := ⟨(laneOff i + 0x14), 0, 1, 0⟩
/-! LANE_DOUT (R81) -/
def LANE_DOUT_VALID (i : Nat) : Fld := ⟨(laneOff i + 0x20), 31, 1, 0⟩
def LANE_DOUT_OOR (i : Nat) : Fld := ⟨(laneOff i + 0x20), 30, 1, 0⟩
def LANE_DOUT_SETTLING (i : Nat) : Fld := ⟨(laneOff i + 0x20), 29, 1, 0⟩
def LANE_DOUT_FD (i : Nat) : Fld := ⟨(laneOff i + 0x20), 24, 5, 0⟩
def LANE_DOUT_DOUT (i : Nat) : Fld := ⟨(laneOff i + 0x20), 0, 24, 0⟩
/-! LANE_TCAL (R81) -/
def LANE_TCAL_RXD (i : Nat) : Fld := ⟨(laneOff i + 0x24), 16, 16, 0⟩
def LANE_TCAL_TXD (i : Nat) : Fld := ⟨(laneOff i + 0x24), 0, 16, 0⟩
/-! LANE_ASYM (R81) -/
def LANE_ASYM_ASYM (i : Nat) : Fld := ⟨(laneOff i + 0x28), 0, 16, 0⟩
/-! CTX_STATE (R206) -/
def CTX_STATE_AGE (i : Nat) : Fld := ⟨(0x80000 + 256 * i), 16, 16, 0⟩
def CTX_STATE_LCAUSE (i : Nat) : Fld := ⟨(0x80000 + 256 * i), 12, 4, 0⟩
def CTX_STATE_PENDMAP (i : Nat) : Fld := ⟨(0x80000 + 256 * i), 8, 1, 0⟩
def CTX_STATE_REQUIRED (i : Nat) : Fld := ⟨(0x80000 + 256 * i), 7, 1, 0⟩
def CTX_STATE_LISTED (i : Nat) : Fld := ⟨(0x80000 + 256 * i), 6, 1, 0⟩
def CTX_STATE_STATE (i : Nat) : Fld := ⟨(0x80000 + 256 * i), 0, 4, 0⟩
/-! CTX_ID_LO (R207) -/
def CTX_ID_LO (i : Nat) : Fld := ⟨(0x80004 + 256 * i), 0, 32, 0⟩
/-! CTX_ID_HI (R207) -/
def CTX_ID_HI (i : Nat) : Fld := ⟨(0x80008 + 256 * i), 0, 32, 0⟩
/-! CTX_CAP (R208) -/
def CTX_CAP_TLOSS (i : Nat) : Fld := ⟨(0x8000C + 256 * i), 24, 8, 0⟩
def CTX_CAP_NSL (i : Nat) : Fld := ⟨(0x8000C + 256 * i), 16, 8, 0⟩
def CTX_CAP_CRED (i : Nat) : Fld := ⟨(0x8000C + 256 * i), 8, 8, 0⟩
def CTX_CAP_CAP (i : Nat) : Fld := ⟨(0x8000C + 256 * i), 0, 8, 0⟩
/-! CTX_BIND (R209) -/
def CTX_BIND_TRET (i : Nat) : Fld := ⟨(0x80010 + 256 * i), 16, 16, 0⟩
def CTX_BIND_VALID (i : Nat) : Fld := ⟨(0x80010 + 256 * i), 15, 1, 0⟩
def CTX_BIND_LOCK (i : Nat) : Fld := ⟨(0x80010 + 256 * i), 14, 1, 0⟩
def CTX_BIND_LANE (i : Nat) : Fld := ⟨(0x80010 + 256 * i), 0, 8, 255⟩
/-! CTX_CMD (R210) -/
def CTX_CMD_RESUME (i : Nat) : Fld := ⟨(0x80014 + 256 * i), 1, 1, 0⟩
def CTX_CMD_RETIRE (i : Nat) : Fld := ⟨(0x80014 + 256 * i), 0, 1, 0⟩
/-! CTX_RELOC (R211) -/
def CTX_RELOC_RESULT (i : Nat) : Fld := ⟨(0x80018 + 256 * i), 28, 4, 0⟩
def CTX_RELOC_GO (i : Nat) : Fld := ⟨(0x80018 + 256 * i), 8, 1, 0⟩
def CTX_RELOC_TARGET (i : Nat) : Fld := ⟨(0x80018 + 256 * i), 0, 8, 255⟩
/-! CTX_HROUTE (R318) -/
def CTX_HROUTE_BRACE (i : Nat) : Fld := ⟨(0x8001C + 256 * i), 20, 4, 0⟩
def CTX_HROUTE_BEN (i : Nat) : Fld := ⟨(0x8001C + 256 * i), 19, 1, 0⟩
def CTX_HROUTE_TCHEN (i : Nat) : Fld := ⟨(0x8001C + 256 * i), 12, 4, 0⟩
def CTX_HROUTE_TRACE (i : Nat) : Fld := ⟨(0x8001C + 256 * i), 0, 4, 0⟩
/-! CTX_PROG (R355) -/
def CTX_PROG_BUDGET (i : Nat) : Fld := ⟨(0x80020 + 256 * i), 18, 14, 0⟩
def CTX_PROG_BMBX (i : Nat) : Fld := ⟨(0x80020 + 256 * i), 5, 1, 0⟩
def CTX_PROG_SLACK (i : Nat) : Fld := ⟨(0x80020 + 256 * i), 4, 1, 0⟩
def CTX_PROG_FILL (i : Nat) : Fld := ⟨(0x80020 + 256 * i), 2, 2, 0⟩
def CTX_PROG_ASPECT (i : Nat) : Fld := ⟨(0x80020 + 256 * i), 1, 1, 0⟩
/-! CTX_PSTAT (R356) -/
def CTX_PSTAT_EXHAUST (i : Nat) : Fld := ⟨(0x80024 + 256 * i), 24, 8, 0⟩
def CTX_PSTAT_EXCEPT (i : Nat) : Fld := ⟨(0x80024 + 256 * i), 20, 4, 0⟩
def CTX_PSTAT_SAFEREQ (i : Nat) : Fld := ⟨(0x80024 + 256 * i), 17, 1, 0⟩
def CTX_PSTAT_FILLDONE (i : Nat) : Fld := ⟨(0x80024 + 256 * i), 16, 1, 0⟩
def CTX_PSTAT_LASTCYC (i : Nat) : Fld := ⟨(0x80024 + 256 * i), 0, 16, 0⟩
/-! CTX_MBX (R357) -/
def CTX_MBX_PDROP (i : Nat) : Fld := ⟨(0x80028 + 256 * i), 24, 8, 0⟩
def CTX_MBX_PCOUNT (i : Nat) : Fld := ⟨(0x80028 + 256 * i), 0, 5, 0⟩
/-! CTX_GANG (R84) -/
def CTX_GANG_EN (i : Nat) : Fld := ⟨(0x80040 + 256 * i), 4, 1, 0⟩
def CTX_GANG_GANG (i : Nat) : Fld := ⟨(0x80040 + 256 * i), 0, 4, 0⟩
/-! CTX_ASPECT (R176) -/
def CTX_ASPECT_MINGAP (i : Nat) : Fld := ⟨(0x80080 + 256 * i), 24, 8, 25⟩
def CTX_ASPECT_CMD (i : Nat) : Fld := ⟨(0x80080 + 256 * i), 12, 4, 0⟩
def CTX_ASPECT_FB (i : Nat) : Fld := ⟨(0x80080 + 256 * i), 8, 4, 15⟩
def CTX_ASPECT_UMAX (i : Nat) : Fld := ⟨(0x80080 + 256 * i), 4, 3, 0⟩
def CTX_ASPECT_SAFE (i : Nat) : Fld := ⟨(0x80080 + 256 * i), 0, 1, 0⟩
/-! CTX_PROOF_CFG (R177) -/
def CTX_PROOF_CFG_SUMEN (i : Nat) : Fld := ⟨(0x80084 + 256 * i), 31, 1, 0⟩
def CTX_PROOF_CFG_FAILLIM (i : Nat) : Fld := ⟨(0x80084 + 256 * i), 24, 4, 3⟩
def CTX_PROOF_CFG_EVEN (i : Nat) : Fld := ⟨(0x80084 + 256 * i), 16, 4, 14⟩
def CTX_PROOF_CFG_TSW (i : Nat) : Fld := ⟨(0x80084 + 256 * i), 8, 6, 16⟩
def CTX_PROOF_CFG_W (i : Nat) : Fld := ⟨(0x80084 + 256 * i), 0, 7, 20⟩
/-! CTX_PROVEN (R178) -/
def CTX_PROVEN (i : Nat) : Fld := ⟨(0x80088 + 256 * i), 0, 32, 0⟩
/-! CTX_PFAIL (R178) -/
def CTX_PFAIL_REJECT (i : Nat) : Fld := ⟨(0x8008C + 256 * i), 24, 8, 0⟩
def CTX_PFAIL_LATE (i : Nat) : Fld := ⟨(0x8008C + 256 * i), 16, 8, 0⟩
def CTX_PFAIL_SILENT (i : Nat) : Fld := ⟨(0x8008C + 256 * i), 8, 8, 0⟩
def CTX_PFAIL_CONTRA (i : Nat) : Fld := ⟨(0x8008C + 256 * i), 0, 8, 0⟩
/-! CTX_PAUX (R178) -/
def CTX_PAUX_CELLACT (i : Nat) : Fld := ⟨(0x80090 + 256 * i), 24, 8, 0⟩
def CTX_PAUX_STRAY (i : Nat) : Fld := ⟨(0x80090 + 256 * i), 16, 8, 0⟩
def CTX_PAUX_MAPERR (i : Nat) : Fld := ⟨(0x80090 + 256 * i), 12, 4, 0⟩
def CTX_PAUX_OVFL (i : Nat) : Fld := ⟨(0x80090 + 256 * i), 8, 4, 0⟩
def CTX_PAUX_SUBST (i : Nat) : Fld := ⟨(0x80090 + 256 * i), 0, 8, 0⟩
/-! CTX_PLAST0 (R179) -/
def CTX_PLAST0 (i : Nat) : Fld := ⟨(0x80094 + 256 * i), 0, 32, 0⟩
/-! CTX_PLAST1 (R179) -/
def CTX_PLAST1 (i : Nat) : Fld := ⟨(0x80098 + 256 * i), 0, 32, 0⟩
/-! CTX_PROOF_ROUTE (R180) -/
def CTX_PROOF_ROUTE_REN : Fld := ⟨0x88000, 31, 1, 0⟩
def CTX_PROOF_ROUTE_FAILONLY : Fld := ⟨0x88000, 30, 1, 1⟩
def CTX_PROOF_ROUTE_RACE : Fld := ⟨0x88000, 16, 4, 0⟩
def CTX_PROOF_ROUTE_DROPS : Fld := ⟨0x88000, 0, 16, 0⟩
/-! CTX_PFAIL_MAP (R181) -/
def CTX_PFAIL_MAP (i : Nat) : Fld := ⟨(0x88010 + 4 * (i / 32)), 1 * (i % 32), 1, 0⟩
/-! CTX_ADMIT_CFG (R212) -/
def CTX_ADMIT_CFG_LOSTDARK : Fld := ⟨0x88020, 24, 8, 20⟩
def CTX_ADMIT_CFG_RMISS : Fld := ⟨0x88020, 20, 4, 3⟩
def CTX_ADMIT_CFG_BINDLEAD : Fld := ⟨0x88020, 16, 4, 4⟩
def CTX_ADMIT_CFG_CRED : Fld := ⟨0x88020, 8, 8, 4⟩
def CTX_ADMIT_CFG_POLICY : Fld := ⟨0x88020, 0, 2, 1⟩
/-! CTX_MAPVER (R213) -/
def CTX_MAPVER_PVALID : Fld := ⟨0x88024, 17, 1, 0⟩
def CTX_MAPVER_WAITING : Fld := ⟨0x88024, 16, 1, 0⟩
def CTX_MAPVER_PEND : Fld := ⟨0x88024, 8, 8, 0⟩
def CTX_MAPVER_CUR : Fld := ⟨0x88024, 0, 8, 0⟩
/-! CTX_PEND_LO (R215) -/
def CTX_PEND_LO : Fld := ⟨0x88028, 0, 32, 0⟩
/-! CTX_PEND_HI (R215) -/
def CTX_PEND_HI : Fld := ⟨0x8802C, 0, 32, 0⟩
/-! CTX_PEND_INFO (R215) -/
def CTX_PEND_INFO_DEPTH : Fld := ⟨0x88030, 16, 4, 0⟩
def CTX_PEND_INFO_VALID : Fld := ⟨0x88030, 15, 1, 0⟩
def CTX_PEND_INFO_LANE : Fld := ⟨0x88030, 0, 8, 0⟩
/-! CTX_APPROVE (R216) -/
def CTX_APPROVE_RESULT : Fld := ⟨0x88034, 28, 4, 0⟩
def CTX_APPROVE_DENY : Fld := ⟨0x88034, 9, 1, 0⟩
def CTX_APPROVE_APPROVE : Fld := ⟨0x88034, 8, 1, 0⟩
def CTX_APPROVE_CTX : Fld := ⟨0x88034, 0, 8, 0⟩
/-! CTX_REFUSE_LOG (R217) -/
def CTX_REFUSE_LOG_COUNT : Fld := ⟨0x88038, 24, 8, 0⟩
def CTX_REFUSE_LOG_REASON : Fld := ⟨0x88038, 20, 4, 0⟩
def CTX_REFUSE_LOG_LANE : Fld := ⟨0x88038, 0, 8, 0⟩
/-! CTX_MEMBER (R214) -/
def CTX_MEMBER (i : Nat) : Fld := ⟨(0x88040 + 4 * (i / 32)), 1 * (i % 32), 1, 0⟩
/-! CTX_MEMBER_PEND (R214) -/
def CTX_MEMBER_PEND (i : Nat) : Fld := ⟨(0x88050 + 4 * (i / 32)), 1 * (i % 32), 1, 0⟩
/-! DIKE_CTRL (R391) -/
def DIKE_CTRL_FCLR : Fld := ⟨0x90000, 2, 1, 0⟩
def DIKE_CTRL_SWAP : Fld := ⟨0x90000, 1, 1, 0⟩
def DIKE_CTRL_ARM : Fld := ⟨0x90000, 0, 1, 0⟩
/-! DIKE_STATUS (R392) -/
def DIKE_STATUS_STOPCAUSE : Fld := ⟨0x90004, 28, 4, 0⟩
def DIKE_STATUS_RESULT : Fld := ⟨0x90004, 24, 4, 0⟩
def DIKE_STATUS_ARMED : Fld := ⟨0x90004, 23, 1, 0⟩
def DIKE_STATUS_ONLINE : Fld := ⟨0x90004, 22, 1, 0⟩
def DIKE_STATUS_BANK : Fld := ⟨0x90004, 21, 1, 0⟩
def DIKE_STATUS_SWAPPEND : Fld := ⟨0x90004, 20, 1, 0⟩
def DIKE_STATUS_CHECKED : Fld := ⟨0x90004, 18, 2, 0⟩
def DIKE_STATUS_STATE : Fld := ⟨0x90004, 16, 2, 0⟩
def DIKE_STATUS_PC : Fld := ⟨0x90004, 0, 15, 0⟩
/-! DIKE_CFG (R393) -/
def DIKE_CFG_CRET : Fld := ⟨0x90008, 24, 8, 0⟩
def DIKE_CFG_CYCLE : Fld := ⟨0x90008, 0, 11, 100⟩
/-! DIKE_RETAIN (R393) -/
def DIKE_RETAIN_WRET : Fld := ⟨0x9000C, 16, 12, 0⟩
def DIKE_RETAIN_MRET : Fld := ⟨0x9000C, 0, 14, 0⟩
/-! DIKE_LOAD (R394) -/
def DIKE_LOAD_MAX : Fld := ⟨0x90010, 16, 16, 0⟩
def DIKE_LOAD_LAST : Fld := ⟨0x90010, 0, 16, 0⟩
/-! DIKE_CYCCNT (R395) -/
def DIKE_CYCCNT_K : Fld := ⟨0x90014, 0, 32, 0⟩
/-! DIKE_SAFEOUT (R395) -/
def DIKE_SAFEOUT_MASK : Fld := ⟨0x90018, 0, 16, 0⟩
/-! DIKE_SAFEIN (R395) -/
def DIKE_SAFEIN_MASK : Fld := ⟨0x9001C, 0, 24, 0⟩
/-! DIKE_PWIN_ADDR (R396) -/
def DIKE_PWIN_ADDR_A : Fld := ⟨0x90020, 0, 15, 0⟩
/-! DIKE_PWIN_DATA (R396) -/
def DIKE_PWIN_DATA_D : Fld := ⟨0x90024, 0, 32, 0⟩
/-! DIKE_PLEN (R396) -/
def DIKE_PLEN_N : Fld := ⟨0x90028, 0, 16, 0⟩
/-! DIKE_PCRC (R396) -/
def DIKE_PCRC_C : Fld := ⟨0x9002C, 0, 32, 0⟩
/-! DIKE_SWIN_ADDR (R396) -/
def DIKE_SWIN_ADDR_A : Fld := ⟨0x90030, 0, 12, 0⟩
/-! DIKE_SWIN_DATA (R396) -/
def DIKE_SWIN_DATA_D : Fld := ⟨0x90034, 0, 32, 0⟩
/-! DIKE_SLEN (R396) -/
def DIKE_SLEN_N : Fld := ⟨0x90038, 0, 13, 0⟩
/-! DIKE_FSEL (R397) -/
def DIKE_FSEL_ENTRY : Fld := ⟨0x90040, 0, 6, 0⟩
/-! DIKE_FENT (R397) -/
def DIKE_FENT_VALID : Fld := ⟨0x90044, 31, 1, 0⟩
def DIKE_FENT_AREA : Fld := ⟨0x90044, 24, 4, 0⟩
def DIKE_FENT_TYPE : Fld := ⟨0x90044, 20, 4, 0⟩
def DIKE_FENT_ADDR : Fld := ⟨0x90044, 0, 16, 0⟩
/-! DIKE_FVAL (R397) -/
def DIKE_FVAL_VALUE : Fld := ⟨0x90048, 0, 32, 0⟩
/-! DIKE_FRES (R397) -/
def DIKE_FRES_RESULT : Fld := ⟨0x9004C, 28, 4, 0⟩
def DIKE_FRES_RELEASED : Fld := ⟨0x9004C, 8, 8, 0⟩
def DIKE_FRES_COUNT : Fld := ⟨0x9004C, 0, 7, 0⟩
/-! DIKE_FLOG (R397) -/
def DIKE_FLOG_REASON : Fld := ⟨0x90050, 28, 4, 0⟩
def DIKE_FLOG_AREA : Fld := ⟨0x90050, 24, 4, 0⟩
def DIKE_FLOG_ADDR : Fld := ⟨0x90050, 0, 16, 0⟩
/-! SAF_STATUS (R454) -/
def SAF_STATUS_RESULT : Fld := ⟨0x90100, 28, 4, 0⟩
def SAF_STATUS_RESETS : Fld := ⟨0x90100, 16, 8, 0⟩
def SAF_STATUS_DSTOP : Fld := ⟨0x90100, 7, 1, 0⟩
def SAF_STATUS_WDEMAND : Fld := ⟨0x90100, 6, 1, 0⟩
def SAF_STATUS_ALL : Fld := ⟨0x90100, 5, 1, 1⟩
def SAF_STATUS_CONFAULT : Fld := ⟨0x90100, 0, 4, 0⟩
/-! SAF_RESET (R454) -/
def SAF_RESET_EN : Fld := ⟨0x90104, 31, 1, 0⟩
def SAF_RESET_IN : Fld := ⟨0x90104, 24, 5, 0⟩
def SAF_RESET_TMAX : Fld := ⟨0x90104, 16, 8, 20⟩
def SAF_RESET_TMIN : Fld := ⟨0x90104, 8, 8, 10⟩
/-! SAF_CON (R454) -/
def SAF_CON_EN (i : Nat) : Fld := ⟨(0x90110 + 4 * i), 31, 1, 0⟩
def SAF_CON_FBPOL (i : Nat) : Fld := ⟨(0x90110 + 4 * i), 30, 1, 0⟩
def SAF_CON_CSEL (i : Nat) : Fld := ⟨(0x90110 + 4 * i), 28, 2, 0⟩
def SAF_CON_OUT (i : Nat) : Fld := ⟨(0x90110 + 4 * i), 24, 4, 0⟩
def SAF_CON_FB (i : Nat) : Fld := ⟨(0x90110 + 4 * i), 19, 5, 0⟩
def SAF_CON_TON (i : Nat) : Fld := ⟨(0x90110 + 4 * i), 8, 8, 25⟩
def SAF_CON_TOFF (i : Nat) : Fld := ⟨(0x90110 + 4 * i), 0, 8, 25⟩
/-! SAF_CONST (R454) -/
def SAF_CONST_STATE : Fld := ⟨0x90120, 0, 16, 0⟩
/-! SAF_SCRC (R454) -/
def SAF_SCRC_SCRC : Fld := ⟨0x90124, 0, 32, 0⟩
/-! FLD_CFG (R427) -/
def FLD_CFG_USE : Fld := ⟨0xA0000, 24, 2, 0⟩
def FLD_CFG_DTP : Fld := ⟨0xA0000, 16, 8, 10⟩
def FLD_CFG_DTW : Fld := ⟨0xA0000, 8, 8, 30⟩
def FLD_CFG_SILENCE : Fld := ⟨0xA0000, 0, 8, 4⟩
/-! FLD_TP (R427) -/
def FLD_TP_TPP : Fld := ⟨0xA0004, 16, 16, 100⟩
def FLD_TP_TPW : Fld := ⟨0xA0004, 8, 8, 20⟩
/-! FLD_GRP (R427) -/
def FLD_GRP_SRC : Fld := ⟨0xA0008, 0, 18, 0⟩
/-! FLD_STATUS (R427) -/
def FLD_STATUS_SILCNT : Fld := ⟨0xA000C, 16, 8, 0⟩
def FLD_STATUS_DECLARED : Fld := ⟨0xA000C, 9, 1, 0⟩
def FLD_STATUS_BERM_OK : Fld := ⟨0xA000C, 8, 1, 0⟩
def FLD_STATUS_SILENCED : Fld := ⟨0xA000C, 7, 1, 0⟩
def FLD_STATUS_SAFETY_FAULT : Fld := ⟨0xA000C, 6, 1, 0⟩
def FLD_STATUS_GRPB_OFF : Fld := ⟨0xA000C, 5, 1, 0⟩
def FLD_STATUS_GRPA_OFF : Fld := ⟨0xA000C, 4, 1, 0⟩
def FLD_STATUS_RELEASE_OK : Fld := ⟨0xA000C, 3, 1, 0⟩
def FLD_STATUS_DROPLATCH : Fld := ⟨0xA000C, 2, 1, 1⟩
def FLD_STATUS_SUPPLY : Fld := ⟨0xA000C, 0, 2, 3⟩
/-! FLD_SUP (R427) -/
def FLD_SUP_LPL : Fld := ⟨0xA0010, 20, 10, 0⟩
def FLD_SUP_LPB : Fld := ⟨0xA0010, 10, 10, 0⟩
def FLD_SUP_LPA : Fld := ⟨0xA0010, 0, 10, 0⟩
/-! FLD_CTRL (R427) -/
def FLD_CTRL_RESULT : Fld := ⟨0xA0014, 28, 4, 0⟩
def FLD_CTRL_GRPB_REARM : Fld := ⟨0xA0014, 1, 1, 0⟩
def FLD_CTRL_GRPA_REARM : Fld := ⟨0xA0014, 0, 1, 0⟩
/-! FLD_IN (R428) -/
def FLD_IN_DEB (i : Nat) : Fld := ⟨(0xA0100 + 4 * i), 16, 16, 0⟩
def FLD_IN_PARTNER (i : Nat) : Fld := ⟨(0xA0100 + 4 * i), 14, 2, 0⟩
def FLD_IN_TYPE (i : Nat) : Fld := ⟨(0xA0100 + 4 * i), 12, 2, 0⟩
def FLD_IN_FAULT (i : Nat) : Fld := ⟨(0xA0100 + 4 * i), 8, 4, 0⟩
def FLD_IN_IIN (i : Nat) : Fld := ⟨(0xA0100 + 4 * i), 0, 8, 0⟩
/-! FLD_OUT (R428) -/
def FLD_OUT_LAMP (i : Nat) : Fld := ⟨(0xA0200 + 4 * i), 31, 1, 0⟩
def FLD_OUT_DTEST (i : Nat) : Fld := ⟨(0xA0200 + 4 * i), 30, 1, 0⟩
def FLD_OUT_SILENT (i : Nat) : Fld := ⟨(0xA0200 + 4 * i), 29, 1, 0⟩
def FLD_OUT_FAILED (i : Nat) : Fld := ⟨(0xA0200 + 4 * i), 27, 1, 0⟩
def FLD_OUT_LSTATE (i : Nat) : Fld := ⟨(0xA0200 + 4 * i), 24, 2, 0⟩
def FLD_OUT_FAULT (i : Nat) : Fld := ⟨(0xA0200 + 4 * i), 20, 4, 0⟩
def FLD_OUT_PARTNER (i : Nat) : Fld := ⟨(0xA0200 + 4 * i), 16, 4, 0⟩
def FLD_OUT_LMIN (i : Nat) : Fld := ⟨(0xA0200 + 4 * i), 8, 8, 0⟩
def FLD_OUT_IOUT (i : Nat) : Fld := ⟨(0xA0200 + 4 * i), 0, 8, 0⟩
/-! CAB_ASP (R429) -/
def CAB_ASP_FLASH (i : Nat) : Fld := ⟨(0xA0400 + 4 * i), 16, 16, 0⟩
def CAB_ASP_LIT (i : Nat) : Fld := ⟨(0xA0400 + 4 * i), 0, 16, 0⟩
/-! CAB_FALLBACK (R429) -/
def CAB_FALLBACK_FB : Fld := ⟨0xA0420, 0, 24, 0⟩
/-! CAB_ISO (R429) -/
def CAB_ISO_DWELL : Fld := ⟨0xA0424, 24, 8, 10⟩
def CAB_ISO_MASK : Fld := ⟨0xA0424, 0, 24, 0⟩
/-! CAB_STATUS (R429) -/
def CAB_STATUS_CHANGES : Fld := ⟨0xA0428, 24, 8, 0⟩
def CAB_STATUS_REASON : Fld := ⟨0xA0428, 20, 4, 0⟩
def CAB_STATUS_ISO_OK : Fld := ⟨0xA0428, 19, 1, 0⟩
def CAB_STATUS_PROVEN : Fld := ⟨0xA0428, 18, 1, 0⟩
def CAB_STATUS_REQ : Fld := ⟨0xA0428, 8, 3, 0⟩
def CAB_STATUS_SHOWN : Fld := ⟨0xA0428, 0, 4, 8⟩
/-! BIST_CTRL (R496) -/
def BIST_CTRL_ABORT : Fld := ⟨0xB0000, 31, 1, 0⟩
def BIST_CTRL_RUN : Fld := ⟨0xB0000, 30, 1, 0⟩
def BIST_CTRL_EXTLOOP : Fld := ⟨0xB0000, 29, 1, 0⟩
def BIST_CTRL_TEST : Fld := ⟨0xB0000, 0, 6, 0⟩
/-! BIST_STATUS (R497) -/
def BIST_STATUS_RESULT : Fld := ⟨0xB0004, 28, 4, 0⟩
def BIST_STATUS_POLDERS : Fld := ⟨0xB0004, 16, 8, 0⟩
def BIST_STATUS_QUEUE : Fld := ⟨0xB0004, 8, 8, 0⟩
def BIST_STATUS_NONPOLDER : Fld := ⟨0xB0004, 0, 6, 63⟩
/-! BIST_ROLL (R498) -/
def BIST_ROLL_EN : Fld := ⟨0xB0008, 31, 1, 0⟩
def BIST_ROLL_RESULT : Fld := ⟨0xB0008, 28, 3, 0⟩
def BIST_ROLL_LANE : Fld := ⟨0xB0008, 20, 8, 255⟩
def BIST_ROLL_STEP : Fld := ⟨0xB0008, 12, 8, 0⟩
def BIST_ROLL_PERIOD : Fld := ⟨0xB0008, 0, 12, 60⟩
/-! BIST_ROLLFAIL (R499) -/
def BIST_ROLLFAIL (i : Nat) : Fld := ⟨(0xB0020 + 4 * (i / 32)), 1 * (i % 32), 1, 0⟩
/-! BIST_REP (R500) -/
def BIST_REP_RESULT : Fld := ⟨0xB0040, 28, 4, 0⟩
def BIST_REP_FUSE : Fld := ⟨0xB0040, 27, 1, 0⟩
def BIST_REP_GO : Fld := ⟨0xB0040, 26, 1, 0⟩
def BIST_REP_KIND : Fld := ⟨0xB0040, 24, 2, 0⟩
def BIST_REP_UNIT : Fld := ⟨0xB0040, 12, 12, 0⟩
def BIST_REP_ELEMENT : Fld := ⟨0xB0040, 4, 8, 0⟩
/-! BIST_REPCNT (R500) -/
def BIST_REPCNT_SOFT : Fld := ⟨0xB0044, 24, 8, 0⟩
def BIST_REPCNT_FUSED : Fld := ⟨0xB0044, 12, 12, 0⟩
/-! BIST_TSTAT (R501) -/
def BIST_TSTAT_RESULT (i : Nat) : Fld := ⟨(0xB0100 + 16 * i), 28, 4, 0⟩
def BIST_TSTAT_FAILINFO (i : Nat) : Fld := ⟨(0xB0100 + 16 * i), 0, 24, 0⟩
/-! BIST_TCNT (R501) -/
def BIST_TCNT_COUNT (i : Nat) : Fld := ⟨(0xB0104 + 16 * i), 0, 32, 0⟩
/-! BIST_TSIG (R501) -/
def BIST_TSIG_SIG (i : Nat) : Fld := ⟨(0xB0108 + 16 * i), 0, 32, 0⟩
/-! BIST_TEXP (R501) -/
def BIST_TEXP_EXPECTED (i : Nat) : Fld := ⟨(0xB010C + 16 * i), 0, 32, (testCount i)⟩
/-! LDG_STATUS (R570) -/
def LDG_STATUS_RESULT : Fld := ⟨0xC8000, 30, 2, 0⟩
def LDG_STATUS_SCRUB : Fld := ⟨0xC8000, 29, 1, 0⟩
def LDG_STATUS_WEEK : Fld := ⟨0xC8000, 0, 16, 0⟩
/-! LDG_PAGE (R570) -/
def LDG_PAGE_PAGE : Fld := ⟨0xC8004, 0, 6, 0⟩
/-! LDG_SECS_LO (R570) -/
def LDG_SECS_LO : Fld := ⟨0xC8008, 0, 32, 0⟩
/-! LDG_SECS_HI (R570) -/
def LDG_SECS_HI : Fld := ⟨0xC800C, 0, 32, 0⟩
/-! LDG_TREND (R570) -/
def LDG_TREND_TI : Fld := ⟨0xC8010, 0, 8, 20⟩
/-! LDG_AGE (R570) -/
def LDG_AGE_LEDH : Fld := ⟨0xC8014, 24, 8, 150⟩
def LDG_AGE_MARGIN : Fld := ⟨0xC8014, 16, 8, 24⟩
def LDG_AGE_HORIZON : Fld := ⟨0xC8014, 0, 16, 104⟩
/-! LDG_WARN (R570) -/
def LDG_WARN (i : Nat) : Fld := ⟨(0xC8020 + 4 * (i / 32)), 1 * (i % 32), 1, 0⟩
/-! LDG_LSEL (R570) -/
def LDG_LSEL_LANE : Fld := ⟨0xC8040, 0, 8, 0⟩
/-! LDG_LVIEW (R570) -/
def LDG_LVIEW_H : Fld := ⟨0xC8044, 16, 16, 0xFFFF⟩
def LDG_LVIEW_SLOPE : Fld := ⟨0xC8044, 8, 8, 0⟩
def LDG_LVIEW_M : Fld := ⟨0xC8044, 0, 8, 0⟩
/-! TWIN_CFG (R455) -/
def TWIN_CFG_ETYPE : Fld := ⟨0xD0000, 16, 16, 0x88B5⟩
def TWIN_CFG_DIRECT : Fld := ⟨0xD0000, 15, 1, 0⟩
def TWIN_CFG_SINGLE : Fld := ⟨0xD0000, 14, 1, 0⟩
def TWIN_CFG_LOSSLIM : Fld := ⟨0xD0000, 0, 8, 3⟩
/-! TWIN_TIME (R455) -/
def TWIN_TIME_WDOG : Fld := ⟨0xD0004, 16, 16, 20⟩
def TWIN_TIME_PAIRW : Fld := ⟨0xD0004, 0, 16, 50⟩
/-! TWIN_ID (R455) -/
def TWIN_ID_SRC : Fld := ⟨0xD0008, 16, 16, 0⟩
def TWIN_ID_DST : Fld := ⟨0xD0008, 0, 16, 0⟩
/-! TWIN_STATUS (R455) -/
def TWIN_STATUS_IW32 : Fld := ⟨0xD000C, 0, 32, 0⟩
/-! TWIN_SEQ (R455) -/
def TWIN_SEQ_TSEQ : Fld := ⟨0xD0010, 0, 32, 0⟩
/-! TWIN_PORT (R455) -/
def TWIN_PORT_CRCERR (i : Nat) : Fld := ⟨(0xD0020 + 4 * i), 24, 8, 0⟩
def TWIN_PORT_REJECT (i : Nat) : Fld := ⟨(0xD0020 + 4 * i), 16, 8, 0⟩
def TWIN_PORT_SLOSS (i : Nat) : Fld := ⟨(0xD0020 + 4 * i), 8, 8, 0⟩
def TWIN_PORT_CONSEC (i : Nat) : Fld := ⟨(0xD0020 + 4 * i), 0, 8, 0⟩
/-! TWIN_CMP (R455) -/
def TWIN_CMP_MISMATCH : Fld := ⟨0xD0030, 16, 16, 0⟩
def TWIN_CMP_WDOGEXP : Fld := ⟨0xD0030, 0, 16, 0⟩
/-! WMK_STATUS (R528) -/
def WMK_STATUS_CODE : Fld := ⟨0xE0000, 24, 8, 0⟩
def WMK_STATUS_DETAIL : Fld := ⟨0xE0000, 16, 8, 255⟩
def WMK_STATUS_BLANK : Fld := ⟨0xE0000, 2, 1, 0⟩
def WMK_STATUS_SLOT : Fld := ⟨0xE0000, 1, 1, 0⟩
def WMK_STATUS_LOADED : Fld := ⟨0xE0000, 0, 1, 0⟩
/-! WMK_CONFLICT0 (R528) -/
def WMK_CONFLICT0_RKIND : Fld := ⟨0xE0004, 28, 4, 0⟩
def WMK_CONFLICT0_RIDX : Fld := ⟨0xE0004, 0, 16, 0⟩
/-! WMK_CONFLICT1 (R528) -/
def WMK_CONFLICT1_KIND : Fld := ⟨0xE0008, 16, 4, 0⟩
def WMK_CONFLICT1_INST : Fld := ⟨0xE0008, 0, 16, 0⟩
/-! WMK_CONFLICT2 (R528) -/
def WMK_CONFLICT2_KIND : Fld := ⟨0xE000C, 16, 4, 0⟩
def WMK_CONFLICT2_INST : Fld := ⟨0xE000C, 0, 16, 0⟩
/-! WMK_HASH (R528) -/
def WMK_HASH_HASH (i : Nat) : Fld := ⟨(0xE0010 + 4 * i), 0, 32, 0⟩
/-! WMK_GEN (R528) -/
def WMK_GEN_GEN : Fld := ⟨0xE0030, 0, 32, 0⟩
/-! WMK_SERIAL (R528) -/
def WMK_SERIAL_SERIAL : Fld := ⟨0xE0034, 0, 32, 0⟩
/-! WMK_QSPI (R528) -/
def WMK_QSPI_JEDEC : Fld := ⟨0xE0038, 0, 24, 0⟩
/-! WMK_PWD (R529) -/
def WMK_PWD_DATA (i : Nat) : Fld := ⟨(0xE0040 + 4 * i), 0, 32, 0⟩
/-! WMK_PWD_CTRL (R529) -/
def WMK_PWD_CTRL_RESULT : Fld := ⟨0xE0080, 28, 4, 0⟩
def WMK_PWD_CTRL_FAILS : Fld := ⟨0xE0080, 25, 3, 0⟩
def WMK_PWD_CTRL_LOCKREM : Fld := ⟨0xE0080, 15, 10, 0⟩
def WMK_PWD_CTRL_CHECK : Fld := ⟨0xE0080, 7, 1, 0⟩
def WMK_PWD_CTRL_LEN : Fld := ⟨0xE0080, 0, 7, 0⟩
/-! WMK_WR_CTRL (R530) -/
def WMK_WR_CTRL_RESULT : Fld := ⟨0xE0090, 28, 4, 0⟩
def WMK_WR_CTRL_ABORT : Fld := ⟨0xE0090, 2, 1, 0⟩
def WMK_WR_CTRL_COMMIT : Fld := ⟨0xE0090, 1, 1, 0⟩
def WMK_WR_CTRL_BEGIN : Fld := ⟨0xE0090, 0, 1, 0⟩
/-! WMK_WR_LEN (R530) -/
def WMK_WR_LEN_LEN : Fld := ⟨0xE0094, 0, 22, 0⟩
/-! WMK_WR_DATA (R530) -/
def WMK_WR_DATA_DATA : Fld := ⟨0xE0098, 0, 32, 0⟩
/-! WMK_WR_STAT (R530) -/
def WMK_WR_STAT_STATE : Fld := ⟨0xE009C, 28, 4, 0⟩
def WMK_WR_STAT_CODE : Fld := ⟨0xE009C, 20, 8, 0⟩
def WMK_WR_STAT_OVERRUN : Fld := ⟨0xE009C, 19, 1, 0⟩
def WMK_WR_STAT_SPACE : Fld := ⟨0xE009C, 0, 10, 0⟩
/-! WMK_LOG_NEXT (R531) -/
def WMK_LOG_NEXT_NEXT : Fld := ⟨0xE00A0, 0, 32, 0⟩
/-! WMK_LOG_STAT (R531) -/
def WMK_LOG_STAT_STAGED : Fld := ⟨0xE00A4, 24, 8, 0⟩
def WMK_LOG_STAT_FAIL : Fld := ⟨0xE00A4, 1, 1, 0⟩
def WMK_LOG_STAT_BROKEN : Fld := ⟨0xE00A4, 0, 1, 0⟩
/-! WMK_LOG_SEL (R531) -/
def WMK_LOG_SEL_INDEX : Fld := ⟨0xE00A8, 0, 32, 0⟩
/-! WMK_WR_COUNT (R530) -/
def WMK_WR_COUNT_COUNT : Fld := ⟨0xE00B0, 0, 22, 0⟩
/-! WMK_LOG_DATA (R531) -/
def WMK_LOG_DATA_DATA (i : Nat) : Fld := ⟨(0xE00C0 + 4 * i), 0, 32, 0⟩
/-! LCS_STATE (R531) -/
def LCS_STATE_RESULT : Fld := ⟨0xE0100, 28, 4, 0⟩
def LCS_STATE_PEND : Fld := ⟨0xE0100, 4, 1, 0⟩
def LCS_STATE_TARGET : Fld := ⟨0xE0100, 2, 2, 0⟩
def LCS_STATE_STATE : Fld := ⟨0xE0100, 0, 2, 1⟩
/-! LCS_ADV (R531) -/
def LCS_ADV_CONFIRM : Fld := ⟨0xE0104, 16, 16, 0⟩
def LCS_ADV_TARGET : Fld := ⟨0xE0104, 0, 2, 0⟩

end Reg

open Reg

/-- Field tables of the Global block (R620). -/
def rowsGlobal0 : List Row := [
  ⟨0x0, 0, 1, false,
      FSpec.one (fun _ => GLB_ID_PART) .ro .none 0 65535 ++
      FSpec.one (fun _ => GLB_ID_POLDERS) .ro .none 0 15 ++
      FSpec.one (fun _ => GLB_ID_STEP) .ro .none 0 15 ++
      FSpec.one (fun _ => GLB_ID_BERM_STEP) .ro .none 0 15⟩,
  ⟨0x4, 0, 1, false,
      FSpec.one (fun _ => GLB_CTRL_COLDREQ) .ro .none 0 1 ++
      FSpec.one (fun _ => GLB_CTRL_WARMEN) .rw .image 0 1 ++
      FSpec.one (fun _ => GLB_CTRL_COLD) .wo .none 0 1 ++
      FSpec.one (fun _ => GLB_CTRL_RELOAD) .wo .none 0 1⟩,
  ⟨0x10, 0, 1, false,
      FSpec.one (fun _ => GLB_MODE_DCAUSE) .ro .none 0 15 ++
      FSpec.one (fun _ => GLB_MODE_RESULT) .rc .none 0 15 ++
      FSpec.one (fun _ => GLB_MODE_CAUSE) .ro .none 0 15 ++
      FSpec.one (fun _ => GLB_MODE_PENDING) .ro .none 0 15 ++
      FSpec.one (fun _ => GLB_MODE_BASE) .ro .none 0 15 ++
      FSpec.one (fun _ => GLB_MODE_PREV) .ro .none 0 15 ++
      FSpec.one (fun _ => GLB_MODE_MODE) .ro .none 0 15⟩,
  ⟨0x14, 0, 1, false,
      FSpec.one (fun _ => GLB_MODE_REQ_PARK) .wo .none 0 1 ++
      FSpec.one (fun _ => GLB_MODE_REQ_TARGET) .wo .none 0 15⟩,
  ⟨0x18, 0, 1, false,
      FSpec.one (fun _ => GLB_MODE_CFG_DIKE_REQ) .ro .image 0 1 ++
      FSpec.one (fun _ => GLB_MODE_CFG_ENG_REQ) .ro .image 0 1 ++
      FSpec.one (fun _ => GLB_MODE_CFG_AUTO_RUN) .ro .image 0 1 ++
      FSpec.one (fun _ => GLB_MODE_CFG_AUTO_FILL) .ro .image 0 1 ++
      FSpec.one (fun _ => GLB_MODE_CFG_RUN_MODEL) .ro .image 4 5⟩,
  ⟨0x20, 0, 1, false,
      FSpec.one (fun _ => GLB_START_FRES) .ro .none 0 15 ++
      FSpec.one (fun _ => GLB_START_KIND) .ro .none 0 3 ++
      FSpec.one (fun _ => GLB_START_WVALID) .ro .none 0 1 ++
      FSpec.one (fun _ => GLB_START_RETOK) .ro .none 0 1 ++
      FSpec.one (fun _ => GLB_START_SRC) .ro .none 0 15 ++
      FSpec.one (fun _ => GLB_START_STEP) .ro .none 0 65535⟩,
  ⟨0x24, 0, 1, false,
      FSpec.one (fun _ => GLB_BUSY_COUNT) .rc .none 0 255 ++
      FSpec.one (fun _ => GLB_BUSY_RKIND) .ro .none 0 15 ++
      FSpec.one (fun _ => GLB_BUSY_WKIND) .ro .none 0 15 ++
      FSpec.one (fun _ => GLB_BUSY_LKIND) .ro .none 0 15 ++
      FSpec.one (fun _ => GLB_BUSY_WPRI) .ro .none 0 3 ++
      FSpec.one (fun _ => GLB_BUSY_LPRI) .ro .none 0 3 ++
      FSpec.one (fun _ => GLB_BUSY_RIDX) .ro .none 0 255⟩,
  ⟨0x28, 0, 1, false,
      FSpec.one (fun _ => GLB_START_T_LOADT) .ro .none 0 65535 ++
      FSpec.one (fun _ => GLB_START_T_RAISET) .ro .none 0 65535⟩,
  ⟨0x40, 0, 1, false,
      FSpec.one (fun _ => GLB_ALAT_LAST_MAX) .rc .none 0 65535 ++
      FSpec.one (fun _ => GLB_ALAT_FIRST_MAX) .rc .none 0 65535⟩,
  ⟨0x44, 0, 1, false,
      FSpec.one (fun _ => GLB_ISLAND_BERM_LINK) .ro .none 0 1 ++
      FSpec.one (fun _ => GLB_ISLAND_TIDE_OK) .ro .none 0 1 ++
      FSpec.one (fun _ => GLB_ISLAND_TERP_OK) .ro .none 0 1 ++
      FSpec.one (fun _ => GLB_ISLAND_MGMT_OK) .ro .none 0 1 ++
      FSpec.one (fun _ => GLB_ISLAND_HUB_OK) .ro .none 0 1 ++
      FSpec.one (fun _ => GLB_ISLAND_POLDER_OK) .ro .none 0 255⟩,
  ⟨0x60, 0, 1, false,
      FSpec.one (fun _ => GLB_GPIO_IN) .ro .none 0 255 ++
      FSpec.one (fun _ => GLB_GPIO_CLAIMED) .ro .none 0 255 ++
      FSpec.one (fun _ => GLB_GPIO_OUT) .rw .none 0 255 ++
      FSpec.one (fun _ => GLB_GPIO_DIR) .rw .none 0 255⟩,
  ⟨0x64, 0, 1, false,
      FSpec.one (fun _ => GLB_GPIO_FN_F6) .ro .image 0 15 ++
      FSpec.one (fun _ => GLB_GPIO_FN_F5) .ro .image 0 15 ++
      FSpec.one (fun _ => GLB_GPIO_FN_F4) .ro .image 0 15 ++
      FSpec.one (fun _ => GLB_GPIO_FN_F3) .ro .image 0 15 ++
      FSpec.one (fun _ => GLB_GPIO_FN_F2) .ro .image 0 15 ++
      FSpec.one (fun _ => GLB_GPIO_FN_F1) .ro .image 0 15⟩]

/-- Field tables of the Global block (R620). -/
def rowsGlobal1 : List Row := [
  ⟨0x80, 0, 1, false,
      FSpec.one (fun _ => PWR_STATUS_REFCLK) .ro .none 0 1 ++
      FSpec.one (fun _ => PWR_STATUS_LSRAW) .ro .none 0 1 ++
      FSpec.one (fun _ => PWR_STATUS_LSQUAL) .ro .none 0 1 ++
      FSpec.one (fun _ => PWR_STATUS_WARN) .ro .none 0 63 ++
      FSpec.one (fun _ => PWR_STATUS_OPTOFF) .ro .none 0 1 ++
      FSpec.one (fun _ => PWR_STATUS_SEROFF) .ro .none 0 1 ++
      FSpec.one (fun _ => PWR_STATUS_THOT) .ro .none 0 1⟩,
  ⟨0x84, 0, 1, false,
      FSpec.one (fun _ => PWR_TEMP_PEAK) .rc .none 0 255 ++
      FSpec.one (fun _ => PWR_TEMP_PSENS) .ro .none 0 15 ++
      FSpec.one (fun _ => PWR_TEMP_TMAX) .ro .none 0 255 ++
      FSpec.one (fun _ => PWR_TEMP_SENS) .ro .none 0 15⟩,
  ⟨0x88, 0, 1, false,
      FSpec.one (fun _ => PWR_RST_COUNT) .ro .none 0 255 ++
      FSpec.one (fun _ => PWR_RST_POR) .ro .none 0 1 ++
      FSpec.one (fun _ => PWR_RST_PIN) .ro .none 0 1 ++
      FSpec.one (fun _ => PWR_RST_SUPPLY) .ro .none 0 1 ++
      FSpec.one (fun _ => PWR_RST_THERMAL) .ro .none 0 1 ++
      FSpec.one (fun _ => PWR_RST_RAIL) .ro .none 0 15⟩,
  ⟨0x100, 0, 1, false,
      FSpec.one (fun _ => GLB_KEY_KEY) .wo .none 0 65535⟩,
  ⟨0x104, 0, 1, false,
      FSpec.one (fun _ => GLB_KEY_STAT_REJ) .rc .none 0 255 ++
      FSpec.one (fun _ => GLB_KEY_STAT_CAUSE) .ro .none 0 15 ++
      FSpec.one (fun _ => GLB_KEY_STAT_STEP) .ro .none 0 3 ++
      FSpec.one (fun _ => GLB_KEY_STAT_PATH) .ro .none 0 1 ++
      FSpec.one (fun _ => GLB_KEY_STAT_OPEN) .ro .none 0 1 ++
      FSpec.one (fun _ => GLB_KEY_STAT_IDLE) .ro .none 0 1023⟩,
  ⟨0x108, 0, 1, false,
      FSpec.one (fun _ => GLB_KEY_REJ_OFF) .ro .none 0 1048575⟩,
  ⟨0x200, 4, 6, false,
      FSpec.array EVT_PEND 32 .w1c .none⟩,
  ⟨0x220, 4, 6, false,
      FSpec.array EVT_EN 32 .rw .none⟩,
  ⟨0x240, 4, 6, false,
      FSpec.array EVT_PIN 32 .rw .none⟩,
  ⟨0x260, 4, 48, false,
      FSpec.array EVT_MAP 4 .rw .image⟩,
  ⟨0x320, 0, 1, false,
      FSpec.one (fun _ => EVT_STATUS_LINKOK) .ro .none 0 1 ++
      FSpec.one (fun _ => EVT_STATUS_SAFE_N) .ro .none 0 1 ++
      FSpec.one (fun _ => EVT_STATUS_EVT_N) .ro .none 0 1⟩]

def rowsGlobal : List Row := rowsGlobal0 ++ rowsGlobal1

/-- Field tables of the Tideline block (R620). -/
def rowsTideline0 : List Row := [
  ⟨0x10000, 0, 1, false,
      FSpec.one (fun _ => TIDE_NS_LO) .ro .none 0 4294967295⟩,
  ⟨0x10004, 0, 1, false,
      FSpec.one (fun _ => TIDE_NS_HI) .ro .none 0 4294967295⟩,
  ⟨0x10008, 0, 1, false,
      FSpec.one (fun _ => TIDE_FRAC_FRAC) .ro .none 0 65535⟩,
  ⟨0x1000C, 0, 1, false,
      FSpec.one (fun _ => TIDE_DECKLE) .ro .none 0 4294967295⟩,
  ⟨0x10010, 0, 1, false,
      FSpec.one (fun _ => TIDE_CTRL_RERANGE) .wo .none 0 1 ++
      FSpec.one (fun _ => TIDE_CTRL_JUMP) .wo .none 0 1⟩,
  ⟨0x10014, 0, 1, false,
      FSpec.one (fun _ => TIDE_STATUS_RESULT) .rc .none 0 15 ++
      FSpec.one (fun _ => TIDE_STATUS_SYNC) .ro .none 0 7 ++
      FSpec.one (fun _ => TIDE_STATUS_HOLDOVER) .ro .none 0 1 ++
      FSpec.one (fun _ => TIDE_STATUS_SLEWING) .ro .none 0 1 ++
      FSpec.one (fun _ => TIDE_STATUS_JUMPED) .w1c .none 0 1 ++
      FSpec.one (fun _ => TIDE_STATUS_LOCKSENSE) .ro .none 0 1⟩,
  ⟨0x10018, 0, 1, false,
      FSpec.one (fun _ => TIDE_PERIOD_LO) .ro .none 0 4294967295⟩,
  ⟨0x1001C, 0, 1, false,
      FSpec.one (fun _ => TIDE_PERIOD_HI_HI) .ro .none 0 65535⟩,
  ⟨0x10020, 0, 1, false,
      FSpec.one (fun _ => TIDE_TGT_LO) .rw .image 0 4294967295⟩,
  ⟨0x10024, 0, 1, false,
      FSpec.one (fun _ => TIDE_TGT_HI_HI) .rw .image 0 65535⟩,
  ⟨0x10028, 0, 1, false,
      FSpec.one (fun _ => TIDE_NOM_LO) .rw .image 0 4294967295⟩,
  ⟨0x1002C, 0, 1, false,
      FSpec.one (fun _ => TIDE_NOM_HI_HI) .rw .image 0 65535⟩]

/-- Field tables of the Tideline block (R620). -/
def rowsTideline1 : List Row := [
  ⟨0x10030, 0, 1, false,
      FSpec.one (fun _ => TIDE_NCO_CFG_ENG_TGT) .rw .image 0 1 ++
      FSpec.one (fun _ => TIDE_NCO_CFG_HOST_TGT) .rw .image 0 1 ++
      FSpec.one (fun _ => TIDE_NCO_CFG_WINDOW) .rw .image 0 5000 ++
      FSpec.one (fun _ => TIDE_NCO_CFG_SLEW) .rw .image 1 167⟩,
  ⟨0x10034, 0, 1, false,
      FSpec.one (fun _ => TIDE_GPH_INDEX) .ro .none 0 65535 ++
      FSpec.one (fun _ => TIDE_GPH_N) .rw .none 0 65535⟩,
  ⟨0x10038, 0, 1, false,
      FSpec.one (fun _ => TIDE_GPH_INC) .rw .none 0 4294967295⟩,
  ⟨0x1003C, 0, 1, false,
      FSpec.one (fun _ => TIDE_ALIGN_RINT) .ro .image 8 255 ++
      FSpec.one (fun _ => TIDE_ALIGN_ALIGN) .ro .image 64 4000⟩,
  ⟨0x10040, 0, 1, false,
      FSpec.one (fun _ => TIDE_SYNC_ASYM) .rw .none 0 65535 ++
      FSpec.one (fun _ => TIDE_SYNC_ID) .ro .image 0 3 ++
      FSpec.one (fun _ => TIDE_SYNC_COUNT) .ro .image 0 3 ++
      FSpec.one (fun _ => TIDE_SYNC_ROLE) .ro .image 0 2⟩,
  ⟨0x10044, 4, 3, false,
      FSpec.one TIDE_PEER_VALID .ro .none 0 1 ++
      FSpec.one TIDE_PEER_DK .ro .none 0 16777215⟩,
  ⟨0x10050, 0, 1, false,
      FSpec.one (fun _ => TIDE_HOLD_ENTRIES) .ro .none 0 65535 ++
      FSpec.one (fun _ => TIDE_HOLD_RELOCK_MS) .rw .none 0 65535⟩,
  ⟨0x10054, 0, 1, false,
      FSpec.one (fun _ => TIDE_CLKOUT_ACTIVE) .ro .none 0 1 ++
      FSpec.one (fun _ => TIDE_CLKOUT_EN) .rw .none 0 1 ++
      FSpec.one (fun _ => TIDE_CLKOUT_SEL) .rw .none 0 7⟩]

def rowsTideline : List Row := rowsTideline0 ++ rowsTideline1

/-- Field tables of the Breach block (R620). -/
def rowsBreach0 : List Row := [
  ⟨0x20000, 0, 1, false,
      FSpec.one (fun _ => BRCH_STATUS_RESULT) .rc .none 0 15 ++
      FSpec.one (fun _ => BRCH_STATUS_FIRST) .ro .none 0 255 ++
      FSpec.one (fun _ => BRCH_STATUS_LAST) .ro .none 0 255 ++
      FSpec.one (fun _ => BRCH_STATUS_GRACE) .ro .none 0 1 ++
      FSpec.one (fun _ => BRCH_STATUS_PEAK) .rc .none 0 7 ++
      FSpec.one (fun _ => BRCH_STATUS_LEVEL) .ro .none 0 7⟩,
  ⟨0x20004, 0, 1, false,
      FSpec.one (fun _ => BRCH_CFG_GMAX) .ro .image 2 4 ++
      FSpec.one (fun _ => BRCH_CFG_GRACE) .ro .image 1 4000⟩,
  ⟨0x20008, 4, 2, false,
      FSpec.array BRCH_STICKY 32 .w1c .none⟩,
  ⟨0x20010, 4, 2, false,
      FSpec.array BRCH_PIN 32 .ro .none⟩,
  ⟨0x20018, 4, 2, false,
      FSpec.array BRCH_UNACK 32 .ro .none⟩,
  ⟨0x20020, 4, 2, false,
      FSpec.array BRCH_ACK 32 .wo .none⟩,
  ⟨0x20040, 4, 8, false,
      FSpec.array BRCH_LEVEL 8 .ro .image⟩,
  ⟨0x20060, 4, 8, false,
      FSpec.array BRCH_EFF 8 .ro .none⟩,
  ⟨0x20080, 0, 1, false,
      FSpec.one (fun _ => BRCH_INJ_CTRL_GO) .ka .none 0 1 ++
      FSpec.one (fun _ => BRCH_INJ_CTRL_ABORT) .ka .none 0 1 ++
      FSpec.one (fun _ => BRCH_INJ_CTRL_MASK) .krw .none 0 127 ++
      FSpec.one (fun _ => BRCH_INJ_CTRL_MEM) .krw .none 0 3 ++
      FSpec.one (fun _ => BRCH_INJ_CTRL_SRC) .krw .none 0 63⟩,
  ⟨0x20084, 0, 1, false,
      FSpec.one (fun _ => BRCH_INJ_ADDR_WORD) .krw .none 0 16777215⟩,
  ⟨0x20088, 0, 1, false,
      FSpec.one (fun _ => BRCH_INJ_STAT_STATE) .ro .none 0 3 ++
      FSpec.one (fun _ => BRCH_INJ_STAT_RESULT) .rc .none 0 7 ++
      FSpec.one (fun _ => BRCH_INJ_STAT_SYND) .ro .none 0 127⟩,
  ⟨0x20100, 8, 64, false,
      FSpec.one BRCH_DET_INJ .ro .none 0 1 ++
      FSpec.one BRCH_DET_UNSOL .ro .none 0 1 ++
      FSpec.one BRCH_DET_COUNT .rc .none 0 15 ++
      FSpec.one BRCH_DET_ADDR .ro .none 0 16777215⟩]

/-- Field tables of the Breach block (R620). -/
def rowsBreach1 : List Row := [
  ⟨0x20104, 8, 64, false,
      FSpec.one BRCH_DCODE_CODE .ro .none 0 255⟩]

def rowsBreach : List Row := rowsBreach0 ++ rowsBreach1

/-- Field tables of the SluiceRaces block (R620). -/
def rowsSluiceRaces0 : List Row := [
  ⟨0x30000, 0, 1, false,
      FSpec.one (fun _ => SLU_CFG_SRC0) .ro .image 0 2 ++
      FSpec.one (fun _ => SLU_CFG_ROLE1) .ro .image 0 2 ++
      FSpec.one (fun _ => SLU_CFG_EN0) .ro .image 0 1⟩,
  ⟨0x30004, 0, 1, false,
      FSpec.one (fun _ => SLU_SRC_ACTIVE) .ro .none 0 3⟩,
  ⟨0x30008, 0, 1, false,
      FSpec.one (fun _ => SLU_TIMING_FBWARN) .rw .none 0 65535 ++
      FSpec.one (fun _ => SLU_TIMING_SNAPDL) .rw .none 0 65535⟩,
  ⟨0x3000C, 0, 1, false,
      FSpec.one (fun _ => SLU_HOLD_NORESUME) .rc .none 0 255 ++
      FSpec.one (fun _ => SLU_HOLD_SAFEHOLD) .ro .none 0 255 ++
      FSpec.one (fun _ => SLU_HOLD_REPMAX) .rc .none 0 15 ++
      FSpec.one (fun _ => SLU_HOLD_LIMIT) .rw .image 0 15⟩,
  ⟨0x30010, 4, 2, false,
      FSpec.one SLU_LINK_CRC .rc .none 0 255 ++
      FSpec.one SLU_LINK_CODE .rc .none 0 255 ++
      FSpec.one SLU_LINK_FRAMING .rc .none 0 255 ++
      FSpec.one SLU_LINK_LCAUSE .ro .none 0 15 ++
      FSpec.one SLU_LINK_STATE .ro .none 0 15⟩,
  ⟨0x30018, 4, 2, false,
      FSpec.one SLU_RERR_LATE .rc .none 0 255 ++
      FSpec.one SLU_RERR_MAP .rc .none 0 255 ++
      FSpec.one SLU_RERR_SEQ .rc .none 0 255 ++
      FSpec.one SLU_RERR_OTHER .rc .none 0 255⟩,
  ⟨0x30020, 4, 2, false,
      FSpec.one SLU_RSQ_TGT .ro .none 0 65535 ++
      FSpec.one SLU_RSQ_RSQ .ro .none 0 65535⟩,
  ⟨0x30028, 4, 2, false,
      FSpec.one SLU_FB_MIN .rc .none 0 65535 ++
      FSpec.one SLU_FB_LAST .ro .none 0 65535⟩,
  ⟨0x30040, 0, 1, false,
      FSpec.one (fun _ => COUCH_CFG_ENG_EN) .rw .image 0 1 ++
      FSpec.one (fun _ => COUCH_CFG_POLICY) .rw .image 0 1 ++
      FSpec.one (fun _ => COUCH_CFG_TIMEOUT) .rw .image 1 1024 ++
      FSpec.one (fun _ => COUCH_CFG_DABTOL) .rw .image 0 63 ++
      FSpec.one (fun _ => COUCH_CFG_TOL) .rw .image 0 1023⟩,
  ⟨0x30044, 0, 1, false,
      FSpec.one (fun _ => COUCH_REQ_CANCEL) .wo .none 0 1 ++
      FSpec.one (fun _ => COUCH_REQ_POLICY) .wo .none 0 3 ++
      FSpec.one (fun _ => COUCH_REQ_SRC) .wo .none 0 3⟩,
  ⟨0x30048, 0, 1, false,
      FSpec.one (fun _ => COUCH_STATUS_RESULT) .rc .none 0 15 ++
      FSpec.one (fun _ => COUCH_STATUS_END) .ro .none 0 15 ++
      FSpec.one (fun _ => COUCH_STATUS_ACTIVE) .ro .none 0 1 ++
      FSpec.one (fun _ => COUCH_STATUS_POLICY) .ro .none 0 1 ++
      FSpec.one (fun _ => COUCH_STATUS_IN) .ro .none 0 3 ++
      FSpec.one (fun _ => COUCH_STATUS_OUT) .ro .none 0 3⟩,
  ⟨0x3004C, 0, 1, false,
      FSpec.one (fun _ => COUCH_PROG_ELAPSED) .ro .none 0 2047 ++
      FSpec.one (fun _ => COUCH_PROG_REMAIN) .ro .none 0 255⟩]

/-- Field tables of the SluiceRaces block (R620). -/
def rowsSluiceRaces1 : List Row := [
  ⟨0x30050, 4, 4, false,
      FSpec.array COUCH_MAP 32 .ro .none⟩,
  ⟨0x30060, 0, 1, false,
      FSpec.one (fun _ => COUCH_DIS_CTX) .ro .none 0 255 ++
      FSpec.one (fun _ => COUCH_DIS_REASON) .ro .none 0 15 ++
      FSpec.one (fun _ => COUCH_DIS_DIFF) .ro .none 0 65535⟩,
  ⟨0x30800, 0, 1, false,
      FSpec.one (fun _ => RACE_DMA_LINKUP) .ro .none 0 1 ++
      FSpec.one (fun _ => RACE_DMA_WIDTH) .ro .none 0 15 ++
      FSpec.one (fun _ => RACE_DMA_GEN) .ro .none 0 15 ++
      FSpec.one (fun _ => RACE_DMA_FLRCNT) .rc .none 0 255 ++
      FSpec.one (fun _ => RACE_DMA_DMAERR) .rc .none 0 255⟩,
  ⟨0x30810, 0, 1, false,
      FSpec.one (fun _ => RACE_VAT_CTRL_POST) .rw .none 0 65535 ++
      FSpec.one (fun _ => RACE_VAT_CTRL_EVT) .rw .none 0 255 ++
      FSpec.one (fun _ => RACE_VAT_CTRL_EVTEN) .rw .none 0 1 ++
      FSpec.one (fun _ => RACE_VAT_CTRL_LVL) .rw .none 0 7 ++
      FSpec.one (fun _ => RACE_VAT_CTRL_DISCARD) .wo .none 0 1 ++
      FSpec.one (fun _ => RACE_VAT_CTRL_TRIG) .wo .none 0 1 ++
      FSpec.one (fun _ => RACE_VAT_CTRL_ARM) .wo .none 0 1⟩,
  ⟨0x30814, 0, 1, false,
      FSpec.one (fun _ => RACE_VAT_STAT_STATE) .ro .none 0 7 ++
      FSpec.one (fun _ => RACE_VAT_STAT_RESULT) .rc .none 0 3 ++
      FSpec.one (fun _ => RACE_VAT_STAT_OLDEST) .ro .none 0 4194303⟩,
  ⟨0x30818, 0, 1, false,
      FSpec.one (fun _ => RACE_VAT_FILL_FILL) .ro .none 0 8388607⟩,
  ⟨0x3081C, 0, 1, false,
      FSpec.one (fun _ => RACE_VAT_PORT_DATA) .rc .none 0 4294967295⟩,
  ⟨0x30820, 0, 1, false,
      FSpec.one (fun _ => RACE_SPI_CRCERR) .rc .none 0 255 ++
      FSpec.one (fun _ => RACE_SPI_LENERR) .rc .none 0 255 ++
      FSpec.one (fun _ => RACE_SPI_EN) .ro .image 0 1⟩,
  ⟨0x31000, 64, 32, false,
      FSpec.one RACE_CFG_EN .rw .none 0 1 ++
      FSpec.one RACE_CFG_SIZE .rw .none 0 15 ++
      FSpec.one RACE_CFG_CLASS .ro .none 0 3 ++
      FSpec.one RACE_CFG_KIND .rw .none 0 15⟩,
  ⟨0x31004, 64, 32, false,
      FSpec.one RACE_BASE_LO_ADDR .rw .none 0 1048575⟩,
  ⟨0x31008, 64, 32, false,
      FSpec.one RACE_BASE_HI .rw .none 0 4294967295⟩,
  ⟨0x3100C, 64, 32, false,
      FSpec.one RACE_TAIL .rw .none 0 4294967295⟩]

/-- Field tables of the SluiceRaces block (R620). -/
def rowsSluiceRaces2 : List Row := [
  ⟨0x31010, 64, 32, false,
      FSpec.one RACE_HEAD .ro .none 0 4294967295⟩,
  ⟨0x31014, 64, 32, false,
      FSpec.one RACE_NSEQ .ro .none 0 4294967295⟩,
  ⟨0x31018, 64, 32, false,
      FSpec.one RACE_CTRL_REARM .wo .none 0 1 ++
      FSpec.one RACE_CTRL_RESUME .wo .none 0 1 ++
      FSpec.one RACE_CTRL_STOP .wo .none 0 1⟩,
  ⟨0x3101C, 64, 32, false,
      FSpec.one RACE_STAT_DROPS .rc .none 0 65535 ++
      FSpec.one RACE_STAT_ERR .ro .none 0 15 ++
      FSpec.one RACE_STAT_STOPPED .ro .none 0 1⟩,
  ⟨0x31020, 64, 32, false,
      FSpec.one RACE_IRQ_COUNT .rw .none 0 255 ++
      FSpec.one RACE_IRQ_TIME .rw .none 0 4095 ++
      FSpec.one RACE_IRQ_FLUSH .rw .none 0 4095⟩]

def rowsSluiceRaces : List Row := rowsSluiceRaces0 ++ rowsSluiceRaces1 ++ rowsSluiceRaces2

/-- Field tables of the Polder block (R620). -/
def rowsPolder0 : List Row := [
  ⟨0x40000, 32768, 8, false,
      FSpec.one PLD_CTRL_SIG .ro .none 0 255 ++
      FSpec.one PLD_CTRL_SIGCTX .ro .none 0 255 ++
      FSpec.one PLD_CTRL_STATE .ro .none 0 3⟩,
  ⟨0x40004, 32768, 8, false,
      FSpec.one PLD_SCHED_START .ro .image 0 65535⟩,
  ⟨0x40008, 32768, 8, false,
      FSpec.one PLD_LOAD_MAX .rc .none 0 65535 ++
      FSpec.one PLD_LOAD_LAST .ro .none 0 65535⟩,
  ⟨0x4000C, 32768, 8, false,
      FSpec.one PLD_FAULT_CAUSE .ro .none 0 15 ++
      FSpec.one PLD_FAULT_CTX .ro .none 0 255 ++
      FSpec.one PLD_FAULT_PC .ro .none 0 4095⟩,
  ⟨0x41000, 0, 1, true,
      FSpec.one LANE_CFG_ION .rw .image 0 220 ++
      FSpec.one LANE_CFG_DLOS .rw .none 0 15 ++
      FSpec.one LANE_CFG_ROLE .ro .image 0 1⟩,
  ⟨0x41004, 0, 1, true,
      FSpec.one LANE_LINK_SYNC .ro .none 0 1 ++
      FSpec.one LANE_LINK_LOS .ro .none 0 1 ++
      FSpec.one LANE_LINK_RSSI .ro .none 0 255 ++
      FSpec.one LANE_LINK_STATE .ro .none 0 15⟩,
  ⟨0x41008, 0, 1, true,
      FSpec.one LANE_ERR_CODE .rc .none 0 255 ++
      FSpec.one LANE_ERR_CRC .rc .none 0 255 ++
      FSpec.one LANE_ERR_FRAMING .rc .none 0 255 ++
      FSpec.one LANE_ERR_LOSCNT .rc .none 0 255⟩,
  ⟨0x4100C, 0, 1, true,
      FSpec.one LANE_SEQ_RGAP .rc .none 0 255 ++
      FSpec.one LANE_SEQ_ACKSEQ .ro .none 0 255 ++
      FSpec.one LANE_SEQ_RSEQ .ro .none 0 255 ++
      FSpec.one LANE_SEQ_SSEQ .ro .none 0 255⟩,
  ⟨0x41010, 0, 1, true,
      FSpec.one LANE_BULK_RETX .rc .none 0 255 ++
      FSpec.one LANE_BULK_CREDIT .ro .none 0 255 ++
      FSpec.one LANE_BULK_NEXT .ro .none 0 255 ++
      FSpec.one LANE_BULK_PSEQ .ro .none 0 255⟩,
  ⟨0x41014, 0, 1, true,
      FSpec.one LANE_LED_DARK_NOW .ro .none 0 1 ++
      FSpec.one LANE_LED_LIT_NOW .ro .none 0 1 ++
      FSpec.one LANE_LED_DARKACT .krw .none 0 1 ++
      FSpec.one LANE_LED_REARM .ka .none 0 1 ++
      FSpec.one LANE_LED_ISENSE .ro .none 0 255 ++
      FSpec.one LANE_LED_DRIVE_OFF .ro .none 0 1 ++
      FSpec.one LANE_LED_LED_LIT .ro .none 0 1 ++
      FSpec.one LANE_LED_LED_DARK .ro .none 0 1⟩,
  ⟨0x41020, 0, 1, true,
      FSpec.one LANE_DOUT_VALID .ro .none 0 1 ++
      FSpec.one LANE_DOUT_OOR .ro .none 0 1 ++
      FSpec.one LANE_DOUT_SETTLING .ro .none 0 1 ++
      FSpec.one LANE_DOUT_FD .ro .none 0 31 ++
      FSpec.one LANE_DOUT_DOUT .ro .none 0 16777215⟩,
  ⟨0x41024, 0, 1, true,
      FSpec.one LANE_TCAL_RXD .ro .none 0 65535 ++
      FSpec.one LANE_TCAL_TXD .ro .none 0 65535⟩]

/-- Field tables of the Polder block (R620). -/
def rowsPolder1 : List Row := [
  ⟨0x41028, 0, 1, true,
      FSpec.one LANE_ASYM_ASYM .rw .none 0 65535⟩]

def rowsPolder : List Row := rowsPolder0 ++ rowsPolder1

/-- Field tables of the Context block (R620). -/
def rowsContext0 : List Row := [
  ⟨0x80000, 256, 128, false,
      FSpec.one CTX_STATE_AGE .ro .none 0 65535 ++
      FSpec.one CTX_STATE_LCAUSE .ro .none 0 15 ++
      FSpec.one CTX_STATE_PENDMAP .ro .none 0 1 ++
      FSpec.one CTX_STATE_REQUIRED .ro .image 0 1 ++
      FSpec.one CTX_STATE_LISTED .ro .image 0 1 ++
      FSpec.one CTX_STATE_STATE .ro .none 0 15⟩,
  ⟨0x80004, 256, 128, false,
      FSpec.one CTX_ID_LO .ro .image 0 4294967295⟩,
  ⟨0x80008, 256, 128, false,
      FSpec.one CTX_ID_HI .ro .image 0 4294967295⟩,
  ⟨0x8000C, 256, 128, false,
      FSpec.one CTX_CAP_TLOSS .ro .none 0 255 ++
      FSpec.one CTX_CAP_NSL .ro .none 0 255 ++
      FSpec.one CTX_CAP_CRED .ro .none 0 255 ++
      FSpec.one CTX_CAP_CAP .ro .none 0 255⟩,
  ⟨0x80010, 256, 128, false,
      FSpec.one CTX_BIND_TRET .ro .image 0 65535 ++
      FSpec.one CTX_BIND_VALID .ro .none 0 1 ++
      FSpec.one CTX_BIND_LOCK .ro .image 0 1 ++
      FSpec.one CTX_BIND_LANE .ro .image 0 255⟩,
  ⟨0x80014, 256, 128, false,
      FSpec.one CTX_CMD_RESUME .wo .none 0 1 ++
      FSpec.one CTX_CMD_RETIRE .wo .none 0 1⟩,
  ⟨0x80018, 256, 128, false,
      FSpec.one CTX_RELOC_RESULT .rc .none 0 15 ++
      FSpec.one CTX_RELOC_GO .ka .none 0 1 ++
      FSpec.one CTX_RELOC_TARGET .krw .none 0 255⟩,
  ⟨0x8001C, 256, 128, false,
      FSpec.one CTX_HROUTE_BRACE .rw .none 0 15 ++
      FSpec.one CTX_HROUTE_BEN .rw .none 0 1 ++
      FSpec.one CTX_HROUTE_TCHEN .rw .none 0 15 ++
      FSpec.one CTX_HROUTE_TRACE .rw .none 0 15⟩,
  ⟨0x80020, 256, 128, false,
      FSpec.one CTX_PROG_BUDGET .ro .none 0 16383 ++
      FSpec.one CTX_PROG_BMBX .ro .none 0 1 ++
      FSpec.one CTX_PROG_SLACK .ro .none 0 1 ++
      FSpec.one CTX_PROG_FILL .ro .none 0 3 ++
      FSpec.one CTX_PROG_ASPECT .ro .none 0 1⟩,
  ⟨0x80024, 256, 128, false,
      FSpec.one CTX_PSTAT_EXHAUST .rc .none 0 255 ++
      FSpec.one CTX_PSTAT_EXCEPT .rc .none 0 15 ++
      FSpec.one CTX_PSTAT_SAFEREQ .ro .none 0 1 ++
      FSpec.one CTX_PSTAT_FILLDONE .ro .none 0 1 ++
      FSpec.one CTX_PSTAT_LASTCYC .ro .none 0 65535⟩,
  ⟨0x80028, 256, 128, false,
      FSpec.one CTX_MBX_PDROP .rc .none 0 255 ++
      FSpec.one CTX_MBX_PCOUNT .ro .none 0 31⟩,
  ⟨0x80040, 256, 128, false,
      FSpec.one CTX_GANG_EN .ro .image 0 1 ++
      FSpec.one CTX_GANG_GANG .ro .image 0 15⟩]

/-- Field tables of the Context block (R620). -/
def rowsContext1 : List Row := [
  ⟨0x80080, 256, 128, false,
      FSpec.one CTX_ASPECT_MINGAP .rw .image 0 255 ++
      FSpec.one CTX_ASPECT_CMD .ro .none 0 15 ++
      FSpec.one CTX_ASPECT_FB .ro .none 0 15 ++
      FSpec.one CTX_ASPECT_UMAX .ro .none 0 7 ++
      FSpec.one CTX_ASPECT_SAFE .ro .image 0 1⟩,
  ⟨0x80084, 256, 128, false,
      FSpec.one CTX_PROOF_CFG_SUMEN .rw .image 0 1 ++
      FSpec.one CTX_PROOF_CFG_FAILLIM .rw .image 1 15 ++
      FSpec.one CTX_PROOF_CFG_EVEN .rw .image 0 15 ++
      FSpec.one CTX_PROOF_CFG_TSW .rw .image 0 63 ++
      FSpec.one CTX_PROOF_CFG_W .rw .image 5 80⟩,
  ⟨0x80088, 256, 128, false,
      FSpec.one CTX_PROVEN .rc .none 0 4294967295⟩,
  ⟨0x8008C, 256, 128, false,
      FSpec.one CTX_PFAIL_REJECT .rc .none 0 255 ++
      FSpec.one CTX_PFAIL_LATE .rc .none 0 255 ++
      FSpec.one CTX_PFAIL_SILENT .rc .none 0 255 ++
      FSpec.one CTX_PFAIL_CONTRA .rc .none 0 255⟩,
  ⟨0x80090, 256, 128, false,
      FSpec.one CTX_PAUX_CELLACT .rc .none 0 255 ++
      FSpec.one CTX_PAUX_STRAY .rc .none 0 255 ++
      FSpec.one CTX_PAUX_MAPERR .rc .none 0 15 ++
      FSpec.one CTX_PAUX_OVFL .rc .none 0 15 ++
      FSpec.one CTX_PAUX_SUBST .rc .none 0 255⟩,
  ⟨0x80094, 256, 128, false,
      FSpec.one CTX_PLAST0 .ro .none 0 4294967295⟩,
  ⟨0x80098, 256, 128, false,
      FSpec.one CTX_PLAST1 .ro .none 0 4294967295⟩,
  ⟨0x88000, 0, 1, false,
      FSpec.one (fun _ => CTX_PROOF_ROUTE_REN) .rw .none 0 1 ++
      FSpec.one (fun _ => CTX_PROOF_ROUTE_FAILONLY) .rw .none 0 1 ++
      FSpec.one (fun _ => CTX_PROOF_ROUTE_RACE) .rw .none 0 15 ++
      FSpec.one (fun _ => CTX_PROOF_ROUTE_DROPS) .rc .none 0 65535⟩,
  ⟨0x88010, 4, 4, false,
      FSpec.array CTX_PFAIL_MAP 32 .w1c .none⟩,
  ⟨0x88020, 0, 1, false,
      FSpec.one (fun _ => CTX_ADMIT_CFG_LOSTDARK) .ro .image 12 255 ++
      FSpec.one (fun _ => CTX_ADMIT_CFG_RMISS) .ro .image 1 15 ++
      FSpec.one (fun _ => CTX_ADMIT_CFG_BINDLEAD) .ro .image 4 15 ++
      FSpec.one (fun _ => CTX_ADMIT_CFG_CRED) .ro .image 4 64 ++
      FSpec.one (fun _ => CTX_ADMIT_CFG_POLICY) .rw .image 0 2⟩,
  ⟨0x88024, 0, 1, false,
      FSpec.one (fun _ => CTX_MAPVER_PVALID) .ro .none 0 1 ++
      FSpec.one (fun _ => CTX_MAPVER_WAITING) .ro .none 0 1 ++
      FSpec.one (fun _ => CTX_MAPVER_PEND) .ro .none 0 255 ++
      FSpec.one (fun _ => CTX_MAPVER_CUR) .ro .none 0 255⟩,
  ⟨0x88028, 0, 1, false,
      FSpec.one (fun _ => CTX_PEND_LO) .ro .none 0 4294967295⟩]

/-- Field tables of the Context block (R620). -/
def rowsContext2 : List Row := [
  ⟨0x8802C, 0, 1, false,
      FSpec.one (fun _ => CTX_PEND_HI) .ro .none 0 4294967295⟩,
  ⟨0x88030, 0, 1, false,
      FSpec.one (fun _ => CTX_PEND_INFO_DEPTH) .ro .none 0 15 ++
      FSpec.one (fun _ => CTX_PEND_INFO_VALID) .ro .none 0 1 ++
      FSpec.one (fun _ => CTX_PEND_INFO_LANE) .ro .none 0 255⟩,
  ⟨0x88034, 0, 1, false,
      FSpec.one (fun _ => CTX_APPROVE_RESULT) .rc .none 0 15 ++
      FSpec.one (fun _ => CTX_APPROVE_DENY) .wo .none 0 1 ++
      FSpec.one (fun _ => CTX_APPROVE_APPROVE) .wo .none 0 1 ++
      FSpec.one (fun _ => CTX_APPROVE_CTX) .wo .none 0 255⟩,
  ⟨0x88038, 0, 1, false,
      FSpec.one (fun _ => CTX_REFUSE_LOG_COUNT) .rc .none 0 255 ++
      FSpec.one (fun _ => CTX_REFUSE_LOG_REASON) .ro .none 0 15 ++
      FSpec.one (fun _ => CTX_REFUSE_LOG_LANE) .ro .none 0 255⟩,
  ⟨0x88040, 4, 4, false,
      FSpec.array CTX_MEMBER 32 .ro .none⟩,
  ⟨0x88050, 4, 4, false,
      FSpec.array CTX_MEMBER_PEND 32 .ro .none⟩]

def rowsContext : List Row := rowsContext0 ++ rowsContext1 ++ rowsContext2

/-- Field tables of the Terp block (R620). -/
def rowsTerp0 : List Row := [
  ⟨0x90000, 0, 1, false,
      FSpec.one (fun _ => DIKE_CTRL_FCLR) .ka .none 0 1 ++
      FSpec.one (fun _ => DIKE_CTRL_SWAP) .ka .none 0 1 ++
      FSpec.one (fun _ => DIKE_CTRL_ARM) .wo .none 0 1⟩,
  ⟨0x90004, 0, 1, false,
      FSpec.one (fun _ => DIKE_STATUS_STOPCAUSE) .ro .none 0 15 ++
      FSpec.one (fun _ => DIKE_STATUS_RESULT) .rc .none 0 15 ++
      FSpec.one (fun _ => DIKE_STATUS_ARMED) .ro .none 0 1 ++
      FSpec.one (fun _ => DIKE_STATUS_ONLINE) .ro .none 0 1 ++
      FSpec.one (fun _ => DIKE_STATUS_BANK) .ro .none 0 1 ++
      FSpec.one (fun _ => DIKE_STATUS_SWAPPEND) .ro .none 0 1 ++
      FSpec.one (fun _ => DIKE_STATUS_CHECKED) .ro .none 0 3 ++
      FSpec.one (fun _ => DIKE_STATUS_STATE) .ro .none 0 3 ++
      FSpec.one (fun _ => DIKE_STATUS_PC) .ro .none 0 32767⟩,
  ⟨0x90008, 0, 1, false,
      FSpec.one (fun _ => DIKE_CFG_CRET) .ro .safety 0 64 ++
      FSpec.one (fun _ => DIKE_CFG_CYCLE) .ro .safety 25 2000⟩,
  ⟨0x9000C, 0, 1, false,
      FSpec.one (fun _ => DIKE_RETAIN_WRET) .ro .safety 0 2048 ++
      FSpec.one (fun _ => DIKE_RETAIN_MRET) .ro .safety 0 8192⟩,
  ⟨0x90010, 0, 1, false,
      FSpec.one (fun _ => DIKE_LOAD_MAX) .rc .none 0 65535 ++
      FSpec.one (fun _ => DIKE_LOAD_LAST) .ro .none 0 65535⟩,
  ⟨0x90014, 0, 1, false,
      FSpec.one (fun _ => DIKE_CYCCNT_K) .ro .none 0 4294967295⟩,
  ⟨0x90018, 0, 1, false,
      FSpec.one (fun _ => DIKE_SAFEOUT_MASK) .ro .safety 0 65535⟩,
  ⟨0x9001C, 0, 1, false,
      FSpec.one (fun _ => DIKE_SAFEIN_MASK) .ro .safety 0 16777215⟩,
  ⟨0x90020, 0, 1, false,
      FSpec.one (fun _ => DIKE_PWIN_ADDR_A) .krw .none 0 32767⟩,
  ⟨0x90024, 0, 1, false,
      FSpec.one (fun _ => DIKE_PWIN_DATA_D) .ka .none 0 4294967295⟩,
  ⟨0x90028, 0, 1, false,
      FSpec.one (fun _ => DIKE_PLEN_N) .krw .none 0 65535⟩,
  ⟨0x9002C, 0, 1, false,
      FSpec.one (fun _ => DIKE_PCRC_C) .krw .none 0 4294967295⟩]

/-- Field tables of the Terp block (R620). -/
def rowsTerp1 : List Row := [
  ⟨0x90030, 0, 1, false,
      FSpec.one (fun _ => DIKE_SWIN_ADDR_A) .krw .none 0 4095⟩,
  ⟨0x90034, 0, 1, false,
      FSpec.one (fun _ => DIKE_SWIN_DATA_D) .krw .none 0 4294967295⟩,
  ⟨0x90038, 0, 1, false,
      FSpec.one (fun _ => DIKE_SLEN_N) .krw .none 0 8191⟩,
  ⟨0x90040, 0, 1, false,
      FSpec.one (fun _ => DIKE_FSEL_ENTRY) .krw .none 0 63⟩,
  ⟨0x90044, 0, 1, false,
      FSpec.one (fun _ => DIKE_FENT_VALID) .krw .none 0 1 ++
      FSpec.one (fun _ => DIKE_FENT_AREA) .krw .none 0 15 ++
      FSpec.one (fun _ => DIKE_FENT_TYPE) .ro .none 0 15 ++
      FSpec.one (fun _ => DIKE_FENT_ADDR) .krw .none 0 65535⟩,
  ⟨0x90048, 0, 1, false,
      FSpec.one (fun _ => DIKE_FVAL_VALUE) .krw .none 0 4294967295⟩,
  ⟨0x9004C, 0, 1, false,
      FSpec.one (fun _ => DIKE_FRES_RESULT) .rc .none 0 15 ++
      FSpec.one (fun _ => DIKE_FRES_RELEASED) .rc .none 0 255 ++
      FSpec.one (fun _ => DIKE_FRES_COUNT) .ro .none 0 127⟩,
  ⟨0x90050, 0, 1, false,
      FSpec.one (fun _ => DIKE_FLOG_REASON) .ro .none 0 15 ++
      FSpec.one (fun _ => DIKE_FLOG_AREA) .ro .none 0 15 ++
      FSpec.one (fun _ => DIKE_FLOG_ADDR) .ro .none 0 65535⟩,
  ⟨0x90100, 0, 1, false,
      FSpec.one (fun _ => SAF_STATUS_RESULT) .ro .none 0 15 ++
      FSpec.one (fun _ => SAF_STATUS_RESETS) .rc .none 0 255 ++
      FSpec.one (fun _ => SAF_STATUS_DSTOP) .ro .none 0 1 ++
      FSpec.one (fun _ => SAF_STATUS_WDEMAND) .ro .none 0 1 ++
      FSpec.one (fun _ => SAF_STATUS_ALL) .ro .none 0 1 ++
      FSpec.one (fun _ => SAF_STATUS_CONFAULT) .ro .none 0 15⟩,
  ⟨0x90104, 0, 1, false,
      FSpec.one (fun _ => SAF_RESET_EN) .ro .safety 0 1 ++
      FSpec.one (fun _ => SAF_RESET_IN) .ro .safety 0 23 ++
      FSpec.one (fun _ => SAF_RESET_TMAX) .ro .safety 2 100 ++
      FSpec.one (fun _ => SAF_RESET_TMIN) .ro .safety 5 100⟩,
  ⟨0x90110, 4, 4, false,
      FSpec.one SAF_CON_EN .ro .safety 0 1 ++
      FSpec.one SAF_CON_FBPOL .ro .safety 0 1 ++
      FSpec.one SAF_CON_CSEL .ro .safety 0 3 ++
      FSpec.one SAF_CON_OUT .ro .safety 0 15 ++
      FSpec.one SAF_CON_FB .ro .safety 0 23 ++
      FSpec.one SAF_CON_TON .ro .safety 1 255 ++
      FSpec.one SAF_CON_TOFF .ro .safety 1 255⟩,
  ⟨0x90120, 0, 1, false,
      FSpec.one (fun _ => SAF_CONST_STATE) .ro .none 0 65535⟩]

/-- Field tables of the Terp block (R620). -/
def rowsTerp2 : List Row := [
  ⟨0x90124, 0, 1, false,
      FSpec.one (fun _ => SAF_SCRC_SCRC) .ro .none 0 4294967295⟩]

def rowsTerp : List Row := rowsTerp0 ++ rowsTerp1 ++ rowsTerp2

/-- Field tables of the Berm block (R620). -/
def rowsBerm : List Row := [
  ⟨0xA0000, 0, 1, false,
      FSpec.one (fun _ => FLD_CFG_USE) .ro .safety 0 3 ++
      FSpec.one (fun _ => FLD_CFG_DTP) .ro .safety 1 100 ++
      FSpec.one (fun _ => FLD_CFG_DTW) .ro .safety 10 100 ++
      FSpec.one (fun _ => FLD_CFG_SILENCE) .ro .safety 1 100⟩,
  ⟨0xA0004, 0, 1, false,
      FSpec.one (fun _ => FLD_TP_TPP) .ro .safety 10 1000 ++
      FSpec.one (fun _ => FLD_TP_TPW) .ro .safety 10 100⟩,
  ⟨0xA0008, 0, 1, false,
      FSpec.one (fun _ => FLD_GRP_SRC) .ro .safety 0 262143⟩,
  ⟨0xA000C, 0, 1, false,
      FSpec.one (fun _ => FLD_STATUS_SILCNT) .rc .none 0 255 ++
      FSpec.one (fun _ => FLD_STATUS_DECLARED) .ro .none 0 1 ++
      FSpec.one (fun _ => FLD_STATUS_BERM_OK) .ro .none 0 1 ++
      FSpec.one (fun _ => FLD_STATUS_SILENCED) .ro .none 0 1 ++
      FSpec.one (fun _ => FLD_STATUS_SAFETY_FAULT) .ro .none 0 1 ++
      FSpec.one (fun _ => FLD_STATUS_GRPB_OFF) .ro .none 0 1 ++
      FSpec.one (fun _ => FLD_STATUS_GRPA_OFF) .ro .none 0 1 ++
      FSpec.one (fun _ => FLD_STATUS_RELEASE_OK) .ro .none 0 1 ++
      FSpec.one (fun _ => FLD_STATUS_DROPLATCH) .ro .none 0 1 ++
      FSpec.one (fun _ => FLD_STATUS_SUPPLY) .ro .none 0 3⟩,
  ⟨0xA0010, 0, 1, false,
      FSpec.one (fun _ => FLD_SUP_LPL) .ro .none 0 1023 ++
      FSpec.one (fun _ => FLD_SUP_LPB) .ro .none 0 1023 ++
      FSpec.one (fun _ => FLD_SUP_LPA) .ro .none 0 1023⟩,
  ⟨0xA0014, 0, 1, false,
      FSpec.one (fun _ => FLD_CTRL_RESULT) .rc .none 0 15 ++
      FSpec.one (fun _ => FLD_CTRL_GRPB_REARM) .ka .none 0 1 ++
      FSpec.one (fun _ => FLD_CTRL_GRPA_REARM) .ka .none 0 1⟩,
  ⟨0xA0100, 4, 24, false,
      FSpec.one FLD_IN_DEB .ro .safety 2 65535 ++
      FSpec.one FLD_IN_PARTNER .ro .none 0 3 ++
      FSpec.one FLD_IN_TYPE .ro .safety 0 3 ++
      FSpec.one FLD_IN_FAULT .ro .none 0 15 ++
      FSpec.one FLD_IN_IIN .ro .none 0 255⟩,
  ⟨0xA0200, 4, 16, false,
      FSpec.one FLD_OUT_LAMP .ro .safety 0 1 ++
      FSpec.one FLD_OUT_DTEST .ro .safety 0 1 ++
      FSpec.one FLD_OUT_SILENT .ro .safety 0 1 ++
      FSpec.one FLD_OUT_FAILED .w1c .none 0 1 ++
      FSpec.one FLD_OUT_LSTATE .ro .none 0 3 ++
      FSpec.one FLD_OUT_FAULT .ro .none 0 15 ++
      FSpec.one FLD_OUT_PARTNER .ro .none 0 15 ++
      FSpec.one FLD_OUT_LMIN .ro .safety 0 255 ++
      FSpec.one FLD_OUT_IOUT .ro .none 0 255⟩,
  ⟨0xA0400, 4, 8, false,
      FSpec.one CAB_ASP_FLASH .ro .safety 0 65535 ++
      FSpec.one CAB_ASP_LIT .ro .safety 0 65535⟩,
  ⟨0xA0420, 0, 1, false,
      FSpec.one (fun _ => CAB_FALLBACK_FB) .ro .safety 0 16777215⟩,
  ⟨0xA0424, 0, 1, false,
      FSpec.one (fun _ => CAB_ISO_DWELL) .ro .safety 1 255 ++
      FSpec.one (fun _ => CAB_ISO_MASK) .ro .safety 0 16777215⟩,
  ⟨0xA0428, 0, 1, false,
      FSpec.one (fun _ => CAB_STATUS_CHANGES) .rc .none 0 255 ++
      FSpec.one (fun _ => CAB_STATUS_REASON) .ro .none 0 15 ++
      FSpec.one (fun _ => CAB_STATUS_ISO_OK) .ro .none 0 1 ++
      FSpec.one (fun _ => CAB_STATUS_PROVEN) .ro .none 0 1 ++
      FSpec.one (fun _ => CAB_STATUS_REQ) .ro .none 0 7 ++
      FSpec.one (fun _ => CAB_STATUS_SHOWN) .ro .none 0 15⟩]

/-- Field tables of the Bist block (R620). -/
def rowsBist : List Row := [
  ⟨0xB0000, 0, 1, false,
      FSpec.one (fun _ => BIST_CTRL_ABORT) .wo .none 0 1 ++
      FSpec.one (fun _ => BIST_CTRL_RUN) .wo .none 0 1 ++
      FSpec.one (fun _ => BIST_CTRL_EXTLOOP) .rw .none 0 1 ++
      FSpec.one (fun _ => BIST_CTRL_TEST) .rw .none 0 63⟩,
  ⟨0xB0004, 0, 1, false,
      FSpec.one (fun _ => BIST_STATUS_RESULT) .rc .none 0 15 ++
      FSpec.one (fun _ => BIST_STATUS_POLDERS) .ro .none 0 255 ++
      FSpec.one (fun _ => BIST_STATUS_QUEUE) .ro .none 0 255 ++
      FSpec.one (fun _ => BIST_STATUS_NONPOLDER) .ro .none 0 63⟩,
  ⟨0xB0008, 0, 1, false,
      FSpec.one (fun _ => BIST_ROLL_EN) .rw .image 0 1 ++
      FSpec.one (fun _ => BIST_ROLL_RESULT) .ro .none 0 7 ++
      FSpec.one (fun _ => BIST_ROLL_LANE) .ro .none 0 255 ++
      FSpec.one (fun _ => BIST_ROLL_STEP) .ro .none 0 255 ++
      FSpec.one (fun _ => BIST_ROLL_PERIOD) .rw .image 1 4095⟩,
  ⟨0xB0020, 4, 5, false,
      FSpec.array BIST_ROLLFAIL 32 .w1c .none⟩,
  ⟨0xB0040, 0, 1, false,
      FSpec.one (fun _ => BIST_REP_RESULT) .rc .none 0 15 ++
      FSpec.one (fun _ => BIST_REP_FUSE) .krw .none 0 1 ++
      FSpec.one (fun _ => BIST_REP_GO) .ka .none 0 1 ++
      FSpec.one (fun _ => BIST_REP_KIND) .krw .none 0 3 ++
      FSpec.one (fun _ => BIST_REP_UNIT) .krw .none 0 4095 ++
      FSpec.one (fun _ => BIST_REP_ELEMENT) .krw .none 0 255⟩,
  ⟨0xB0044, 0, 1, false,
      FSpec.one (fun _ => BIST_REPCNT_SOFT) .ro .none 0 255 ++
      FSpec.one (fun _ => BIST_REPCNT_FUSED) .ro .none 0 4095⟩,
  ⟨0xB0100, 16, 54, false,
      FSpec.one BIST_TSTAT_RESULT .ro .none 0 15 ++
      FSpec.one BIST_TSTAT_FAILINFO .ro .none 0 16777215⟩,
  ⟨0xB0104, 16, 54, false,
      FSpec.one BIST_TCNT_COUNT .ro .none 0 4294967295⟩,
  ⟨0xB0108, 16, 54, false,
      FSpec.one BIST_TSIG_SIG .ro .none 0 4294967295⟩,
  ⟨0xB010C, 16, 54, false,
      FSpec.one BIST_TEXP_EXPECTED .ro .none 0 4294967295⟩]

/-- Field tables of the Ledger block (R620). -/
def rowsLedger : List Row := [
  ⟨0xC8000, 0, 1, false,
      FSpec.one (fun _ => LDG_STATUS_RESULT) .rc .none 0 3 ++
      FSpec.one (fun _ => LDG_STATUS_SCRUB) .ro .none 0 1 ++
      FSpec.one (fun _ => LDG_STATUS_WEEK) .ro .none 0 65535⟩,
  ⟨0xC8004, 0, 1, false,
      FSpec.one (fun _ => LDG_PAGE_PAGE) .rw .none 0 63⟩,
  ⟨0xC8008, 0, 1, false,
      FSpec.one (fun _ => LDG_SECS_LO) .ro .none 0 4294967295⟩,
  ⟨0xC800C, 0, 1, false,
      FSpec.one (fun _ => LDG_SECS_HI) .ro .none 0 4294967295⟩,
  ⟨0xC8010, 0, 1, false,
      FSpec.one (fun _ => LDG_TREND_TI) .ro .image 1 255⟩,
  ⟨0xC8014, 0, 1, false,
      FSpec.one (fun _ => LDG_AGE_LEDH) .ro .image 1 255 ++
      FSpec.one (fun _ => LDG_AGE_MARGIN) .ro .image 0 200 ++
      FSpec.one (fun _ => LDG_AGE_HORIZON) .ro .image 1 1300⟩,
  ⟨0xC8020, 4, 5, false,
      FSpec.array LDG_WARN 32 .w1c .none⟩,
  ⟨0xC8040, 0, 1, false,
      FSpec.one (fun _ => LDG_LSEL_LANE) .rw .none 0 255⟩,
  ⟨0xC8044, 0, 1, false,
      FSpec.one (fun _ => LDG_LVIEW_H) .ro .none 0 65535 ++
      FSpec.one (fun _ => LDG_LVIEW_SLOPE) .ro .none 0 255 ++
      FSpec.one (fun _ => LDG_LVIEW_M) .ro .none 0 255⟩]

/-- Field tables of the Twin block (R620). -/
def rowsTwin : List Row := [
  ⟨0xD0000, 0, 1, false,
      FSpec.one (fun _ => TWIN_CFG_ETYPE) .ro .safety 0 65535 ++
      FSpec.one (fun _ => TWIN_CFG_DIRECT) .ro .safety 0 1 ++
      FSpec.one (fun _ => TWIN_CFG_SINGLE) .ro .safety 0 1 ++
      FSpec.one (fun _ => TWIN_CFG_LOSSLIM) .ro .safety 1 255⟩,
  ⟨0xD0004, 0, 1, false,
      FSpec.one (fun _ => TWIN_TIME_WDOG) .ro .safety 2 1000 ++
      FSpec.one (fun _ => TWIN_TIME_PAIRW) .ro .safety 1 500⟩,
  ⟨0xD0008, 0, 1, false,
      FSpec.one (fun _ => TWIN_ID_SRC) .ro .safety 0 65535 ++
      FSpec.one (fun _ => TWIN_ID_DST) .ro .safety 0 65535⟩,
  ⟨0xD000C, 0, 1, false,
      FSpec.one (fun _ => TWIN_STATUS_IW32) .ro .none 0 4294967295⟩,
  ⟨0xD0010, 0, 1, false,
      FSpec.one (fun _ => TWIN_SEQ_TSEQ) .ro .none 0 4294967295⟩,
  ⟨0xD0020, 4, 2, false,
      FSpec.one TWIN_PORT_CRCERR .rc .none 0 255 ++
      FSpec.one TWIN_PORT_REJECT .rc .none 0 255 ++
      FSpec.one TWIN_PORT_SLOSS .rc .none 0 255 ++
      FSpec.one TWIN_PORT_CONSEC .ro .none 0 255⟩,
  ⟨0xD0030, 0, 1, false,
      FSpec.one (fun _ => TWIN_CMP_MISMATCH) .rc .none 0 65535 ++
      FSpec.one (fun _ => TWIN_CMP_WDOGEXP) .rc .none 0 65535⟩]

/-- Field tables of the Watermark block (R620). -/
def rowsWatermark0 : List Row := [
  ⟨0xE0000, 0, 1, false,
      FSpec.one (fun _ => WMK_STATUS_CODE) .ro .none 0 255 ++
      FSpec.one (fun _ => WMK_STATUS_DETAIL) .ro .none 0 255 ++
      FSpec.one (fun _ => WMK_STATUS_BLANK) .ro .none 0 1 ++
      FSpec.one (fun _ => WMK_STATUS_SLOT) .ro .none 0 1 ++
      FSpec.one (fun _ => WMK_STATUS_LOADED) .ro .none 0 1⟩,
  ⟨0xE0004, 0, 1, false,
      FSpec.one (fun _ => WMK_CONFLICT0_RKIND) .ro .none 0 15 ++
      FSpec.one (fun _ => WMK_CONFLICT0_RIDX) .ro .none 0 65535⟩,
  ⟨0xE0008, 0, 1, false,
      FSpec.one (fun _ => WMK_CONFLICT1_KIND) .ro .none 0 15 ++
      FSpec.one (fun _ => WMK_CONFLICT1_INST) .ro .none 0 65535⟩,
  ⟨0xE000C, 0, 1, false,
      FSpec.one (fun _ => WMK_CONFLICT2_KIND) .ro .none 0 15 ++
      FSpec.one (fun _ => WMK_CONFLICT2_INST) .ro .none 0 65535⟩,
  ⟨0xE0010, 4, 8, false,
      FSpec.one WMK_HASH_HASH .ro .none 0 4294967295⟩,
  ⟨0xE0030, 0, 1, false,
      FSpec.one (fun _ => WMK_GEN_GEN) .ro .none 0 4294967295⟩,
  ⟨0xE0034, 0, 1, false,
      FSpec.one (fun _ => WMK_SERIAL_SERIAL) .ro .none 0 4294967295⟩,
  ⟨0xE0038, 0, 1, false,
      FSpec.one (fun _ => WMK_QSPI_JEDEC) .ro .none 0 16777215⟩,
  ⟨0xE0040, 4, 16, false,
      FSpec.one WMK_PWD_DATA .wo .none 0 4294967295⟩,
  ⟨0xE0080, 0, 1, false,
      FSpec.one (fun _ => WMK_PWD_CTRL_RESULT) .rc .none 0 15 ++
      FSpec.one (fun _ => WMK_PWD_CTRL_FAILS) .ro .none 0 7 ++
      FSpec.one (fun _ => WMK_PWD_CTRL_LOCKREM) .ro .none 0 1023 ++
      FSpec.one (fun _ => WMK_PWD_CTRL_CHECK) .wo .none 0 1 ++
      FSpec.one (fun _ => WMK_PWD_CTRL_LEN) .wo .none 0 127⟩,
  ⟨0xE0090, 0, 1, false,
      FSpec.one (fun _ => WMK_WR_CTRL_RESULT) .rc .none 0 15 ++
      FSpec.one (fun _ => WMK_WR_CTRL_ABORT) .ka .none 0 1 ++
      FSpec.one (fun _ => WMK_WR_CTRL_COMMIT) .ka .none 0 1 ++
      FSpec.one (fun _ => WMK_WR_CTRL_BEGIN) .ka .none 0 1⟩,
  ⟨0xE0094, 0, 1, false,
      FSpec.one (fun _ => WMK_WR_LEN_LEN) .krw .none 0 4194303⟩]

/-- Field tables of the Watermark block (R620). -/
def rowsWatermark1 : List Row := [
  ⟨0xE0098, 0, 1, false,
      FSpec.one (fun _ => WMK_WR_DATA_DATA) .ka .none 0 4294967295⟩,
  ⟨0xE009C, 0, 1, false,
      FSpec.one (fun _ => WMK_WR_STAT_STATE) .ro .none 0 15 ++
      FSpec.one (fun _ => WMK_WR_STAT_CODE) .ro .none 0 255 ++
      FSpec.one (fun _ => WMK_WR_STAT_OVERRUN) .ro .none 0 1 ++
      FSpec.one (fun _ => WMK_WR_STAT_SPACE) .ro .none 0 1023⟩,
  ⟨0xE00A0, 0, 1, false,
      FSpec.one (fun _ => WMK_LOG_NEXT_NEXT) .ro .none 0 4294967295⟩,
  ⟨0xE00A4, 0, 1, false,
      FSpec.one (fun _ => WMK_LOG_STAT_STAGED) .ro .none 0 255 ++
      FSpec.one (fun _ => WMK_LOG_STAT_FAIL) .ro .none 0 1 ++
      FSpec.one (fun _ => WMK_LOG_STAT_BROKEN) .ro .none 0 1⟩,
  ⟨0xE00A8, 0, 1, false,
      FSpec.one (fun _ => WMK_LOG_SEL_INDEX) .rw .none 0 4294967295⟩,
  ⟨0xE00B0, 0, 1, false,
      FSpec.one (fun _ => WMK_WR_COUNT_COUNT) .ro .none 0 4194303⟩,
  ⟨0xE00C0, 4, 16, false,
      FSpec.one WMK_LOG_DATA_DATA .ro .none 0 4294967295⟩,
  ⟨0xE0100, 0, 1, false,
      FSpec.one (fun _ => LCS_STATE_RESULT) .rc .none 0 15 ++
      FSpec.one (fun _ => LCS_STATE_PEND) .ro .none 0 1 ++
      FSpec.one (fun _ => LCS_STATE_TARGET) .ro .none 0 3 ++
      FSpec.one (fun _ => LCS_STATE_STATE) .ro .none 0 3⟩,
  ⟨0xE0104, 0, 1, false,
      FSpec.one (fun _ => LCS_ADV_CONFIRM) .krw .none 0 65535 ++
      FSpec.one (fun _ => LCS_ADV_TARGET) .krw .none 0 3⟩]

def rowsWatermark : List Row := rowsWatermark0 ++ rowsWatermark1

/-- The tables of the 64 KiB block an offset lies in (R620); the lanes and polders fill four blocks. -/
def rowsOf (off : Nat) : List Row :=
  match off / 0x10000 with
  | 0 => rowsGlobal
  | 1 => rowsTideline
  | 2 => rowsBreach
  | 3 => rowsSluiceRaces
  | 4 | 5 | 6 | 7 => rowsPolder
  | 8 => rowsContext
  | 9 => rowsTerp
  | 10 => rowsBerm
  | 11 => rowsBist
  | 12 => rowsLedger
  | 13 => rowsTwin
  | 14 => rowsWatermark
  | _ => []

/-- The instance of a table that lies at an offset. -/
def Row.instance? (r : Row) (off : Nat) : Option Nat :=
  if r.lane then
    if off < 0x40000 ∨ 0x80000 ≤ off then none else
    let p := (off - 0x40000) / 0x8000
    let x := (off - 0x40000) % 0x8000
    if x < r.base - 0x40000 then none else
    let y := x - (r.base - 0x40000)
    if y % 0x40 = 0 ∧ y / 0x40 < 18 then some (18 * p + y / 0x40) else none
  else if off < r.base then none
  else if r.stride = 0 then (if off = r.base then some 0 else none)
  else if (off - r.base) % r.stride = 0 ∧ (off - r.base) / r.stride < r.count then some ((off - r.base) / r.stride)
  else none

/-- A field of the register at an offset, with its type and what loads it. -/
structure FieldAt where
  fld  : Fld
  ty   : FTy
  load : LoadBy
  lo   : Nat
  hi   : Nat
  deriving DecidableEq, Repr

/-- The fields of the register at a BAR0 offset; none where the offset holds no register (R5). -/
def fieldsAt (off : Nat) : List FieldAt :=
  (rowsOf off).foldr (fun r acc =>
    match r.instance? off with
    | some i => r.flds.map (fun f => ⟨f.fld i, f.ty, f.load, f.lo, f.hi⟩) ++ acc
    | none => acc) []

end Sys2Proof.Machine
end

