-- ==== Sys2Proof/Machine/Sparse.lean ====
section
/-! DEFINITION. Sparse tables: lists of (key, value) in one canonical form, strictly rising keys and no entry equal to
the value an unlisted key reads as, so that equal tables are equal data.  The register file, the lanes, the contexts,
the races and every memory of the block are such tables. -/

namespace Sys2Proof.Machine

/-- A table from numbers to values; an unlisted key reads as a default that its user fixes. -/
abbrev Table (α : Type) := List (Nat × α)

namespace Table

variable {α : Type}

/-- The value of a key; `d` where none is listed. -/
def get (d : α) : Table α → Nat → α
  | [], _ => d
  | (k, v) :: m, x => if x = k then v else get d m x

/-- The table without a key. -/
def erase : Table α → Nat → Table α
  | [], _ => []
  | (k, v) :: m, x => if x = k then erase m x else (k, v) :: erase m x

/-- The table with an entry put in its place. -/
def insert : Table α → Nat → α → Table α
  | [], x, v => [(x, v)]
  | (k, w) :: m, x, v => if x < k then (x, v) :: (k, w) :: m else (k, w) :: insert m x v

/-- The table in which `x` reads as `v`. -/
def put [DecidableEq α] (d : α) (m : Table α) (x : Nat) (v : α) : Table α :=
  if v = d then erase m x else insert (erase m x) x v

/-- Every key of the table lies above `b`, and the keys rise. -/
def risesAbove (b : Nat) : Table α → Bool
  | [] => true
  | (k, _) :: m => decide (b < k) && risesAbove k m

/-- The canonical form: keys strictly rising, no entry equal to the default. -/
def wf [DecidableEq α] (d : α) (m : Table α) : Bool :=
  (match m with
   | [] => true
   | (k, _) :: m' => risesAbove k m') && m.all fun e => decide (e.2 ≠ d)

end Table

/-- The canonical form of a byte memory of the block, whose unlisted bytes read as 0: the ledger MRAM, the data memories
of the polders, the vat. -/
def Memory.wf (m : Table Byte) : Bool := Table.wf 0 m

end Sys2Proof.Machine
end

