-- ==== Sys2Proof/Machine/State.lean ====
section
/-! DEFINITION. The state of the AV8128: plain data that holds every register field of the spec (the register file
`regs`), every memory, queue, counter and timer that a rule gives the device beside its registers, what the device has
sent (`out`), and the queue of commands that wait.

The register file lists, for each field that differs from its reset value, the bits that differ; the empty list is
the file at reset. -/

namespace Sys2Proof.Machine

/-- What the device sends to its partners, oldest first. -/
inductive Out where
  /-- A frame, in bytes, from the LED pin of a lane, from a sluice transmitter or from TIDE_OUT. -/
  | lane (L : Nat) (bytes : List Byte)
  | sluice (k : Nat) (bytes : List Byte)
  | tide (bytes : List Byte)
  /-- A sheet on a lane that suspends the frame sent before it: it starts after the frame's first `k` symbols, and the
  frame goes on with K28.0 behind it (R27, R122). -/
  | inside (L : Nat) (k : Nat) (bytes : List Byte)
  /-- A time mark on a lane, with the setting of the lane's fine-delay line in 62.5 ps (R59, R75). -/
  | mark (L : Nat) (fine : Nat) (bytes : List Byte)
  /-- An MSI-X message of a vector. -/
  | msix (v : Nat)
  /-- Data returned by a register read. -/
  | read (v : Nat)
  /-- A DMA write to host memory. -/
  | hostWrite (addr : Nat) (bytes : List Byte)
  /-- Response bytes on the SPI port. -/
  | spi (bytes : List Byte)
  /-- The frame of the isolation channel toward the berm: commanded output states, with its sequence number. -/
  | iso (outputs : Nat) (seq : Nat)
  /-- A safe-demand word to polder p: ALL and toggle bit, demand bits, CRC-8 (R431). -/
  | safeDemand (p : Nat) (bytes : List Byte)
  /-- A flash operation of the QSPI master: page or sector address and data. -/
  | flash (addr : Nat) (bytes : List Byte)
  deriving DecidableEq, Repr

/-! ### The mode controller, the tideline and the tide link -/

/-- The mode controller beside GLB_MODE (R43, R46, R48). -/
structure ModeCtl where
  /-- Instant at which the cause of the waiting transition became visible (R47). -/
  pendAt    : Nat := 0
  /-- Cause code of the waiting transition (R37). -/
  pendCause : Nat := 0
  /-- The waiting HOLD was requested with PARK = 1. -/
  pendPark  : Bool := false
  /-- The base that HOLD keeps while SERVICE overlays it (R48). -/
  holdBase  : Nat := 0
  /-- The standing HOLD was requested with PARK = 1 (R43). -/
  parked    : Bool := false
  /-- Target deckle of HOLD deckle 1 (R43, R50). -/
  holdM     : Nat := 0
  /-- A breach level that has been reached and not yet imposed; 0 for none. -/
  due       : Nat := 0
  /-- A safe demand to all contexts has risen and has not yet been imposed. -/
  dueSafe   : Bool := false
  /-- Instant of the latest entry into DARK (R47). -/
  darkAt    : Nat := 0
  /-- Rank of the mode that a level has imposed since a level of 2 or more stands (R50, R51); 0 for none. -/
  imposed   : Nat := 0
  /-- Rank of the request or imposed mode applied latest, for the requests of the same hub cycle (R45); 0 for none. -/
  cycle     : Nat := 0
  deriving DecidableEq, Repr, Inhabited

/-- One peer of the tide link, as the MASTER keeps it (R87, R88). -/
structure Peer where
  echoes : List Int := []
  fails  : Nat := 0
  deriving DecidableEq, Repr, Inhabited

/-- The tideline island (chapter 3). -/
structure Tide where
  /-- B(n) of the current deckle and of up to five deckles before it, newest first. -/
  bs       : List Nat := []
  /-- Full number of the current deckle; TIDE_DECKLE shows it modulo 2^32. -/
  n        : Nat := 0
  /-- The next boundary, once RAISE has been entered. -/
  nextB    : Option Nat := none
  /-- The period P(n). -/
  p        : Nat := 0
  /-- Target deckle of the latest cut-off. -/
  cut      : Nat := 0
  /-- Staged low word of a TIDE_TGT write (R64). -/
  tgtLo    : Nat := 0x4E200000
  /-- The tideline at the latest distribution strobe (R20, R57). -/
  strobe   : Nat := 0
  /-- The latest target command was an accepted one of the control engine (R66). -/
  engTaken : Bool := false
  /-- Grid-phase accumulator G, counter k and the N and INC in use (R70). -/
  gAcc     : Nat := 0
  gK       : Nat := 0
  gN       : Nat := 1000
  gInc     : Nat := 0x00418937
  /-- An accepted jump waits for the next boundary (R69). -/
  jump     : Bool := false
  /-- MASTER: TIME frames since the latest POLL, the slave polled last, the slave whose ECHO is awaited. -/
  timeCnt  : Nat := 0
  lastPoll : Nat := 0
  awaiting : Option Nat := none
  tPoll    : Int := 0
  peers    : Table Peer := []
  /-- SLAVE: frames in succession with a small phase error, frames missing in succession, increment, received B(n+1). -/
  goodRun  : Nat := 0
  missRun  : Nat := 0
  inc      : Nat := 65536
  polled   : Option Nat := none
  /-- A device whose REFCLK has stopped (R579). -/
  refLost  : Bool := false
  /-- The frequency pull-back of R92 is under way. -/
  pullBack : Bool := false
  /-- Deckle of the latest update of each gang (R83). -/
  gangAt   : Table Nat := []
  deriving DecidableEq, Repr, Inhabited

/-! ### Sheets, proof and lanes -/

/-- A schedule entry (R150): aspect code and instant in 250 ps. -/
structure Entry where
  asp  : Nat
  inst : Nat
  deriving DecidableEq, Repr, Inhabited

/-- A sheet (R148, R149) with the full number of its target deckle. -/
structure Sheet where
  ssq     : Nat := 0
  tgt     : Nat := 0
  rep     : Bool := false
  mapv    : Nat := 0
  dabv    : Bool := false
  safe    : Bool := false
  gang    : Bool := false
  entries : List Entry := []
  dabph   : Nat := 0
  /-- Reference instant of R31 in ns, for a sheet that a ream carried. -/
  ref     : Option Nat := none
  deriving DecidableEq, Repr, Inhabited

/-- A sheet as a source supplied it (R229, R233): source 0 A, 1 B, 2 S. -/
structure Supplied where
  src    : Nat
  sheet  : Sheet
  resume : Bool
  mapv   : Nat
  deriving DecidableEq, Repr, Inhabited

/-- A commanded entry on its way to its expected instant E, in 2^-16 ps (R160, R161). -/
structure Sched where
  e    : Int
  asp  : Nat
  ssq  : Nat
  idx  : Nat
  tgt  : Nat
  safe : Bool
  deriving DecidableEq, Repr, Inhabited

/-- What CTX_PROOF_CFG said when a window opened: EVEN, SUMEN, FAILLIM (R177). -/
structure ProofCfg where
  even  : Nat := 0
  sumen : Bool := false
  limit : Nat := 0
  deriving DecidableEq, Repr, Inhabited

/-- An open proof window (R163): length and switching allowance in 2^-16 ps. -/
structure Window where
  e    : Int
  asp  : Nat
  ssq  : Nat
  idx  : Nat
  tgt  : Nat
  safe : Bool
  len  : Int
  tsw  : Int
  cfg  : ProofCfg := {}
  deriving DecidableEq, Repr, Inhabited

/-- A proof record (R173) with the full number of its deckle. -/
structure Rec where
  ctx     : Nat
  outcome : Nat
  entry   : Nat
  cmd     : Nat
  fb      : Nat
  cause   : Nat
  ssq     : Nat
  deckle  : Nat
  delta   : Nat
  cfg     : ProofCfg := {}
  deriving DecidableEq, Repr, Inhabited

/-- A BULK data packet (R117). -/
structure Packet where
  xid   : Nat
  first : Bool
  last  : Bool
  data  : List Byte
  /-- The BULK_OUT race that the packet belongs to, plus 1; 0 for a packet of a program (R342) or of the cell. -/
  race  : Nat := 0
  deriving DecidableEq, Repr, Inhabited

/-- The receiver of a lane (R105, R123): the bytes of the frame that is open, and the frames that wait for K28.0, the one
on top first. -/
structure Rx where
  cur  : Option (List Byte) := none
  wait : List (List Byte) := []
  deriving DecidableEq, Repr, Inhabited

/-- A lane beside its registers (chapters 3 to 6). -/
structure Lane where
  /-- Accepted ranging samples RTT_f, newest first, in ps; discards in succession. -/
  samples : List Int := []
  disc    : Nat := 0
  /-- Sum of the 16 samples of the latest valid filter (R80). -/
  rtt     : Int := 0
  rid     : Nat := 0
  /-- Pin instant of the outstanding RANGE request, in 250 ps. -/
  ttx     : Option Nat := none
  /-- Deckle of the latest RANGE request since the latest LOAD (R80, R187). -/
  rangeAt : Option Nat := none
  /-- Applied D_out(L) in 1/32 ps (0 until a filter has been valid). -/
  dout    : Int := 0
  /-- The cell's declared T_crx in ps. -/
  tcrx    : Nat := 0
  /-- A change of D_out(L) and FD(L) that waits for the lane's time mark of this deckle (R76, R83). -/
  fdAt    : Option (Nat × Int) := none
  /-- A sample has been accepted since the previous gang update. -/
  fresh   : Bool := false
  /-- DARK and LIT counters (R170). -/
  dark    : Nat := 0
  lit     : Nat := 0
  /-- A dark interval runs (R199). -/
  darkIv  : Bool := false
  /-- The image marks the lane as a survey lane. -/
  survey  : Bool := false
  /-- A RETURN has been accepted since the binding (R129). -/
  gotRet  : Bool := false
  /-- The receiver; symbols of the latest frame of class B, C or D that the lane has sent (R122). -/
  rx      : Rx := {}
  tx      : Nat := 0
  /-- First deckle whose time mark the lane carries (R193). -/
  markFrom : Nat := 0
  /-- Bulk: C0 offers of cell and device, peer's CACK, packets staged, packets sent and not yet taken. -/
  cellC0  : Nat := 0
  peerCack : Nat := 0
  peerNext : Nat := 0
  staged  : List Packet := []
  unacked : List Packet := []
  /-- Bulk inbound: accepted and released count, packets in staging, report owed. -/
  cack    : Nat := 0
  inbound : List Packet := []
  owed    : Bool := false
  deriving DecidableEq, Repr, Inhabited

/-- A context beside its registers (chapters 5 to 10). -/
structure Cell where
  /-- From the image: listed cell ID and home lane. -/
  listed   : Nat := 0
  home     : Option Nat := none
  /-- Admission: admitted aspect, T_crx, first deckle of the binding, GANG capability declared. -/
  admitted : Nat := 0
  tcrx     : Nat := 0
  nb       : Nat := 0
  /-- Wanted membership of the next map version; the standing or waiting change that carries the context. -/
  want     : Bool := false
  changed  : Bool := false
  inPend   : Bool := false
  /-- BOUND from this target deckle on (R196). -/
  boundAt  : Option Nat := none
  /-- Latest sheet sent since the binding; MAPV by SSEQ of the sheets sent; instant of the previous non-KEEP event. -/
  last     : Option Sheet := none
  sentMap  : List (Nat × Nat) := []
  prevEv   : Option Nat := none
  /-- Sheets in the polder buffer that have not left their lane; target deckle of the latest one written. -/
  buf      : List Sheet := []
  doneM    : Option Nat := none
  /-- Sheets supplied by the sources and not yet used. -/
  supply   : List Supplied := []
  /-- Hold count, SAFEHOLD, instant of an accepted RESUME on source S. -/
  hc       : Nat := 0
  safeHold : Bool := false
  /-- The latest sheet given to the context is a repeat (R240). -/
  held     : Bool := false
  resumeAt : Option Nat := none
  /-- Proof: entries under way, open windows, the last 16 sheets that opened a window, decided records. -/
  sched    : List Sched := []
  wins     : List Window := []
  winLog   : List (Nat × Nat × List Nat) := []
  recs     : List Rec := []
  /-- Target deckles of the binding with a failure that counts for source 50 (R175). -/
  fails    : List Nat := []
  failDue  : Bool := false
  /-- Proof mailbox and inbound bulk packets of the programs (R340, R341). -/
  mbx      : List Rec := []
  /-- Latest accepted RETURN payload and the deckle number it was accepted in. -/
  ret      : Option (List Byte) := none
  retN     : Nat := 0
  missed   : Nat := 0
  /-- A RETURN has been accepted in the current deckle; one with its number as NSAMP. -/
  gotAny   : Bool := false
  gotN     : Bool := false
  /-- TSEQ of the latest record of each TELEM stream, plus 1. -/
  tseq     : Table Nat := []
  /-- Latest sheet whose first symbol has left the pin (R330). -/
  onWire   : List Byte := []
  deriving DecidableEq, Repr, Inhabited

/-- An entry of the host queue (R191) with the request it holds. -/
structure Applicant where
  id   : Nat
  lane : Nat
  cap  : Nat
  tcrx : Nat
  nsl  : Nat
  tloss : Nat
  cred : Nat
  deriving DecidableEq, Repr, Inhabited

/-- Survey and the host queue (R189, R191). -/
structure Survey where
  queue    : List Applicant := []
  /-- Cells that have had their first PENDING of rows 9, 10 or of the host queue. -/
  pended   : List (Nat × Nat) := []
  /-- Target deckle from which on PEND is CUR: of the accepted ream that commits it (R196). -/
  commitAt : Option Nat := none
  /-- Lane of the ADMIT request decided, or of the admission made, by the latest command that did so (R205). -/
  deciding : Option Nat := none
  /-- The latest change of the host queue took away its head entry, by a loss of sync (R192). -/
  removed  : Bool := false
  deriving DecidableEq, Repr, Inhabited

/-! ### Sluice port and couch -/

/-- An item that waits for a sluice transmitter (R245). -/
inductive SluItem where
  | snapshot (payload : List Byte)
  | piece (entry : List Byte)
  | proof (r : List Byte)
  /-- A CTRL response; `ends` tells that it answers the request that holds the lane (R249). -/
  | ctrl (ends : Bool) (payload : List Byte)
  | ping (tag : Nat) (ns : Nat)
  deriving DecidableEq, Repr, Inhabited

/-- One sluice lane beside its registers. -/
structure SluLane where
  /-- No ream has passed since the lane reached sync (R230). -/
  firstRx : Bool := true
  /-- Frames received, and the numbers of the latest frames that failed their CRC (R221). -/
  rx      : Nat := 0
  crcAt   : List Nat := []
  queue   : List SluItem := []
  /-- Count of class A frames sent. -/
  seq     : Nat := 0
  /-- A CTRL request waits for its answer. -/
  busy    : Bool := false
  /-- Records not PROVEN queued since the previous SNAPSHOT. -/
  pfail   : Nat := 0
  deriving DecidableEq, Repr, Inhabited

/-- One ream source A or B (R230, R630). -/
structure Source where
  /-- Accepted target deckles that are not yet past, with the contexts they cover as a bit set and whether one was full. -/
  accepted : List (Nat × Nat × Bool) := []
  /-- For the latest cut-offs, newest first: every BOUND context had its sheet. -/
  valid    : List Bool := []
  /-- For the latest cut-offs, newest first: a ream was accepted. -/
  heard    : List Bool := []
  /-- Cause of the latest discarded ream of the source (R229, R240). -/
  cause    : Nat := 0
  /-- RSQ and freeboard in ns of the latest accepted ream (R240). -/
  rsq      : Nat := 0
  fb       : Int := 0
  deriving DecidableEq, Repr, Inhabited

/-- The sluice port beside its registers (chapter 7). -/
structure Sluice where
  lanes   : Table SluLane := []
  sources : Table Source := []
  /-- Deckle whose LOCKSTEP SNAPSHOT has not yet been released. -/
  snap    : Option Nat := none
  deriving DecidableEq, Repr, Inhabited

/-- The couch controller beside its registers (chapter 8). -/
structure Couch where
  /-- Accepted and waiting for its boundary: incoming source and POLICY as requested (R277). -/
  wait    : Option (Nat × Nat) := none
  /-- First target deckle tested; COUCH_CFG as it stood at the start. -/
  m1      : Nat := 0
  timeout : Nat := 0
  tol     : Nat := 0
  dabtol  : Nat := 0
  /-- The couch ends at the cut-off of this target deckle with this END code: 2 FORCED or 7 CANCELLED. -/
  ending  : Option (Nat × Nat) := none
  deriving DecidableEq, Repr, Inhabited

/-! ### Polder engines -/

/-- An entry of a polder's program table (R324, R349). -/
structure Prog where
  ctx    : Nat
  kind   : Nat
  entry  : Nat
  budget : Nat
  bmbx   : Bool := false
  deriving DecidableEq, Repr, Inhabited

/-- A run for one target deckle (R325). -/
structure Run where
  m     : Nat := 0
  /-- Invocations still to make: context and program table entry. -/
  todo  : List Prog := []
  /-- The invocation in progress. -/
  cur   : Option Prog := none
  /-- Cycles used by the current context, and by the whole run. -/
  used  : Nat := 0
  total : Nat := 0
  emitted : Bool := false
  /-- OUT_SHEET (R336). -/
  sheet : List Byte := []
  /-- Context window at the dispatch (R330). -/
  window : List Byte := []
  /-- ns[31:0] of the replica at the start of the run, and P(n) and n then. -/
  ns    : Nat := 0
  deriving DecidableEq, Repr, Inhabited

/-- A polder and its engine (chapter 10). -/
structure Polder where
  /-- Phase of the polder clock against the tideline, in 62.5 ps (R59). -/
  phase   : Nat := 0
  regs    : Table Word := []
  pc      : Nat := 0
  stack   : List Nat := []
  imem    : Table Word := []
  dmem    : Table Byte := []
  scratch : Table Byte := []
  progs   : List Prog := []
  run     : Option Run := none
  /-- Copies of slack sheets are asked for, START of the run passed for this target. -/
  lastM   : Nat := 0
  /-- Demand of the safe-demand word received last, by context and to all (R431). -/
  demand  : Nat := 0
  demandAll : Bool := true
  /-- The demand to all is the initial one of R432; the toggle bit of the latest word (R431). -/
  initial : Bool := true
  toggle  : Bool := false
  deriving DecidableEq, Repr, Inhabited
/-! ### Breach collector, ledger, change log, key sequence, management engine -/

/-- The injection that GO armed (R470): source, word address and check bits. -/
structure Injection where
  src  : Nat := 0
  word : Nat := 0
  mask : Nat := 0
  deriving DecidableEq, Repr, Inhabited

/-- The breach collector beside its registers (chapter 14). -/
structure Breach where
  /-- The collector evaluates its pins (R456). -/
  on    : Bool := true
  /-- State sources whose condition stands (R629), as a bit set; BRCH_PIN shows it while the collector evaluates. -/
  cond  : Nat := 0
  /-- Island clocks that fail their monitor (source 30): bits 0 to 7 polders, 8 hub, 9 management. -/
  clk   : Nat := 0
  /-- Rails outside their window (sources 32 and 33): bits in the order of PWR_STATUS.WARN: VCORE, VSER,
  VANA, VIO, VOPT, VRET. -/
  rails : Nat := 0
  /-- An ECC error on another word of the memory under injection has been seen (R472). -/
  unsol : Bool := false
  /-- The injection armed last (R470): a write of the registers while it stands does not change it. -/
  arm   : Injection := {}
  deriving DecidableEq, Repr, Inhabited

/-- The ledger beside its registers (chapter 18). -/
structure Ledger where
  /-- The 2 MiB MRAM by byte (R556). -/
  mram    : Table Byte := []
  /-- Accumulators in SRAM since the latest commit: MRAM offset and size of the count, packed as 16·offset + size. -/
  acc     : Table Nat := []
  /-- LED drive charge by lane since the latest commit, and the committed remainder, in 0.25 mA·s (R557). -/
  charge  : Table Nat := []
  chargeR : Table Nat := []
  /-- Number of history entries written. -/
  histK   : Nat := 0
  /-- Next word of a running scrub; powered seconds of the latest completed scrub. -/
  scrub   : Option Nat := none
  scrubAt : Nat := 0
  /-- By lane: the interval means of the week, and ION at each of them; whether the lane has ever been bound; whether it
  has a BASE. -/
  means   : Table (List Nat) := []
  ions    : Table (List Nat) := []
  bound   : Table Bool := []
  base    : Table Bool := []
  /-- By lane: the values of LDG_LVIEW at the latest evaluation: M, slope, H. -/
  view    : Table (Nat × Nat × Nat) := []
  deriving DecidableEq, Repr, Inhabited

/-- The PCI Express endpoint (R282 to R284). -/
structure Pcie where
  up     : Bool := false
  /-- MSI-X: function mask, vector masks, pending bits. -/
  fnMask : Bool := false
  mask   : Nat := 0xFFFFFFFF
  pba    : Nat := 0
  /-- By class of R25: the race after the one that the host DMA engine served last (R26). -/
  served : Table Nat := []
  /-- MSI-X table: address and data words of each vector, by word index. -/
  tbl    : Table Nat := []
  deriving DecidableEq, Repr, Inhabited

/-! ### Terp island: dike processor, isolation channel, berm, safety function -/

/-- A timer of the dike processor (R372); the base is in µs. -/
structure Timer where
  pt    : Nat := 0
  base  : Nat := 1000
  start : Nat := 0
  run   : Bool := false
  q     : Bool := false
  inp   : Bool := false
  deriving DecidableEq, Repr, Inhabited

/-- A counter of the dike processor (R373). -/
structure Counter where
  value  : Nat := 0
  preset : Nat := 0
  inp    : Bool := false
  deriving DecidableEq, Repr, Inhabited

/-- A force (R386): entry of the force table, area, address, type, value. -/
structure Force where
  entry : Nat
  area  : Nat
  addr  : Nat
  ty    : Nat
  val   : Nat
  deriving DecidableEq, Repr, Inhabited

/-- A program bank with its symbol table (R374, R382). -/
structure Bank where
  code : Table Word := []
  plen : Nat := 0
  crc  : Nat := 0
  syms : List Nat := []
  deriving DecidableEq, Repr, Inhabited

/-- The dike processor beside its registers (chapter 11). -/
structure Dike where
  a       : Bool := false
  x       : Word := 0
  pc      : Nat := 0
  stack   : List (Bool × Bool) := []
  bank0   : Bank := {}
  bank1   : Bank := {}
  /-- Symbol table under construction through the window. -/
  symWin  : Table Nat := []
  iw      : Table Nat := []
  qw      : Table Nat := []
  qwOut   : Table Nat := []
  marks   : Table Bool := []
  edges   : Table Bool := []
  timers  : Table Timer := []
  counts  : Table Counter := []
  words   : Table Nat := []
  /-- QW0 to QW31 as published in the latest output phase (R398). -/
  shown   : Table Nat := []
  /-- Instant of the latest stop in ns: the timers stand still from then on (R378). -/
  heldAt  : Nat := 0
  /-- From the image: initial words, timers and counters. -/
  words0  : Table Nat := []
  timers0 : Table Timer := []
  counts0 : Table Counter := []
  forces  : List Force := []
  /-- A force write that waits for its phase (R390): the force, and whether it is set or released. -/
  forceW  : Option (Force × Bool) := none
  fclr    : Bool := false
  /-- The program phase runs; cycles used in it. -/
  running : Bool := false
  cycles  : Nat := 0
  /-- Number of the dike cycle that starts next (R358); the first one is cycle 0. -/
  next    : Nat := 0
  /-- Flags of the next input phase (IW7). -/
  first   : Bool := false
  warm    : Bool := false
  online  : Bool := false
  /-- A restart of R379 waits for the next cycle start. -/
  restart : Bool := false
  rseq    : Nat := 0
  /-- The scrub of R381 has found a double-bit error: the next start is cold. -/
  cold    : Bool := false
  result  : Nat := 0
  /-- Contexts with a CONTRADICTED or SILENT outcome since the previous input phase (R363). -/
  failed  : Table Bool := []
  /-- The output phase of the current cycle began after a swap was accepted before its program phase (R384). -/
  swapArmed : Bool := false
  /-- The program of the image, for DIKE_STATUS.ONLINE (R384, R392). -/
  image   : Bank := {}
  deriving DecidableEq, Repr, Inhabited

/-- A frame from the terp island to the berm (R399). -/
structure ToBerm where
  seq     : Nat
  outs    : Nat
  /-- Release requests: silence latch, fault latches, safety outputs after a dropout, dropout latch. -/
  relSil  : Bool
  relFault : Bool
  relDrop : Bool
  frel    : Bool
  deriving DecidableEq, Repr, Inhabited

/-- A frame from the berm to the terp island: the words IW0 to IW5 and the berm's reports. -/
structure ToTerp where
  seq     : Nat
  iw0     : Nat
  iw1     : Nat
  iw2     : Nat
  iw3     : Nat
  iw4     : Nat
  iw5     : Nat
  /-- Debounced ON states of the inputs, for the edge reset (R435). -/
  debs    : Nat
  selfOk  : Bool
  deriving DecidableEq, Repr, Inhabited

/-- A field input in the berm (R402 to R407): raw and debounced states are 0 BREAK, 1 OFF, 2 ON. -/
structure FieldIn where
  raw    : Nat := 1
  deb    : Nat := 1
  /-- The latest sample lies in a gap. -/
  gap    : Bool := false
  /-- Samples in succession, of 1 µs each, in which the raw state has held, and that have lain in one band (R403). -/
  held   : Nat := 0
  clear  : Nat := 0
  /-- Samples for which the raw state still holds after a pulse (R406). -/
  hold   : Nat := 0
  /-- Faults that stand: INVALID, the source of a cross short, CROSS_FEED. -/
  invalid : Bool := false
  cross  : Option Nat := none
  feed   : Bool := false
  /-- Sample before the current pulse; an ON sample, and one of 0.6 mA or more, in the last 20 µs of the pulse. -/
  before : Nat := 0
  sawOn  : Bool := false
  sawHigh : Bool := false
  /-- The input has passed every check of the current test period; periods passed in succession. -/
  okSoFar : Bool := true
  clean  : Nat := 0
  deriving DecidableEq, Repr, Inhabited

/-- A field output in the berm (R408 to R416). -/
structure FieldOut where
  /-- Output state of the latest frame that was applied. -/
  demand : Bool := false
  on     : Bool := false
  /-- Latched off by a safety fault (R412), or by an overload until its demand goes OFF (R408). -/
  latched : Bool := false
  overload : Bool := false
  inrush : Bool := false
  /-- The pin read 12 V or more in the latest sample; such samples, and samples below 5 V, in succession. -/
  pinHigh : Bool := false
  highRun : Nat := 0
  lowRun : Nat := 0
  /-- Samples with IOUT ≥ LMIN and with less, in succession. -/
  litRun : Nat := 0
  dimRun : Nat := 0
  /-- Samples still to be passed over: after a switch-off (R409), and for the lamp proof (R415). -/
  skipOff : Nat := 0
  skipLamp : Nat := 0
  /-- A dark test runs (R410). -/
  testing : Bool := false
  /-- A correlation sequence (R411): outputs still to be pulsed, outputs that pulled the pin down. -/
  correl : Option (List Nat × List Nat) := none
  /-- Instant since which the output's safety fault has been absent. -/
  okSince : Option Nat := none
  /-- The lamp is unproven at its deadline (R424). -/
  late   : Bool := false
  /-- The latched failure of the lamp has been cleared, and the lamp has not been commanded since (R415). -/
  await  : Bool := false
  deriving DecidableEq, Repr, Inhabited

/-- The berm, its isolation channel and the terp island's side of it (chapter 12). -/
structure Berm where
  /-- The berm has its supply and runs (R417). -/
  powered : Bool := false
  ins     : Table FieldIn := []
  outs    : Table FieldOut := []
  /-- Frames under way on the isolation channel. -/
  toBerm  : Option ToBerm := none
  toTerp  : Option ToTerp := none
  /-- Sequence numbers: latest valid ones seen by the berm and by the terp island, and those sent last. -/
  bermSeq : Option Nat := none
  terpSeq : Option Nat := none
  txSeq   : Nat := 0
  rxSeq   : Nat := 0
  /-- The berm acts on silence (R400); valid frames in succession since. -/
  silent  : Bool := false
  goodRun : Nat := 0
  selfOk  : Bool := true
  /-- Terp island: a valid frame has been received since its reset release; the silence of R401 stands. -/
  everRx  : Bool := false
  terpSilent : Bool := false
  /-- Words IW0 to IW5 of the latest valid frame, and its debounced ON states. -/
  image   : List Nat := [0, 0, 0, 0, 0, 0]
  debs    : Nat := 0
  /-- Output states sent last (R378, R400). -/
  lastOuts : Nat := 0
  /-- The isolation channel master has been stopped by the warden (R378). -/
  masterOff : Bool := false
  /-- Test-pulse source that is driven low (R406). -/
  pulse   : Option Nat := none
  /-- A monitored rail has fallen below 19.2 V, or risen above 30.0 V, and the state has not been left (R417). -/
  sag     : Bool := false
  ovf     : Bool := false
  /-- By rail: samples in succession below 15.0 V, up to 22 (R417), and at 19.2 V or more, up to 2,000, which are
  100 ms (R420). -/
  under   : Table Nat := []
  good    : Table Nat := []
  /-- Safety outputs stay off after a dropout until an edge reset (R420). -/
  dropHeld : Bool := true
  /-- QW1[7] in the latest output phase. -/
  frelWas : Bool := false
  /-- Lit phase of flashing lamps (R424). -/
  flash   : Bool := true
  /-- A dropout has been counted (R419). -/
  counted : Bool := false
  deriving DecidableEq, Repr, Inhabited

/-- A copy of a twin telegram (R442) that waits for its pair. -/
structure Copy where
  port : Nat
  tseq : Nat
  /-- Bytes 0 and 2 to 41. -/
  body : List Byte
  deriving DecidableEq, Repr, Inhabited

/-- The safety function beside its registers (chapter 13). -/
structure Safety where
  /-- ALL stands since a reset or a LOAD, until the first output phase (R432). -/
  initAll : Bool := true
  /-- By polder: the toggle bit of the safe-demand word sent latest (R431). -/
  toggle  : Table Bool := []
  /-- Edge reset (R435): start of the press, fault or QUESTIONABLE during it, OFF seen before it. -/
  press   : Option Nat := none
  pressBad : Bool := false
  sawOff  : Bool := false
  /-- Release requests that wait for the next frame to the berm. -/
  relSil  : Bool := false
  relFault : Bool := false
  relDrop : Bool := false
  frel    : Bool := false
  /-- Commands of the contactor channels as seen last (R440). -/
  conCmd  : Table Bool := []
  /-- Twin ports (R444 to R448): open copy; TSEQ + 1 delivered latest by each port; a telegram has been accepted, and its TSEQ. -/
  copy    : Option Copy := none
  portSeq : Table Nat := []
  seqOk   : Bool := false
  lastSeq : Nat := 0
  /-- Accepted run permit, DATA, instant of the latest acceptance, of each port's latest valid copy; TSTATE. -/
  runp    : Bool := false
  data    : List Byte := []
  acceptAt : Option Nat := none
  freshAt : Table Nat := []
  tstate  : Nat := 0
  deriving DecidableEq, Repr, Inhabited

/-! ### Management: change log, password, image, start-up -/

/-- A change log entry before it has its index (R524): powered seconds, type, life-cycle state, SAF_SCRC, ARGS. -/
structure LogEntry where
  time : Nat
  ty   : Nat
  lcs  : Nat
  scrc : Nat
  args : List Byte
  deriving DecidableEq, Repr, Inhabited

/-- What a warm restart keeps of a context (R185): values of its retained registers by field key, and of its lane. -/
structure WarmCell where
  member  : Bool := false
  regs    : List (Nat × Nat) := []
  tcrx    : Nat := 0
  lane    : Option Nat := none
  rtt     : Int := 0
  dout    : Int := 0
  deriving DecidableEq, Repr, Inhabited

/-- The retention area (R543), as the latest reset or entry into LOAD left it. -/
structure Retained where
  /-- Watermark of the latest passed LOAD; the flag WVALID. -/
  mark   : List Byte := []
  wvalid : Bool := false
  cells  : Table WarmCell := []
  marks  : Table Bool := []
  words  : Table Nat := []
  counts : Table Counter := []
  edges  : Table Bool := []
  deriving DecidableEq, Repr, Inhabited

/-- An image write beside its registers (R519, R520). -/
structure ImageWrite where
  slot : Nat := 0
  /-- Bytes that wait for their page program; pages programmed. -/
  buf  : List Byte := []
  page : Nat := 0
  deriving DecidableEq, Repr, Inhabited

/-- The QSPI flash, the change log and the management engine (R24, R502 to R527). -/
structure Mgmt where
  /-- The management engine has stopped (R24). -/
  stopped : Bool := false
  /-- Pages of 256 bytes of the flash by page number; a page that is not listed is erased. -/
  flash   : Table (List Byte) := []
  /-- The staging area (R526). -/
  staged  : List LogEntry := []
  /-- Number of entries written, and digest of the latest one: the anchor (R527). -/
  logN    : Nat := 0
  digest  : List Byte := []
  /-- Salt and derived key in use (R517). -/
  pwd     : Option (List Byte × List Byte) := none
  /-- Words of WMK_PWD; the candidate under computation; the path of its CHECK write: 1 for SPI (R516, R622). -/
  cand    : Table Nat := []
  checking : Option (List Byte) := none
  chkPath : Nat := 0
  /-- FAILS and the seconds of lockout that remain, in the ledger MRAM (R518). -/
  fails   : Nat := 0
  lock    : Nat := 0
  /-- Life-cycle state in the fuses; the state that an accepted advance is blowing (R514, R515). -/
  fuse    : Nat := 1
  blowing : Option Nat := none
  /-- Directory copy in force (R505). -/
  dirCopy : Nat := 0
  write   : ImageWrite := {}
  /-- Life-cycle mask of the loaded image (R515). -/
  lcsMask : Nat := 0
  retained : Retained := {}
  /-- The contexts and the dike memory hold what the retention area is to keep: a LOAD has passed since the reset. -/
  live    : Bool := false
  /-- Instant at which the latest LOAD began (R553). -/
  loadAt  : Nat := 0
  deriving DecidableEq, Repr, Inhabited

/-- What a FIC instruction waits for (R538, R540). -/
inductive FicWait where
  | none
  /-- POLL of a register offset: mask register va and value vb. -/
  | poll (off : Nat) (mask value : Word)
  | delay
  /-- Deckle boundaries still to come. -/
  | deck (n : Nat)
  /-- First test and number of tests of the request. -/
  | test (first count : Nat)
  deriving DecidableEq, Repr, Inhabited

/-- The FIC interpreter (R537, R538): program 0 none, 1 start-up, 2 test. -/
structure Fic where
  prog  : Nat := 0
  regs  : Table Word := []
  f     : Bool := false
  pc    : Nat := 0
  wait  : FicWait := .none
  /-- Words of the start-up and test programs, and their time limits in ms. -/
  start : List Word := []
  test  : List Word := []
  slim  : Nat := 0
  tlim  : Nat := 0
  /-- Instant of the entry into RAISE, for RAISET. -/
  since : Nat := 0
  deriving DecidableEq, Repr, Inhabited

/-- The SERVICE key sequence beside GLB_KEY_STAT (R622 to R626). -/
structure Key where
  /-- Path that the MATCH came on: 0 PCIe, 1 SPI, 2 FIC, which no key write can match. -/
  owner : Nat := 0
  /-- Instant of the latest accepted keyed write, for IDLE. -/
  since : Nat := 0
  deriving DecidableEq, Repr, Inhabited


/-! ### Races, vat, SPI, power -/

/-- A descriptor that the device holds (R288), by its count; `status` is set once its transfer has ended (R289). -/
structure Desc where
  k      : Nat := 0
  addr   : Nat := 0
  len    : Nat := 0
  op     : Nat := 0
  chain  : Bool := false
  irq    : Bool := false
  first  : Bool := false
  last   : Bool := false
  tgt    : Nat := 0xFFFF
  arg    : Nat := 0
  /-- Data bytes of an H2D buffer, or written so far into a D2H buffer. -/
  data   : List Byte := []
  dlen   : Nat := 0
  /-- BULK_OUT: bytes that have been cut into packets, and of those the ones that the cell's CACK covers (R298). -/
  cut    : Nat := 0
  acked  : Nat := 0
  /-- Records in a TELEM or PROOF buffer. -/
  recs   : Nat := 0
  status : Option Nat := none
  deriving DecidableEq, Repr, Inhabited

/-- A race beside its registers (R286 to R309). -/
structure Race where
  /-- Descriptors fetched and not yet written back, oldest first. -/
  descs  : List Desc := []
  /-- Base address and log2 of the size as read at the latest enable or re-arm (R309). -/
  base   : Nat := 0
  size   : Nat := 4
  /-- Completions since the previous raise of the race event. -/
  unsig  : Nat := 0
  /-- MGMT: context of the request outstanding (R304). -/
  asked  : Option Nat := none
  /-- A STOP waits for the transfer to end (R308). -/
  stopping : Bool := false
  deriving DecidableEq, Repr, Inhabited

/-- The vat beside its registers (R305, R306). -/
structure Vat where
  mem    : Table Byte := []
  /-- Lengths of the records held, oldest first; offset of the next record. -/
  lens   : List Nat := []
  next   : Nat := 0
  /-- A trigger has become visible, and its record has not yet been written. -/
  trig   : Bool := false
  /-- Records written after the trigger record, and bytes from it on. -/
  after  : Nat := 0
  since  : Nat := 0
  /-- Bytes drained. -/
  drained : Nat := 0
  /-- Doorbells of the BULK_OUT races, oldest first: race and TAIL (R299). -/
  bells  : List (Nat × Nat) := []
  deriving DecidableEq, Repr, Inhabited

/-- A repair element (R491): kind, unit, element. -/
structure Repair where
  kind : Nat
  unit : Nat
  elem : Nat
  deriving DecidableEq, Repr, Inhabited

/-- The BIST sequencer beside its registers (chapter 15). -/
structure Bist where
  /-- Queued tests in request order; running tests; ended tests whose reinitialisation is not complete. -/
  queue  : List Nat := []
  run    : List Nat := []
  reinit : List Nat := []
  /-- Instant at which a polder last entered BIST. -/
  entered : Option Nat := none
  /-- Roles that the lanes under test go back to. -/
  roles  : List (Nat × Nat) := []
  /-- Lane in the rolling check; elements and spares that failed the latest check of their lane. -/
  roll   : Option Nat := none
  bad    : List Repair := []
  /-- Soft and fuse repairs. -/
  soft   : List Repair := []
  fused  : List Repair := []
  deriving DecidableEq, Repr, Inhabited

/-- The SPI slave's status of the previous write frame (R310). -/
structure Spi where
  wcrc : Bool := false
  wkey : Bool := false
  deriving DecidableEq, Repr, Inhabited

/-- Supplies, clocks and reset (chapter 19). -/
structure Power where
  /-- Sources that hold the core die in reset (R581): 0 power-on, 1 supply, 2 thermal, 3 RESET_N; bit 4 keeps the reset
  until the millisecond of R582 has passed after the thermal source has released. -/
  held   : Nat := 0
  /-- Sources that have acted in the current reset (R582). -/
  acted  : Nat := 0
  /-- VRET has stayed at or above its retention minimum since the previous reset release (R576). -/
  retOk  : Bool := true
  deriving DecidableEq, Repr, Inhabited
/-- The device: registers, hidden state of its blocks, what it has sent.  `now` is the tideline in 2^-16 ns (R57);
`up` counts the nanoseconds of the device's own clocks since its reset, which no step of the tideline moves (R87);
`free` counts the free values drawn so far (the model's own field); `shadow` holds the upper words of R9. -/
structure Dev where
  regs    : Table Nat := []
  shadow  : Table Nat := []
  now     : Nat := 0
  up      : Nat := 0
  free    : Nat := 0
  out     : List Out := []
  mode    : ModeCtl := {}
  tide    : Tide := {}
  lanes   : Table Lane := []
  cells   : Table Cell := []
  survey  : Survey := {}
  slu     : Sluice := {}
  couch   : Couch := {}
  polders : Table Polder := []
  brch    : Breach := {}
  ldg     : Ledger := {}
  pcie    : Pcie := {}
  dike    : Dike := {}
  berm    : Berm := {}
  saf     : Safety := {}
  mgmt    : Mgmt := {}
  fic     : Fic := {}
  key     : Key := {}
  races   : Table Race := []
  vat     : Vat := {}
  spi     : Spi := {}
  bist    : Bist := {}
  pwr     : Power := {}
  deriving DecidableEq, Repr

/-- The machine: the device and the commands that wait, first in first out. -/
structure State where
  dev     : Dev := {}
  pending : List Instr := []
  deriving DecidableEq, Repr

/-- No command of this block faults: every command has an effect, or leaves the device as it is, by a rule of the
spec.  The type has no constructor, so no meaning can answer with a fault. -/
inductive Fault where
  deriving DecidableEq, Repr

/-- Why a command is refused. -/
inductive Refusal where
  /-- The command has no meaning in this model yet.  Raised by an arm of `exec` alone; safe, since a refused command
  changes nothing and nothing is claimed of it. -/
  | notModelled (mnemonic : String)
  deriving DecidableEq, Repr

/-- The machine right after reset: every field at the value that the spec states for reset, or that the assumption
log names; nothing sent, nothing waiting. -/
def State.reset : State := {}

end Sys2Proof.Machine
end

