-- ==== Sys2Proof/Machine/Ops.lean ====
section
/-! DEFINITION. The shared operations of the block: reading and writing register fields, the events (R566 to R568), the
ledger's history (R559) and the breach collector (R459 to R465). -/

namespace Sys2Proof.Machine

open Reg

namespace Dev

/-! ### Register fields -/

/-- The value of a register field. -/
def get (d : Dev) (f : Fld) : Nat := Table.get 0 d.regs f.key ^^^ f.rst

/-- A register field takes a value, cut to its width. -/
def put (d : Dev) (f : Fld) (v : Nat) : Dev :=
  { d with regs := Table.put 0 d.regs f.key ((v % 2 ^ f.w) ^^^ f.rst) }

/-- A field as a flag. -/
def flag (d : Dev) (f : Fld) : Bool := d.get f != 0

def set (d : Dev) (f : Fld) : Dev := d.put f 1

def clr (d : Dev) (f : Fld) : Dev := d.put f 0

def putB (d : Dev) (f : Fld) (b : Bool) : Dev := d.put f b.toNat

/-- A counter that saturates at its largest value rises by `n`. -/
def add (d : Dev) (f : Fld) (n : Nat) : Dev := d.put f (min (d.get f + n) (2 ^ f.w - 1))

def inc (d : Dev) (f : Fld) : Dev := d.add f 1

/-- A field that records the largest value. -/
def peak (d : Dev) (f : Fld) (v : Nat) : Dev := if d.get f < v then d.put f (min v (2 ^ f.w - 1)) else d

/-- The field returns to its reset value. -/
def clear (d : Dev) (f : Fld) : Dev := d.put f f.rst

/-- A bit of a field. -/
def bit (d : Dev) (f : Fld) (i : Nat) : Bool := (d.get f).testBit i

def putBit (d : Dev) (f : Fld) (i : Nat) (b : Bool) : Dev :=
  let v := d.get f
  d.put f (if b then v ||| 2 ^ i else if v.testBit i then v - 2 ^ i else v)

/-- A quantity in two registers, low word first (R9). -/
def get2 (d : Dev) (lo hi : Fld) : Nat := d.get lo + 2 ^ 32 * d.get hi

def put2 (d : Dev) (lo hi : Fld) (v : Nat) : Dev := (d.put lo v).put hi (v / 2 ^ 32)

/-! ### Records by instance -/

def lane (d : Dev) (L : Nat) : Lane := Table.get {} d.lanes L
def setLane (d : Dev) (L : Nat) (x : Lane) : Dev := { d with lanes := Table.put {} d.lanes L x }
def onLane (d : Dev) (L : Nat) (f : Lane → Lane) : Dev := d.setLane L (f (d.lane L))

def cell (d : Dev) (c : Nat) : Cell := Table.get {} d.cells c
def setCell (d : Dev) (c : Nat) (x : Cell) : Dev := { d with cells := Table.put {} d.cells c x }
def onCell (d : Dev) (c : Nat) (f : Cell → Cell) : Dev := d.setCell c (f (d.cell c))

def polder (d : Dev) (p : Nat) : Polder := Table.get {} d.polders p
def setPolder (d : Dev) (p : Nat) (x : Polder) : Dev := { d with polders := Table.put {} d.polders p x }
def onPolder (d : Dev) (p : Nat) (f : Polder → Polder) : Dev := d.setPolder p (f (d.polder p))

def sluLane (d : Dev) (k : Nat) : SluLane := Table.get {} d.slu.lanes k
def setSluLane (d : Dev) (k : Nat) (x : SluLane) : Dev :=
  { d with slu := { d.slu with lanes := Table.put {} d.slu.lanes k x } }
def onSluLane (d : Dev) (k : Nat) (f : SluLane → SluLane) : Dev := d.setSluLane k (f (d.sluLane k))

def source (d : Dev) (k : Nat) : Source := Table.get {} d.slu.sources k
def setSource (d : Dev) (k : Nat) (x : Source) : Dev :=
  { d with slu := { d.slu with sources := Table.put {} d.slu.sources k x } }
def onSource (d : Dev) (k : Nat) (f : Source → Source) : Dev := d.setSource k (f (d.source k))

def onMode (d : Dev) (f : ModeCtl → ModeCtl) : Dev := { d with mode := f d.mode }
def onTide (d : Dev) (f : Tide → Tide) : Dev := { d with tide := f d.tide }
def onSurvey (d : Dev) (f : Survey → Survey) : Dev := { d with survey := f d.survey }
def onSlu (d : Dev) (f : Sluice → Sluice) : Dev := { d with slu := f d.slu }
def onCouch (d : Dev) (f : Couch → Couch) : Dev := { d with couch := f d.couch }
def onBrch (d : Dev) (f : Breach → Breach) : Dev := { d with brch := f d.brch }
def onLdg (d : Dev) (f : Ledger → Ledger) : Dev := { d with ldg := f d.ldg }
def onPcie (d : Dev) (f : Pcie → Pcie) : Dev := { d with pcie := f d.pcie }

/-- An operation for every instance of a list, in order. -/
def each {α : Type} (xs : List α) (f : α → Dev → Dev) (d : Dev) : Dev := xs.foldl (fun d x => f x d) d

/-- An operation made only when a condition holds. -/
def when (b : Bool) (f : Dev → Dev) (d : Dev) : Dev := if b then f d else d

/-- The pins that would send something are off: the LED drivers, or the serialisers (R575). -/
def muted (d : Dev) (o : Out) : Bool :=
  match o with
  | .lane _ _ => d.flag PWR_STATUS_OPTOFF
  | .inside _ _ _ => d.flag PWR_STATUS_OPTOFF
  | .mark _ _ _ => d.flag PWR_STATUS_OPTOFF
  | .sluice _ _ => d.flag PWR_STATUS_SEROFF
  | _ => false

/-- The device sends something to a partner. -/
def send (d : Dev) (o : Out) : Dev := if d.muted o then d else { d with out := d.out ++ [o] }

/-- A value that the spec leaves open, and the device that has drawn it. -/
def draw (d : Dev) : Word × Dev := (Config.freeWord d.free, { d with free := d.free + 1 })

/-! ### Events (R565 to R568) -/

/-- The message of a vector: sent, or kept pending while the vector or the function is masked (R567). -/
def message (d : Dev) (v : Nat) : Dev :=
  if d.pcie.fnMask || d.pcie.mask.testBit v then d.onPcie fun p => { p with pba := p.pba ||| 2 ^ v }
  else d.send (.msix v)

/-- A trigger of the vat (R305): the first one while it is ARMED counts. -/
def vatTrigger (d : Dev) : Dev :=
  if d.get RACE_VAT_STAT_STATE = 1 then { (d.put RACE_VAT_STAT_STATE 2) with vat := { d.vat with trig := true, after := 0, since := 0 } }
  else d

/-- An event source is raised: its pending bit is set and, when the bit rises with EN = 1, its message is sent; the
event EVT triggers the vat (R305). -/
def event (d : Dev) (e : Nat) : Dev :=
  let d := if d.flag RACE_VAT_CTRL_EVTEN && d.get RACE_VAT_CTRL_EVT == e then d.vatTrigger else d
  if d.flag (EVT_PEND e) then d
  else if d.flag (EVT_EN e) then (d.set (EVT_PEND e)).message (d.get (EVT_MAP e))
  else d.set (EVT_PEND e)

/-! ### Modes, as the other blocks read them -/

def mode' (d : Dev) : Nat := d.get GLB_MODE_MODE

/-- The mode whose lanes, sheets and outputs the device shows: in SERVICE, the base (R41). -/
def effMode (d : Dev) : Nat := if d.get GLB_MODE_MODE = 0xB then d.get GLB_MODE_BASE else d.get GLB_MODE_MODE

/-- The mode that a COUCH or HOLD goes back to, also while SERVICE overlays it (R48). -/
def heldBase (d : Dev) : Nat := if d.get GLB_MODE_MODE = 0xB then d.mode.holdBase else d.get GLB_MODE_BASE

/-- The run model of R228. -/
def runModel (d : Dev) : Nat :=
  let cfg := d.get GLB_MODE_CFG_RUN_MODEL
  let ofBase (b : Nat) : Nat := if b = 4 ∨ b = 5 then b else cfg
  match d.get GLB_MODE_MODE with
  | 4 => 4
  | 5 => 5
  | 6 => ofBase (d.get GLB_MODE_BASE)
  | 7 => ofBase (d.get GLB_MODE_BASE)
  | 0xB => if d.get GLB_MODE_BASE = 7 then ofBase d.mode.holdBase else ofBase (d.get GLB_MODE_BASE)
  | _ => cfg

/-! ### Ledger history (R559) -/

/-- Little-endian bytes of a number (R3). -/
def le : Nat → Nat → List Byte
  | 0, _ => []
  | n + 1, v => BitVec.ofNat 8 v :: le n (v / 256)

/-- The number that little-endian bytes spell (R3). -/
def nat : List Byte → Nat
  | [] => 0
  | b :: bs => b.toNat + 256 * nat bs

/-- Bytes stored in a byte memory from an address on. -/
def poke (m : Table Byte) (a : Nat) : List Byte → Table Byte
  | [] => m
  | b :: bs => poke (Table.put 0 m a b) (a + 1) bs

/-- `n` bytes of a byte memory from an address on. -/
def peekB (m : Table Byte) (a : Nat) : Nat → List Byte
  | 0 => []
  | n + 1 => Table.get 0 m a :: peekB m (a + 1) n

/-- Powered seconds: the committed count and the ticks since (R555). -/
def powered (d : Dev) : Nat := nat (peekB d.ldg.mram 0 8) + Table.get 0 d.ldg.acc (16 * 0 + 8)

/-- A history entry is written to MRAM before the action that it records takes effect (R555, R559). -/
def history (d : Dev) (ty : Nat) (args : List Nat) : Dev :=
  let k := d.ldg.histK
  let bytes := le 4 d.powered ++ [BitVec.ofNat 8 ty] ++ le 3 k ++
    ((args ++ List.replicate 8 0).take 8).map (BitVec.ofNat 8)
  d.onLdg fun l => { l with mram := poke l.mram (0x8800 + 16 * (k % 1024)) bytes, histK := k + 1 }

/-- A ledger count of `size` bytes at an MRAM offset rises in SRAM until the next commit (R555). -/
def count (d : Dev) (off size n : Nat) : Dev :=
  d.onLdg fun l => { l with acc := Table.put 0 l.acc (16 * off + size) (Table.get 0 l.acc (16 * off + size) + n) }

/-! ### The breach collector (R459 to R465) -/

/-- L(s). -/
def level (d : Dev) (s : Nat) : Nat := d.get (BRCH_LEVEL s)

/-- The standing level S: the highest E(s) of the sticky sources with L(s) of 1 or more (R461). -/
def standing (d : Dev) : Nat :=
  (List.range 64).foldl
    (fun m s => if d.flag (BRCH_STICKY s) && decide (1 ≤ d.level s) then max m (d.get (BRCH_EFF s)) else m) 0

/-- The sources that are sticky and unacknowledged with a level of 2 or more. -/
def openFaults (d : Dev) : List Nat :=
  (List.range 64).filter fun r => d.flag (BRCH_STICKY r) && d.flag (BRCH_UNACK r) && decide (2 ≤ d.level r)

/-- Polder p is in BIST. -/
def inBist (d : Dev) (p : Nat) : Bool := d.bit BIST_STATUS_POLDERS p

/-- The collector ignores the pin of a source while its polder is in BIST (R458). -/
def pinIgnored (d : Dev) (s : Nat) : Bool := decide (s < 24) && d.inBist (s % 8)

/-- E(s) of a source raised now, against the faults that were open before the cycle (R460). -/
def effOnRaise (d : Dev) (s : Nat) : Nat :=
  let others := (d.openFaults).filter (· ≠ s)
  if 2 ≤ d.level s ∧ others ≠ [] then min 4 (1 + others.foldl (fun m r => max m (d.get (BRCH_EFF r))) 0)
  else d.level s

/-- Sources whose DCODE the spec states (R477): the checkers of R469 by their syndrome, and the blocks whose own status
register has a cause code (PLD_FAULT, SLU_LINK, RACE_STAT, DIKE_STATUS, WMK_STATUS, COUCH_STATUS, CAB_STATUS).  For every
other source the code is a free value. -/
def codeStated (s : Nat) : Bool :=
  decide (s < 16) || [24, 25, 26, 27, 34, 35, 36, 44, 45, 47, 48, 51, 52].contains s

/-- The marks of one raised source (R459); `eff` is its effective level, `addr` and `code` its block's detail. -/
def markRaised (s eff addr code : Nat) (d : Dev) : Dev :=
  -- R558: raises of the sources of a polder
  let d := if s < 24 then d.count (0x2000 + 1024 * (s % 8) + 38 + 2 * (s / 8)) 2 1 else d
  let (c, d) := if codeStated s then (code, d) else (d.draw.1.toNat, d.draw.2)
  let d := (((d.set (BRCH_STICKY s)).inc (BRCH_DET_COUNT s)).put (BRCH_DET_ADDR s) addr).put (BRCH_DCODE_CODE s) c
  let d := d.put BRCH_STATUS_LAST s
  let d := if 1 ≤ d.level s then d.set (BRCH_UNACK s) else d
  let d := d.put (BRCH_EFF s) eff
  if d.level s = 1 then d.event 168 else d

/-- After any change of sticky bits or effective levels: S, PEAK, FIRST and their events; a rise to 2 or more is passed
to the mode controller (R461, R468) and a rise to 3 or 4 goes into the ledger's history (R466). -/
def settleLevel (old : Nat) (first : Option Nat) (d : Dev) : Dev :=
  let new := d.standing
  let d := (d.put BRCH_STATUS_LEVEL new).peak BRCH_STATUS_PEAK new
  -- R305: the level LVL triggers the vat
  let d := if old < d.get RACE_VAT_CTRL_LVL ∧ d.get RACE_VAT_CTRL_LVL ≤ new then d.vatTrigger else d
  let d := if new = 0 then d.put BRCH_STATUS_FIRST 0xFF
    else match first with
      | some s => if old = 0 then d.put BRCH_STATUS_FIRST s else d
      | none => d
  if old < new ∧ 2 ≤ new then
    let d := d.event (167 + new)
    let d := if 3 ≤ new then d.history 1 [new, d.get BRCH_STATUS_LAST] else d
    d.onMode fun m => { m with due := max m.due new, imposed := if old < 2 then 0 else m.imposed }
  else if new < old then d.event 174 else d

/-- The grace timer starts or stops with the unacknowledged sources of level 2 or more (R462, event 172). -/
def settleGrace (d : Dev) : Dev :=
  if d.openFaults = [] then d.clr BRCH_STATUS_GRACE
  else if d.flag BRCH_STATUS_GRACE then d
  else (d.set BRCH_STATUS_GRACE).event 172

/-- Several sources are raised in one hub cycle: source, word address and code of each (R459, R460). -/
def raiseAll (ss : List (Nat × Nat × Nat)) (d : Dev) : Dev :=
  let ss := ss.filter fun x => d.brch.on && decide (x.1 < 64) && !d.pinIgnored x.1
  if ss = [] then d else
  let old := d.standing
  let effs := ss.map fun x => (x, d.effOnRaise x.1)
  let d := each effs (fun x d => markRaised x.1.1 x.2 x.1.2.1 x.1.2.2 d) d
  (settleLevel old (ss.head?.map (·.1)) d).settleGrace

/-- An event source is raised (R629), with the code that its block reports. -/
def breach (s : Nat) (code : Nat) (d : Dev) : Dev := raiseAll [(s, 0, code)] d

/-- The pin of a state source follows its condition (R629). -/
def condPin (s : Nat) (stands : Bool) (d : Dev) : Dev :=
  if stands = d.brch.cond.testBit s then d
  else if stands then
    let d := d.onBrch fun b => { b with cond := b.cond ||| 2 ^ s }
    if d.brch.on && !d.pinIgnored s then d.set (BRCH_PIN s) else d
  else (d.onBrch fun b => { b with cond := b.cond - 2 ^ s }).clr (BRCH_PIN s)

/-- Conditions of state sources, with their codes, begin or end in one hub cycle (R629): those that begin raise their
sources, and none of these is a second fault to another (R460). -/
def breachConds (cs : List (Nat × Bool × Nat)) (d : Dev) : Dev :=
  let begun := cs.filter fun x => x.2.1 && !d.brch.cond.testBit x.1
  raiseAll (begun.map fun x => (x.1, 0, x.2.2)) (each cs (fun x d => condPin x.1 x.2.1 d) d)

/-- The condition of a state source begins or ends. -/
def breachCond (s : Nat) (stands : Bool) (code : Nat) (d : Dev) : Dev := breachConds [(s, stands, code)] d

end Dev

/-! ### Answers -/

/-- The core die is out of reset (R582). -/
def Dev.awake (d : Dev) : Bool := d.pwr.held == 0

/-! ### Pins (R568, R569) -/

namespace Dev

/-- The EVT_N pin: low (0) while a pending source has EVT_PIN = 1 (R568). -/
def evtN (d : Dev) : Bool := (List.range 192).all fun e => !(d.flag (EVT_PEND e) && d.flag (EVT_PIN e))

/-- What holds the SAFE_N pin low (R569), and the reset of the core die (R583). -/
def safeDemanded (d : Dev) : Bool :=
  !d.awake || d.effMode == 8 || d.effMode == 9 || d.flag SAF_STATUS_ALL || d.flag SAF_STATUS_WDEMAND ||
    d.flag SAF_STATUS_DSTOP || d.flag FLD_STATUS_SILENCED || d.flag FLD_STATUS_DROPLATCH || !d.flag EVT_STATUS_LINKOK

/-- The pins follow what drives them, and EVT_STATUS shows them. -/
def showPins (d : Dev) : Dev := (d.putB EVT_STATUS_EVT_N d.evtN).putB EVT_STATUS_SAFE_N (!d.safeDemanded)

end Dev

end Sys2Proof.Machine
end

