-- ==== Sys2Proof/Machine/Operands.lean ====
section
/-! DEFINITION. The operand forms of the block's commands: checksums, bytes of sheets, frames, groups and records, and
the instants of the tideline.

Units: the tideline counts 2^-16 ns (R57), so 250 ps are 16,384 ticks.  Proof arithmetic joins instants in ticks with
delays in ps; its unit is 2^-16 ps, of which a tick has 1,000 and a picosecond 65,536. -/

namespace Sys2Proof.Machine

open Reg

/-! ### Checksums -/

/-- A CRC over bits, most significant bit of each byte first, in a register of `w` bits. -/
def crcMsbBit (w poly : Nat) (r : Nat) (b : Bool) : Nat :=
  let top := r.testBit (w - 1) != b
  let r' := (r * 2) % 2 ^ w
  if top then r' ^^^ poly else r'

def crcMsbByte (w poly : Nat) (r : Nat) (x : Byte) : Nat :=
  [7, 6, 5, 4, 3, 2, 1, 0].foldl (fun r i => crcMsbBit w poly r (x.toNat.testBit i)) r

/-- The reflected form: least significant bit of each byte first; `poly` is the reflected polynomial. -/
def crcLsbByte (poly : Nat) (r : Nat) (x : Byte) : Nat :=
  [0, 1, 2, 3, 4, 5, 6, 7].foldl
    (fun r i => if r.testBit 0 != x.toNat.testBit i then r / 2 ^^^ poly else r / 2) r

/-- The Nymlet CRC-16 (R108). -/
def crc16 (bs : List Byte) : Nat := bs.foldl (crcMsbByte 16 0x1021) 0xFFFF

/-- The CRC-8 of groups (R120). -/
def crc8 (bs : List Byte) : Nat := bs.foldl (crcMsbByte 8 0x07) 0

/-- The CRC-32 of sluice frames (R225). -/
def crc32 (bs : List Byte) : Nat := bs.foldl (crcLsbByte 0xEDB88320) 0xFFFFFFFF ^^^ 0xFFFFFFFF

/-! ### Instants -/

/-- Ticks in a number of nanoseconds. -/
def ns (n : Nat) : Nat := n * 65536

/-- 2^-16 ps in a number of nanoseconds. -/
def nsU (n : Int) : Int := n * 65536000

/-- An instant in 250 ps, in 2^-16 ps. -/
def tdcU (t : Nat) : Int := (t : Int) * 16384000

/-- A signed field of `w` bits. -/
def sgn (w v : Nat) : Int := if v % 2 ^ w < 2 ^ (w - 1) then (v % 2 ^ w : Nat) else (v % 2 ^ w : Nat) - (2 ^ w : Int)

/-- A signed number in a field of `w` bits. -/
def unsgn (w : Nat) (i : Int) : Nat := (i % (2 ^ w : Int)).toNat

namespace Dev

/-- The target T of the NCO and the nominal period (R63). -/
def target (d : Dev) : Nat := d.get2 TIDE_TGT_LO TIDE_TGT_HI_HI

def nominal (d : Dev) : Nat := d.get2 TIDE_NOM_LO TIDE_NOM_HI_HI

/-- The device is in LOCKSTEP, or in a mode that returns to it: R52 keeps the deckle at 20 µs or longer. -/
def lockstepStays (d : Dev) : Bool :=
  d.effMode == 4 || ((d.effMode == 6 || d.effMode == 7) && d.heldBase == 4)

/-- The period that follows a period `p` under the target in force (R61).  DESIGN CHOICE (log 93): while R52 binds the
device, a target below 20 µs that was accepted before is followed down to 20 µs only. -/
def nextPeriod (d : Dev) (p : Nat) : Nat :=
  let s := p * d.get TIDE_NCO_CFG_SLEW / 2 ^ 24
  let t := if d.lockstepStays then max d.target 1310720000 else d.target
  if p ≤ t then p + min s (t - p) else p - min s (p - t)

/-- The boundary and the period `k` deckles after a boundary `b` whose period is `p` (R60). -/
def ahead (d : Dev) (b p : Nat) : Nat → Nat × Nat
  | 0 => (b, p)
  | k + 1 => d.ahead (b + p) (d.nextPeriod p) k

/-- B(m): recorded for the current deckle and the ones before it, foreseen with the target in force for later ones. -/
def bAt (d : Dev) (m : Nat) : Nat :=
  let t := d.tide
  match t.bs with
  | [] => (t.nextB.getD 0) + m * t.p
  | b :: _ => if t.n ≤ m then (d.ahead b t.p (min (m - t.n) 64)).1
    else t.bs.getD (min (t.n - m) (t.bs.length - 1)) 0

/-- P(m) of the current or a later deckle. -/
def pAt (d : Dev) (m : Nat) : Nat :=
  match d.tide.bs with
  | [] => d.tide.p
  | b :: _ => (d.ahead b d.tide.p (min (m - d.tide.n) 64)).2

/-- The cut-off C(m) = B(m) − 768 ns of R231, in ticks; negative instants do not occur once B(0) is set. -/
def cutoff (d : Dev) (m : Nat) : Int := (d.bAt m : Int) - ns 768

/-- The aligned boundary A(m) (R74), in ticks. -/
def aligned (d : Dev) (m : Nat) : Nat := d.bAt m + ns (d.get TIDE_ALIGN_ALIGN)

/-- o(n) and g(n) of the time mark of deckle m (R74): offset in 250 ps, rounded half down, and grid instant in ns. -/
def gridOf (d : Dev) (m : Nat) : Nat × Nat :=
  let a := d.aligned m
  let g := a / ns 8 * 8
  let rest := a - ns g
  let o := (rest + 8191) / 16384
  if o = 32 then (0, g + 8) else (o, g)

/-- A deckle number of 32 bits names the full number nearest to the current deckle. -/
def fullDeckle (d : Dev) (w : Nat) : Nat :=
  (((d.tide.n : Int)) + sgn 32 (unsgn 32 ((w : Int) - d.tide.n))).toNat

/-- A deckle runs: B(0) has been reached since the latest LOAD. -/
def running (d : Dev) : Bool := d.tide.bs ≠ []

/-- Target deckle of the next cut-off: the deckle after the current one, or after the latest cut-off. -/
def nextCut (d : Dev) : Nat := max (d.tide.n + 1) (d.tide.cut + 1)

end Dev

/-! ### Sheets and records -/

/-- Aspect codes of R145. -/
abbrev Asp.block : Nat := 0
abbrev Asp.pos : Nat := 1
abbrev Asp.neg : Nat := 2
abbrev Asp.zeroHi : Nat := 3
abbrev Asp.zeroLo : Nat := 4
abbrev Asp.bypass : Nat := 5
abbrev Asp.discharge : Nat := 6
abbrev Asp.precharge : Nat := 7
abbrev Asp.keep : Nat := 0xE
abbrev Asp.invalid : Nat := 0xF

/-- The entry 0xE0_0000 of R336: KEEP at instant 0. -/
def Entry.keep : Entry := ⟨Asp.keep, 0⟩

/-- A schedule entry read from its 24-bit value, and written (R150). -/
def Entry.ofNat (v : Nat) : Entry := ⟨v / 2 ^ 20 % 16, v % 2 ^ 20⟩

def Entry.toNat (e : Entry) : Nat := e.asp % 16 * 2 ^ 20 + e.inst % 2 ^ 20

/-- The sheet that 16 payload bytes spell; the device-owned fields are not taken from them (R148, R149). -/
def Sheet.ofBytes (tgt : Nat) (bs : List Byte) : Sheet :=
  { tgt := tgt
    dabv := (bs.getD 1 0).getLsbD 3
    entries := [0, 1, 2, 3].map fun i => Entry.ofNat (Dev.nat ((bs.drop (2 + 3 * i)).take 3))
    dabph := Dev.nat ((bs.drop 14).take 2) }

/-- The FLAGS byte (R149). -/
def Sheet.flags (s : Sheet) : Nat :=
  s.tgt % 4 * 64 + s.rep.toNat * 32 + s.mapv % 2 * 16 + s.dabv.toNat * 8 + s.safe.toNat * 4 + s.gang.toNat

/-- The 16 payload bytes of a sheet (R148). -/
def Sheet.bytes (s : Sheet) : List Byte :=
  [BitVec.ofNat 8 s.ssq, BitVec.ofNat 8 s.flags] ++ (s.entries.map fun e => Dev.le 3 e.toNat).flatten ++ Dev.le 2 s.dabph

/-- The sheet that shows one aspect at instant 0 and KEEP after it (R151, R154, R183). -/
def Sheet.show (asp tgt : Nat) (safe : Bool) : Sheet :=
  { tgt := tgt, safe := safe, entries := [⟨asp, 0⟩, Entry.keep, Entry.keep, Entry.keep] }

/-- Whether a sheet has the form of a safe-aspect sheet of R151, R154 or R183 that the device builds itself. -/
def Sheet.nonKeep (s : Sheet) : List Entry := s.entries.filter fun e => e.asp ≠ Asp.keep

/-- A proof record in its 8 bytes (R173). -/
def Rec.bytes (r : Rec) : List Byte :=
  [BitVec.ofNat 8 r.ctx, BitVec.ofNat 8 (r.outcome * 64 + r.entry * 16 + r.cmd), BitVec.ofNat 8 (r.fb * 16 + r.cause),
   BitVec.ofNat 8 r.ssq] ++ Dev.le 2 r.deckle ++ Dev.le 2 r.delta

/-! ### Frames -/

/-- A Nymlet frame as its bytes between K27.7 and K29.7 (R105, R106): outbound, TYPE, CHAN 0. -/
def nymFrame (ty : Nat) (payload : List Byte) : List Byte :=
  let body := [BitVec.ofNat 8 ty, 0] ++ Dev.le 2 payload.length ++ payload
  body ++ Dev.le 2 (crc16 body)

/-- The permitted payload length of a frame type sent by a cell (R107); no length for a type no cell sends. -/
def cellLen (ty len : Nat) : Bool :=
  match ty with
  | 2 => len = 32
  | 3 => decide (4 ≤ len) && decide (len ≤ 260)
  | 4 => len = 8
  | 5 => decide (8 ≤ len) && decide (len ≤ 520)
  | 6 => decide (4 ≤ len) && decide (len ≤ 64)
  | 8 => len = 24
  | _ => false

/-- A received lane frame: its type, stream and payload when it passes R109, nothing when it is discarded. -/
def nymParse (bs : List Byte) : Option (Nat × Nat × List Byte) :=
  let body := bs.dropLast.dropLast
  let h := (bs.getD 0 0).toNat
  let chan := (bs.getD 1 0).toNat
  let len := Dev.nat ((bs.drop 2).take 2)
  if 6 ≤ bs.length ∧ crc16 body = Dev.nat (bs.drop (bs.length - 2)) ∧ h / 16 = 8 ∧ len + 6 = bs.length
      ∧ cellLen (h % 16) len then
    some (h % 16, chan, (bs.drop 4).take len)
  else none

/-- A sluice frame from its type, lane, sequence number and payload (R222, R223). -/
def sluFrame (ty k seq : Nat) (payload : List Byte) : List Byte :=
  let body := [BitVec.ofNat 8 (0x80 + ty), BitVec.ofNat 8 k] ++ Dev.le 2 payload.length ++ Dev.le 2 seq ++ payload
  body ++ Dev.le 4 (crc32 body)

/-- A received sluice frame: type, SEQ and payload when it passes R227 (types the engine sends: REAM and CTRL). -/
def sluParse (bs : List Byte) : Option (Nat × Nat × List Byte) :=
  let body := bs.take (bs.length - 4)
  let ty := (bs.getD 0 0).toNat
  let len := Dev.nat ((bs.drop 2).take 2)
  if 10 ≤ bs.length ∧ crc32 body = Dev.nat (bs.drop (bs.length - 4)) ∧ (ty = 1 ∨ ty = 5) ∧ bs.getD 1 0 = 0
      ∧ len + 10 = bs.length ∧ (if ty = 1 then 40 ≤ len ∧ len ≤ 2072 else 4 ≤ len ∧ len ≤ 20) then
    some (ty, Dev.nat ((bs.drop 4).take 2), (bs.drop 6).take len)
  else none

/-- A tide frame with its CRC-16 (R86). -/
def tideFrame (body : List Byte) : List Byte := body ++ Dev.le 2 (crc16 body)

/-- The body of a received tide frame of a type and length whose CRC passes (R86). -/
def tideParse (ty len : Nat) (bs : List Byte) : Option (List Byte) :=
  if bs.length = len ∧ bs.getD 0 0 = BitVec.ofNat 8 ty ∧ crc16 (bs.take (len - 2)) = Dev.nat (bs.drop (len - 2)) then
    some (bs.take (len - 2)) else none

end Sys2Proof.Machine
end

