-- ==== Sys2Proof/Machine/Flags.lean ====
section
/-! DEFINITION. The conditions that many rules share: which contexts are members, what a lane is bound to, which source
is in force, who demands the safe aspect, and the checks on a sheet (R151). -/

namespace Sys2Proof.Machine

open Reg

/-- Context state codes (R182). -/
abbrev St.free : Nat := 0
abbrev St.reserved : Nat := 1
abbrev St.joining : Nat := 2
abbrev St.bound : Nat := 3
abbrev St.lost : Nat := 4
abbrev St.retiring : Nat := 5

namespace Dev

def ctxState (d : Dev) (c : Nat) : Nat := d.get (CTX_STATE_STATE c)

/-- All contexts, lanes and polders. -/
def allCtx : List Nat := List.range 128
def allLanes : List Nat := List.range 144
def allPolders : List Nat := List.range 8

/-- A bound context holds a binding to its lane: JOINING, BOUND or RETIRING (R182). -/
def isBound (d : Dev) (c : Nat) : Bool :=
  let s := d.ctxState c
  s == St.joining || s == St.bound || s == St.retiring

/-- A member of the ream map (R182): by state, or FREE after a retirement from LOST until a version excludes it. -/
def isMember (d : Dev) (c : Nat) : Bool :=
  d.isBound c || d.ctxState c == St.lost ||
    (d.ctxState c == St.free && (d.flag (CTX_MEMBER c) || (d.flag CTX_MAPVER_PVALID && d.flag (CTX_MEMBER_PEND c))))

def members (d : Dev) : List Nat := allCtx.filter d.isMember

/-- Lane of a context, when it holds a binding or a reservation. -/
def laneOf (d : Dev) (c : Nat) : Option Nat :=
  if d.flag (CTX_BIND_VALID c) then some (d.get (CTX_BIND_LANE c)) else none

/-- The bound context of a lane. -/
def ctxOfLane (d : Dev) (L : Nat) : Option Nat := allCtx.find? fun c => d.isBound c && d.laneOf c == some L

/-- The context whose event a lane raises: the context bound to it or, after a loss, reserved on it. -/
def ownerOfLane (d : Dev) (L : Nat) : Option Nat :=
  allCtx.find? fun c => (d.isBound c || d.ctxState c == St.lost) && d.laneOf c == some L

/-- The safe aspect of a context (R146). -/
def safeAspect (d : Dev) (c : Nat) : Nat := if d.flag (CTX_ASPECT_SAFE c) then Asp.bypass else Asp.block

/-- The source in force for a context: 0 A, 1 B, 2 S (R258); a context that becomes BOUND during a couch is on the
incoming one (R263); after a couch that a breach level has stopped, each context keeps the source that the couch map
names (R51). -/
def srcOf (d : Dev) (c : Nat) : Nat :=
  if d.flag COUCH_STATUS_ACTIVE || d.get SLU_SRC_ACTIVE == 3 then
    if d.flag (COUCH_MAP c) || (d.flag COUCH_STATUS_ACTIVE && d.ctxState c == St.joining) then d.get COUCH_STATUS_IN else d.get COUCH_STATUS_OUT
  else d.get SLU_SRC_ACTIVE

/-- Survey runs (R187). -/
def surveyRuns (d : Dev) : Bool := [2, 3, 4, 5, 6, 7, 8].contains d.effMode

/-- Bound lanes carry light, time marks and sheets (R41, R138). -/
def lanesLit (d : Dev) : Bool := [2, 3, 4, 5, 6, 7, 8].contains d.effMode

/-- Sheets of reams are applied (R234). -/
def applies (d : Dev) : Bool := [4, 5, 6].contains d.effMode

/-- A context's gang, when it belongs to one (R83). -/
def gangOf (d : Dev) (c : Nat) : Option Nat :=
  if d.flag (CTX_GANG_EN c) then some (d.get (CTX_GANG_GANG c)) else none

/-- The members of a gang (R83): its contexts that are members of the ream map; a RESERVED or FREE one is not. -/
def gangMembers (d : Dev) (g : Nat) : List Nat :=
  d.members.filter fun c => d.gangOf c == some g && d.ctxState c != St.free

/-- The GANG flag of a context's sheets (R149): every member of its gang declared the capability. -/
def gangFlag (d : Dev) (c : Nat) : Bool :=
  match d.gangOf c with
  | some g => (d.gangMembers g).all fun m => d.bit (CTX_CAP_CAP m) 0
  | none => false

/-- The safe demand on a context: by its program (R339), or by the safe-demand word of its lane's polder (R433). -/
def demanded (d : Dev) (c : Nat) : Bool :=
  d.flag (CTX_PSTAT_SAFEREQ c) ||
    (match d.laneOf c with
     | some L => (d.polder (L / 18)).demandAll || (d.polder (L / 18)).demand.testBit c
     | none => false)

/-- Sixteen times the filtered round trip RTT_f of a lane in ps (R79, R80). -/
def rttSum (d : Dev) (L : Nat) : Int := (d.lane L).rtt

def asym (d : Dev) (L : Nat) : Int := sgn 16 (d.get (LANE_ASYM_ASYM L))

/-- TXD(L) and RXD(L) in ps: the fuses of the part (R81). -/
def txd (L : Nat) : Nat := (Config.laneTxd L).toNat

def rxd (L : Nat) : Nat := (Config.laneRxd L).toNat

/-- The filtered D_out(L) of R79 in 1/32 ps: 32·TXD + Σ RTT + 16·ASYM + 32·T_crx. -/
def filteredDout (d : Dev) (L : Nat) : Int :=
  32 * (txd L : Int) + d.rttSum L + 16 * d.asym L + 32 * ((d.lane L).tcrx : Int)

/-- D_in(L) of R162 in 2^-16 ps. -/
def dinU (d : Dev) (L : Nat) : Int :=
  (d.rttSum L - 16 * d.asym L + 32 * (rxd L : Int)) * 2048

/-- The applied D_out(L) in 2^-16 ps. -/
def doutU (d : Dev) (L : Nat) : Int := (d.lane L).dout * 2048

/-- The fine delay of R75 in taps: round(((−D) mod 8 ns) / 250 ps) mod 32, with D in 1/32 ps.  R75 gives no direction
for a tie: DESIGN CHOICE, a tie rounds up (log 92). -/
def fineDelay (dout : Int) : Nat := ((((-dout) % 256000 + 4000) / 8000) % 32).toNat

/-- The setting of the lane's fine-delay line in 62.5 ps: FD(L) and the phase that the lane's polder measured at the
latest strobe (R59, R75). -/
def fineLine (d : Dev) (L : Nat) : Nat := (4 * d.get (LANE_DOUT_FD L) + (d.polder (L / 18)).phase) % 128

/-- D_out(L) above ALIGN − 32 ns (R77), D in 1/32 ps. -/
def outOfRange (d : Dev) (dout : Int) : Bool := decide (((d.get TIDE_ALIGN_ALIGN : Int) - 32) * 32000 < dout)

/-! ### The checks on a sheet (R151) -/

/-- Aspects that R147 permits in a sheet of a context. -/
def aspectOk (d : Dev) (c a : Nat) : Bool :=
  decide (a < 8) || a == Asp.keep || (decide (8 ≤ a) && decide (a < 0xE) && decide (a - 8 < d.get (CTX_ASPECT_UMAX c)))

/-- Instants rise strictly. -/
def rising : List Nat → Bool
  | a :: b :: r => decide (a < b) && rising (b :: r)
  | _ => true

/-- Each instant lies at least `gap` after the one before it, the first after `prev`. -/
def spaced (gap : Nat) : Option Nat → List Nat → Bool
  | _, [] => true
  | none, x :: r => spaced gap (some x) r
  | some p, x :: r => decide (p + gap ≤ x) && spaced gap (some x) r

/-- Instant of an entry of target m in ticks from the boundaries, for the spacing of R151. -/
def entryAt (d : Dev) (m i : Nat) : Nat := d.bAt m + i * 16384

/-- The checks of R151 on a sheet of context c with SAFE = 0. -/
def sheetOk (d : Dev) (c : Nat) (s : Sheet) : Bool :=
  let es := s.nonKeep
  s.entries.all (fun e => d.aspectOk c e.asp) &&
  rising (es.map (·.inst)) &&
  es.all (fun e => decide (e.inst * 16384 < d.pAt s.tgt)) &&
  spaced (d.get (CTX_ASPECT_MINGAP c) * 32 * 16384) (d.cell c).prevEv (es.map fun e => d.entryAt s.tgt e.inst)

/-! ### Guards of the mode table (R47) -/

/-- Breach clear (R461). -/
def breachClear (d : Dev) : Bool := decide (d.get BRCH_STATUS_LEVEL < 2)

/-- A context reports precharge complete (R348). -/
def prechargeDone (d : Dev) (c : Nat) : Bool := d.get (CTX_PROG_FILL c) == 0 || d.flag (CTX_PSTAT_FILLDONE c)

/-- The source A, B or S delivered valid reams in the last k target deckles (R630). -/
def validOf (d : Dev) (src k : Nat) : Bool :=
  if src = 2 then allCtx.all fun c => d.ctxState c != St.bound || d.flag (CTX_PROG_SLACK c)
  else
    let v := (d.source src).valid
    decide (k ≤ v.length) && (v.take k).all id

/-- The same for the source in SLU_SRC.ACTIVE; when that reads mixed, both sources of the couch. -/
def validReams (d : Dev) (src k : Nat) : Bool :=
  if src = 3 then d.validOf (d.get COUCH_STATUS_OUT) k && d.validOf (d.get COUCH_STATUS_IN) k else d.validOf src k

/-- Every context that the image marks required is admitted and ranged (R47). -/
def requiredReady (d : Dev) : Bool :=
  allCtx.all fun c => !d.flag (CTX_STATE_REQUIRED c) ||
    (d.isBound c && match d.laneOf c with
      | some L => d.flag (LANE_DOUT_VALID L)
      | none => false)

/-- The device is locked to, or drives, another device (R52). -/
def tideShared (d : Dev) : Bool := d.get TIDE_SYNC_ROLE != 0

/-- The guard of R52 for LOCKSTEP. -/
def lockstepGuard (d : Dev) : Bool :=
  decide (d.members.length ≤ 48) && decide (1310720000 ≤ d.tide.p) && !d.tideShared

/-- Life-cycle states of R514. -/
def lcs (d : Dev) : Nat := d.get LCS_STATE_STATE

end Dev

end Sys2Proof.Machine
end

