-- ==== Sys2Proof/Machine/RaceOps.lean ====
section
/-! DEFINITION. The operations of the races (chapter 9) that other blocks use: buffers, statuses, records, the bulk
transfers of a context, the drain of the vat, and the run-time arbitration of resources (R549). -/

namespace Sys2Proof.Machine

open Reg

namespace Dev

/-! ### Records by race -/

def race (d : Dev) (q : Nat) : Race := Table.get {} d.races q
def setRace (d : Dev) (q : Nat) (x : Race) : Dev := { d with races := Table.put {} d.races q x }
def onRace (d : Dev) (q : Nat) (f : Race → Race) : Dev := d.setRace q (f (d.race q))

def allRaces : List Nat := List.range 32

/-- Kinds of R286. -/
abbrev Kind.telem : Nat := 1
abbrev Kind.proof : Nat := 2
abbrev Kind.bulkIn : Nat := 3
abbrev Kind.vat : Nat := 4
abbrev Kind.bulkOut : Nat := 5
abbrev Kind.mgmt : Nat := 6

def raceKind (d : Dev) (q : Nat) : Nat := d.get (RACE_CFG_KIND q)

/-- The race is enabled. -/
def raceOn (d : Dev) (q : Nat) : Bool := d.flag (RACE_CFG_EN q)

/-- The race is enabled and not stopped. -/
def raceRuns (d : Dev) (q : Nat) : Bool := d.raceOn q && !d.flag (RACE_STAT_STOPPED q)

/-- Class of a kind under R25, 0 A to 3 D (R286, R312). -/
def kindClass (k : Nat) : Nat :=
  match k with
  | 1 => 1
  | 2 => 0
  | 6 => 3
  | _ => if k = 0 then 0 else 2

/-- The vat is under test 50; the race staging is under test 49 (R482, R497). -/
def vatTested (d : Dev) : Bool := d.get BIST_STATUS_NONPOLDER == 50
def stagingTested (d : Dev) : Bool := d.get BIST_STATUS_NONPOLDER == 49

/-- The mode lets the race run (R41), and no test holds its memory (R482). -/
def raceAllowed (d : Dev) (q : Nat) : Bool :=
  let c := kindClass (d.raceKind q)
  !d.stagingTested && !(d.raceKind q == Kind.vat && d.vatTested) &&
  match d.effMode with
  | 0 => false
  | 1 => c == 3
  | 2 => c != 0
  | 9 => c == 2 || c == 3
  | 0xA => c == 3 || d.raceKind q == Kind.vat
  | _ => true

/-- The race moves data: enabled, not stopped, and let run by the mode. -/
def raceServes (d : Dev) (q : Nat) : Bool := d.raceRuns q && d.raceAllowed q

/-- The first descriptor whose transfer has not ended. -/
def openDesc (d : Dev) (q : Nat) : Option Desc := (d.race q).descs.find? fun x => x.status == none

/-- A descriptor takes a new value. -/
def putDesc (q : Nat) (x : Desc) (d : Dev) : Dev :=
  d.onRace q fun r => { r with descs := r.descs.map fun y => if y.k = x.k then x else y }

/-- The transfer of a descriptor ends with a status (R289). -/
def endDesc (q : Nat) (x : Desc) (status dlen : Nat) (d : Dev) : Dev :=
  putDesc q { x with status := some status, dlen := dlen } d

/-- Statuses of R289. -/
abbrev Sx.ok : Nat := 0
abbrev Sx.stopped : Nat := 1
abbrev Sx.seq : Nat := 2
abbrev Sx.form : Nat := 3
abbrev Sx.target : Nat := 4
abbrev Sx.lost : Nat := 5
abbrev Sx.dma : Nat := 6
abbrev Sx.nack : Nat := 7
abbrev Sx.timeout : Nat := 8

/-- A race stops with a cause (R316); its event is raised (R294). -/
def stopRace (q err : Nat) (d : Dev) : Dev :=
  let d := ((d.set (RACE_STAT_STOPPED q)).put (RACE_STAT_ERR q) err).onRace q fun r => { r with unsig := 0 }
  d.event (128 + q)

/-- The bytes that the device writes into a descriptor at its completion (R288, R291): 12 to 31 for D2H, 24 to 31 for
H2D. -/
def writeback (d : Dev) (q : Nat) (x : Desc) : List Byte :=
  let done := le 4 (x.dlen % 2 ^ 17 + x.status.getD 0 % 128 * 2 ^ 24 + 2 ^ 31) ++ le 4 (d.now / 65536)
  if q < 16 then
    le 4 x.k ++ [0, BitVec.ofNat 8 (x.irq.toNat * 2 + x.first.toNat * 4 + x.last.toNat * 8)] ++ le 2 x.tgt ++ le 4 x.arg ++ done
  else done

/-- Address of the slot of a count (R287). -/
def slotAt (d : Dev) (q k : Nat) : Nat := (d.race q).base + 32 * (k % 2 ^ (d.race q).size)

/-- The oldest descriptor completes when its transfer has ended (R291): its writeback, NSEQ, and the race event after
COUNT completions or for IRQ = 1 (R294). -/
def completeHead (q : Nat) (d : Dev) : Dev :=
  match (d.race q).descs with
  | [] => d
  | x :: rest =>
    if x.status = none then d else
    let d := d.send (.hostWrite (d.slotAt q x.k + (if q < 16 then 12 else 24)) (d.writeback q x))
    let d := d.put (RACE_NSEQ q) (d.get (RACE_NSEQ q) + 1)
    let n := (d.race q).unsig + 1
    let raise := x.irq || decide (d.get (RACE_IRQ_COUNT q) ≤ n)
    let d := d.onRace q fun r => { r with descs := rest, unsig := if raise then 0 else n }
    if raise then d.event (128 + q) else d

/-- Every descriptor whose transfer has ended completes, in order. -/
def completeAll (q : Nat) (d : Dev) : Dev := (List.range 16).foldl (fun d _ => completeHead q d) d

/-! ### Records in buffers (R295, R296) -/

/-- A record goes into an open buffer; with FLUSH = 0 the buffer completes at once. -/
def writeRec (q : Nat) (x : Desc) (bytes : List Byte) (d : Dev) : Dev :=
  let x := { x with dlen := x.dlen + bytes.length, recs := x.recs + 1, arg := x.recs + 1 }
  let d := d.send (.hostWrite (x.addr + (x.dlen - bytes.length)) bytes)
  if d.get (RACE_IRQ_FLUSH q) = 0 then endDesc q x Sx.ok x.dlen d else putDesc q x d

/-- A record goes into the race's open buffer, or into the next one when it does not fit; the answer tells whether a
buffer took it. -/
def appendRec (q : Nat) (bytes : List Byte) (d : Dev) : Bool × Dev :=
  match d.openDesc q with
  | none => (false, d)
  | some x =>
    if x.dlen + bytes.length ≤ x.len then (true, writeRec q x bytes d)
    else
      let d := endDesc q x Sx.ok x.dlen d
      match d.openDesc q with
      | none => (false, d)
      | some y => if y.dlen + bytes.length ≤ y.len then (true, writeRec q y bytes d) else (false, d)

/-! ### Bulk transfers of a context -/

/-- The race that takes the inbound transfers of a context (R301, R318, R341). -/
def bulkInRace (d : Dev) (c : Nat) : Option Nat :=
  let q := d.get (CTX_HROUTE_BRACE c)
  if !d.flag (CTX_PROG_BMBX c) && d.flag (CTX_HROUTE_BEN c) && d.raceOn q && d.raceKind q == Kind.bulkIn then some q else none

/-- CACK and NEXT have changed and are to be reported (R133). -/
def releaseIn (L : Nat) (d : Dev) : Dev :=
  d.onLane L fun x => { x with inbound := x.inbound.drop 1, cack := (x.cack + 1) % 256, owed := true }

/-- The buffer that takes data of transfer `xid` of context c: the one open for it, or the next posted one that no
transfer has opened (R301). -/
def bulkBuffer (d : Dev) (q c xid : Nat) : Option Desc :=
  let posted := (d.race q).descs.filter fun x => x.status == none
  match posted.find? fun x => x.tgt == c && x.arg == xid with
  | some x => some x
  | none => posted.find? fun x => x.tgt == 0xFFFF

/-- The buffers that a race is filling end with a status. -/
def endFilling (q status : Nat) (p : Desc → Bool) (d : Dev) : Dev :=
  each ((d.race q).descs.filter fun x => x.status == none && decide (0 < x.dlen) && p x)
    (fun x d => endDesc q x status x.dlen d) d

/-- Inbound packets of a lane move into the buffers of their race; the packets left have no room (R301). -/
def drainIn : Nat → Nat → Nat → Dev → Dev
  | 0, _, _, d => d
  | n + 1, c, L, d =>
    match (d.lane L).inbound, d.bulkInRace c with
    | p :: rest, some q =>
      if !d.raceServes q then d else
      match d.bulkBuffer q c p.xid with
      | none => d
      | some x =>
        let room := x.len - x.dlen
        let part := p.data.take room
        let ends := decide (p.data.length ≤ room)
        let x' := { x with tgt := c, arg := p.xid, dlen := x.dlen + part.length, first := x.first || p.first,
                           last := ends && p.last }
        let d := d.send (.hostWrite (x.addr + x.dlen) part)
        let d := if x'.dlen = x.len || x'.last then endDesc q x' Sx.ok x'.dlen d else putDesc q x' d
        let d := if ends then releaseIn L d
          else d.onLane L fun y => { y with inbound := { p with data := p.data.drop room, first := false } :: rest }
        drainIn n c L d
    | _, _ => d

/-- Every lane's inbound packets that a race can take. -/
def drainAll (d : Dev) : Dev :=
  each allCtx (fun c d =>
    match d.laneOf c with
    | some L => if d.isBound c && (d.lane L).inbound ≠ [] then drainIn 256 c L d else d
    | none => d) d

/-- The request of a BULK_OUT race: the descriptors not yet ended, up to the first without CHAIN (R297). -/
def requestOf : List Desc → List Desc
  | [] => []
  | x :: r => if x.chain then (match requestOf r with | [] => [] | q => x :: q) else [x]

/-- The whole requests of a BULK_OUT race, in order; a race holds at most 16 descriptors. -/
def splitRequests : Nat → List Desc → List (List Desc)
  | 0, _ => []
  | n + 1, ds =>
    match requestOf ds with
    | [] => []
    | q => q :: splitRequests n (ds.drop q.length)

def requests (d : Dev) (q : Nat) : List (List Desc) :=
  splitRequests 16 ((d.race q).descs.filter fun x => x.status == none)

/-- The transfer of a request has begun. -/
def begun : List Desc → Bool
  | x :: _ => !x.first || x.cut != 0
  | [] => false

/-- The context that a request names. -/
def targetOf : List Desc → Nat
  | x :: _ => x.tgt
  | [] => 0xFFFF

/-- Every remaining descriptor of a request ends with a status; DLEN holds its acknowledged bytes (R300, R308). -/
def endRequest (q status : Nat) (req : List Desc) (d : Dev) : Dev := each req (fun x d => endDesc q x status x.acked d) d

/-- A context that is no longer BOUND ends its transfers with STATUS LOST (R300, R301); packets that wait on its lane
are given up. -/
def raceLost (c : Nat) (d : Dev) : Dev :=
  let d := each allRaces (fun q d =>
    if d.raceKind q = Kind.bulkOut then
      each ((d.requests q).filter fun r => begun r && targetOf r == c) (endRequest q Sx.lost) d
    else if d.raceKind q = Kind.bulkIn then endFilling q Sx.lost (fun x => x.tgt == c) d
    else d) d
  match d.laneOf c with
  | some L => d.onLane L fun x => { x with staged := [], unacked := [] }
  | none => d

/-! ### The drain of the vat (R306) -/

/-- `n` bytes of the drain stream from a place on. -/
def vatStream (d : Dev) (a : Nat) : Nat → List Byte
  | 0 => []
  | n + 1 => Table.get 0 d.vat.mem ((d.get RACE_VAT_STAT_OLDEST + a) % 4194304) :: d.vatStream (a + 1) n

/-- The enabled VAT race, if any. -/
def vatRace (d : Dev) : Option Nat := allRaces.find? fun q => d.raceOn q && d.raceKind q == Kind.vat

/-- The open buffer of the VAT race takes the next bytes of a frozen capture. -/
def vatServeOne (d : Dev) : Dev :=
  let st := d.get RACE_VAT_STAT_STATE
  match d.vatRace with
  | some q =>
    if d.raceServes q && (st == 3 || st == 4) then
      match d.openDesc q with
      | some x =>
        let fill := d.get RACE_VAT_FILL_FILL
        let n := min x.len (fill - d.vat.drained)
        let x := { x with arg := d.vat.drained, first := d.vat.drained == 0, last := d.vat.drained + n == fill, dlen := n }
        let d := d.send (.hostWrite x.addr (d.vatStream d.vat.drained n))
        let d := { d with vat := { d.vat with drained := d.vat.drained + n } }
        (endDesc q x Sx.ok n d).put RACE_VAT_STAT_STATE (if x.last then 5 else 4)
      | none => d
    else d
  | none => d

/-- The posted buffers of the VAT race, of which it holds at most 16, take what is left of a frozen capture. -/
def vatServe (d : Dev) : Dev := (List.range 16).foldl (fun d _ => d.vatServeOne) d

/-! ### Arbitration (R549, R554) -/

/-- A claim that receives BUSY is recorded and raises event 190: resource kind and index, winner and loser with their
priorities. -/
def arbBusy (rkind idx wkind wpri lkind lpri : Nat) (d : Dev) : Dev :=
  let d := ((((((d.inc GLB_BUSY_COUNT).put GLB_BUSY_RKIND rkind).put GLB_BUSY_WKIND wkind).put GLB_BUSY_LKIND lkind).put
    GLB_BUSY_WPRI wpri).put GLB_BUSY_LPRI lpri).put GLB_BUSY_RIDX idx
  d.event 190

end Dev

end Sys2Proof.Machine
end

