-- ==== Sys2Proof/Machine/Sheets.lean ====
section
/-! DEFINITION. The polder buffer and the proof of switching events: how a sheet is written for its context (R42, R151,
R339, R433), how its launch schedules proof windows (R160 to R163), and how records are decided and released. -/

namespace Sys2Proof.Machine

open Reg

namespace Dev

/-! ### Writing a sheet -/

/-- The aspects of the FILL set (R42). -/
def fillAspect (a : Nat) : Bool := [0, 5, 7, 6, 3, 4, 0xE].contains a

/-- In FILL, every other aspect of a program sheet is replaced by BLOCK and counted (R42). -/
def fillSubst (c : Nat) (s : Sheet) (d : Dev) : Sheet × Dev :=
  if d.effMode = 3 then
    ({ s with entries := s.entries.map fun e => if fillAspect e.asp then e else { e with asp := Asp.block } },
      d.add (CTX_PAUX_SUBST c) (s.entries.filter fun e => !fillAspect e.asp).length)
  else (s, d)

/-- Bit 0 of the map version of target m (R196): PEND from the target deckle on that commits it, CUR before. -/
def mapvFor (d : Dev) (m : Nat) : Nat :=
  match d.survey.commitAt with
  | some t => (if t ≤ m then d.get CTX_MAPVER_PEND else d.get CTX_MAPVER_CUR) % 2
  | none => d.get CTX_MAPVER_CUR % 2

/-- The sheet of target m that a safe demand puts in place of any other (R154, R339, R433). -/
def safeSheet (d : Dev) (c m : Nat) : Sheet := Sheet.show (d.safeAspect c) m true

/-- A sheet is written to the polder buffer of its context: replaced under a demand (R339, R433), checked (R151), and
replaced by the safe-aspect sheet with SAFE = 0 when it fails. -/
def dispatch (c : Nat) (s : Sheet) (d : Dev) : Dev :=
  let mapv := s.mapv
  let s' := if d.demanded c then { d.safeSheet c s.tgt with mapv := mapv } else s
  let bad := !s'.safe && !d.sheetOk c s'
  let d := if bad then (d.inc (CTX_PFAIL_REJECT c)).event c else d
  let s' := if bad then { Sheet.show (d.safeAspect c) s.tgt false with mapv := mapv } else s'
  let prev := match s'.nonKeep.getLast? with
    | some e => some (d.entryAt s'.tgt e.inst)
    | none => (d.cell c).prevEv
  d.onCell c fun x => { x with buf := x.buf ++ [s'], doneM := some s'.tgt, prevEv := prev, held := s'.rep }

/-- A safe-aspect sheet is sent at once (R50, R339, R347, R433): it takes the place of every sheet of the context for
the next target deckle that has not yet been written to the polder buffer; those written stand. -/
def safeNow (c : Nat) (d : Dev) : Dev :=
  let m := d.nextCut
  let s := { d.safeSheet c m with mapv := d.mapvFor m }
  d.onCell c fun x =>
    { x with buf := x.buf ++ [s], doneM := some (max m (x.doneM.getD 0)), prevEv := some (d.entryAt m 0), held := false }

/-- A holding sheet (R183): the admitted aspect, or BLOCK in SURVEY, with SAFE = 1; its version is CUR (R196). -/
def holdingSheet (d : Dev) (c m : Nat) : Sheet :=
  { Sheet.show (if d.effMode = 2 then Asp.block else (d.cell c).admitted) m true with mapv := d.mapvFor m }

/-- The repeat of the last sheet (R155); the safe-aspect sheet when none has been sent since the binding. -/
def repeatSheet (d : Dev) (c m : Nat) : Sheet :=
  let mapv := d.mapvFor m
  match (d.cell c).last with
  | some s => { s with tgt := m, rep := true, mapv := mapv, ref := none }
  | none => { d.safeSheet c m with rep := true, mapv := mapv }

/-! ### Entries that take effect, and their windows -/

/-- What CTX_PROOF_CFG says of the windows that open now, and of an uncommanded event decided now (R177). -/
def proofCfg (d : Dev) (c : Nat) : ProofCfg :=
  ⟨d.get (CTX_PROOF_CFG_EVEN c), d.flag (CTX_PROOF_CFG_SUMEN c), d.get (CTX_PROOF_CFG_FAILLIM c)⟩

/-- A scheduled entry takes effect: a window opens when its aspect differs from CMD, and CMD takes it (R160, R163). -/
def takeEffect (c : Nat) (x : Sched) (d : Dev) : Dev :=
  if x.asp = d.get (CTX_ASPECT_CMD c) then d else
  let d := d.put (CTX_ASPECT_CMD c) x.asp
  let w := nsU (100 * d.get (CTX_PROOF_CFG_W c))
  let len := if x.safe then max w (nsU 2000) else w
  let tsw := if x.safe then nsU 1024 else min (nsU (32 * d.get (CTX_PROOF_CFG_TSW c))) w
  d.onCell c fun y =>
    let log := match y.winLog with
      | (t, s, is) :: r => if t = x.tgt ∧ s = x.ssq then (t, s, x.idx :: is) :: r else (x.tgt, x.ssq, [x.idx]) :: y.winLog
      | [] => [(x.tgt, x.ssq, [x.idx])]
    { y with wins := y.wins ++ [⟨x.e, x.asp, x.ssq, x.idx, x.tgt, x.safe, len, tsw, d.proofCfg c⟩], winLog := log.take 16 }

/-- Scheduled entries in the order of their expected instants. -/
def insertSched (x : Sched) : List Sched → List Sched
  | [] => [x]
  | y :: r => if x.e < y.e then x :: y :: r else y :: insertSched x r

def ordered (xs : List Sched) : List Sched := xs.foldl (fun r x => insertSched x r) []

/-- Every scheduled entry of a context whose expected instant has come takes effect, in order (R160). -/
def advanceCell (t : Int) (c : Nat) (d : Dev) : Dev :=
  let x := d.cell c
  let due := ordered (x.sched.filter fun s => decide (s.e ≤ t))
  if due = [] then d else
  let d := d.setCell c { x with sched := x.sched.filter fun s => !decide (s.e ≤ t) }
  each due (takeEffect c) d

/-- The tideline in 2^-16 ps. -/
def nowU (d : Dev) : Int := (d.now : Int) * 1000

/-- The tideline has advanced: entries of every context whose instant has come take effect. -/
def advance (d : Dev) : Dev := each allCtx (advanceCell d.nowU) d

/-- Entries of a sheet sent on lane L go under way (R161); a sheet with SAFE = 1, whose K29.7 ends at `tEnd` (in
250 ps), takes back every entry of earlier sheets whose instant lies after its own (R160). -/
def schedule (c L : Nat) (s : Sheet) (tEnd : Nat) (d : Dev) : Dev :=
  if s.safe then
    let e := tdcU tEnd + d.doutU L
    d.onCell c fun x =>
      { x with sched := (x.sched.filter fun y => decide (y.e ≤ e)) ++
          (match s.entries.head? with
           | some en => if en.asp = Asp.keep then [] else [⟨e, en.asp, s.ssq, 0, s.tgt, true⟩]
           | none => []) }
  else
    let a : Int := (d.aligned s.tgt : Int) * 1000
    let new := s.entries.zipIdx.filterMap fun (en, i) =>
      if en.asp = Asp.keep then none else some ⟨a + tdcU en.inst, en.asp, s.ssq, i, s.tgt, false⟩
    d.onCell c fun x => { x with sched := x.sched ++ new }

/-! ### Records -/

/-- Δ in ns, rounded toward zero and limited (R173), from 2^-16 ps. -/
def deltaField (u : Int) : Nat :=
  let v := u.tdiv 65536000
  unsgn 16 (max (-32768) (min 32766 v))

/-- The code 0x7FFF of a record without Δ. -/
def noDelta : Nat := 0x7FFF

/-- A decided outcome waits for its release (R168). -/
def decideWin (c : Nat) (w : Window) (outcome cause fb delta : Nat) (d : Dev) : Dev :=
  d.onCell c fun x =>
    { x with wins := x.wins.filter (· ≠ w),
             recs := x.recs ++ [⟨c, outcome, w.idx, w.asp, fb, cause, w.ssq, w.tgt, delta, w.cfg⟩] }

/-- Outcome codes of R173. -/
abbrev Oc.proven : Nat := 0
abbrev Oc.contra : Nat := 1
abbrev Oc.silent : Nat := 2
abbrev Oc.late : Nat := 3

/-! ### SAFEHOLD, lanes and the sluice queue -/

/-- The number of members that are not yet on the incoming source of a couch (R279). -/
def couchRemain (d : Dev) : Nat := (allCtx.filter fun c => d.isMember c && !d.flag (COUCH_MAP c)).length

/-- During a couch a context is placed on the incoming source, where it has not been (R263, R266). -/
def couchPlace (c : Nat) (d : Dev) : Dev :=
  if !d.flag COUCH_STATUS_ACTIVE || d.flag (COUCH_MAP c) then d
  else let d := d.set (COUCH_MAP c); d.put COUCH_PROG_REMAIN d.couchRemain

/-- A context enters or leaves SAFEHOLD; SLU_HOLD counts the contexts in it (R238, R253).  During a couch it is then on
the incoming source at once (R263). -/
def setSafeHold (c : Nat) (b : Bool) (d : Dev) : Dev :=
  if (d.cell c).safeHold = b then d else
  let d := (d.onCell c fun x => { x with safeHold := b }).put SLU_HOLD_SAFEHOLD
    (if b then d.get SLU_HOLD_SAFEHOLD + 1 else d.get SLU_HOLD_SAFEHOLD - 1)
  if b then couchPlace c d else d

/-- STATE of a lane that is not bound, as its receiver has it (R141). -/
def showLink (L : Nat) (d : Dev) : Dev := d.put (LANE_LINK_STATE L) (if d.flag (LANE_LINK_SYNC L) then 2 else 1)

/-- A lane goes dark for the dark interval; its ROLE reads spare (R199). -/
def laneDark (L : Nat) (d : Dev) : Dev :=
  ((d.put (LANE_CFG_ROLE L) 0).showLink L).onLane L fun x =>
    { x with darkIv := true, ttx := none, fdAt := none }

/-- The return entry of a context (R236). -/
def returnEntry (d : Dev) (c : Nat) (fresh : Bool) : List Byte :=
  let x := d.cell c
  let body := match x.ret with
    | some r => r
    | none => List.replicate 32 0
  [BitVec.ofNat 8 c, BitVec.ofNat 8 (d.ctxState c + fresh.toNat * 16 + (if x.ret = none then 32 else 0))] ++
    le 2 (d.get (CTX_STATE_AGE c)) ++ body

/-- A sluice lane is enabled by SLU_CFG (R219). -/
def sluEnabled (d : Dev) (k : Nat) : Bool :=
  if k = 0 then d.flag SLU_CFG_EN0 else d.get SLU_CFG_ROLE1 == 1 || d.get SLU_CFG_ROLE1 == 2

/-- The port is split: both lanes carry source A (R219). -/
def sluSplit (d : Dev) : Bool := d.flag SLU_CFG_EN0 && d.get SLU_CFG_ROLE1 == 2

/-- The lanes on which a class A item goes to the engines: each enabled lane, or one queue of a split port, which
lane 0 holds (R219). -/
def sluTargets (d : Dev) : List Nat :=
  if d.sluSplit then [0] else [0, 1].filter d.sluEnabled

/-- An item waits for the sluice transmitters. -/
def sluQueue (it : SluItem) (d : Dev) : Dev :=
  each d.sluTargets (fun k d => d.onSluLane k fun x => { x with queue := x.queue ++ [it] }) d

/-! ### The SNAPSHOT (R240 to R242) -/

/-- One step of the grid-phase counter and accumulator (R70): G, k. -/
def gphStep (n inc g k : Nat) : Nat × Nat := if k + 1 = n then (0, 0) else ((g + inc) % 2 ^ 32, k + 1)

/-- The grid-phase index of a later deckle. -/
def gphIndex (d : Dev) : Nat → Nat
  | 0 => d.tide.gAcc / 65536
  | j + 1 =>
    let rec go : Nat → Nat × Nat → Nat × Nat
      | 0, x => x
      | i + 1, x => go i (gphStep d.tide.gN d.tide.gInc x.1 x.2)
    (go (j + 1) (d.tide.gAcc, d.tide.gK)).1 / 65536

/-- A bit set of contexts in 16 bytes. -/
def ctxBytes (p : Nat → Bool) : List Byte :=
  (List.range 16).map fun i =>
    BitVec.ofNat 8 (((List.range 8).map fun j => if p (8 * i + j) then 2 ^ j else 0).foldl (· + ·) 0)

/-- The source of a sluice lane (R219). -/
def laneSource (d : Dev) (k : Nat) : Nat := if k = 0 ∨ d.sluSplit then 0 else 1

/-- The SNAPSHOT payload of deckle n on lane k (R240, R242); in a split port LCAUSE is of the latest discard on either
lane. -/
def snapshotBytes (d : Dev) (k : Nat) : List Byte :=
  let n := d.tide.n
  let next := d.nextCut
  let src := d.source (d.laneSource k)
  let lock := d.runModel == 4
  let entries := if lock && d.effMode != 9 then
      (allCtx.filter fun c => d.flag (CTX_MEMBER c)).map fun c => d.returnEntry c (d.cell c).gotN else []
  let held := allCtx.any fun c => (d.cell c).held && d.isBound c
  let sh := allCtx.any fun c => (d.cell c).safeHold
  let hcMax := (allCtx.map fun c => (d.cell c).hc).foldl max 0
  le 4 n ++ le 4 next ++ le 2 (d.gphIndex (next - n)) ++
    [BitVec.ofNat 8 (d.mode' + 16 * d.get SLU_SRC_ACTIVE + (if lock then 64 else 0)),
     BitVec.ofNat 8 (d.get CTX_MAPVER_CUR),
     BitVec.ofNat 8 (if d.flag CTX_MAPVER_PVALID then d.get CTX_MAPVER_PEND else d.get CTX_MAPVER_CUR),
     BitVec.ofNat 8 (d.get CTX_MAPVER_PVALID + 2 * held.toNat + 4 * sh.toNat)] ++
    le 2 src.rsq ++ le 2 (unsgn 16 (max (-32767) (min 32767 src.fb))) ++
    [BitVec.ofNat 8 (if d.sluSplit then src.cause else d.get (SLU_LINK_LCAUSE k)), BitVec.ofNat 8 (min hcMax 15)] ++
    ctxBytes (fun c => d.ctxState c == St.lost) ++ le 2 (min (d.sluLane k).pfail 0xFFFF) ++
    le 2 entries.length ++ entries.flatten

/-- The SNAPSHOT is released on every enabled lane (R241). -/
def snapshot (d : Dev) : Dev :=
  each d.sluTargets (fun k d =>
    let b := d.snapshotBytes k
    d.onSluLane k fun x => { x with queue := x.queue ++ [.snapshot b], pfail := 0 }) (d.onSlu fun s => { s with snap := none })

/-- Modes in which SNAPSHOTs are sent (R241). -/
def snapshots (d : Dev) : Bool := [2, 3, 4, 5, 6, 7, 8, 9].contains d.effMode

/-- The LOCKSTEP SNAPSHOT still waits, and every awaited RETURN has come (R242). -/
def snapshotReady (d : Dev) : Bool :=
  d.slu.snap == some d.tide.n && allCtx.all fun c =>
    !((d.ctxState c == St.bound || d.ctxState c == St.retiring)) || (d.cell c).gotN

/-! ### Losing a context (R198 to R201) -/

/-- Every change of a context's state raises its event (R184); a change from LOST is shown to the engine (R247). -/
def setCtxState (c s : Nat) (d : Dev) : Dev :=
  if d.ctxState c = s then d else
  let was := d.ctxState c
  let d := if was = St.bound then raceLost c d else d
  let d := ((d.put (CTX_STATE_STATE c) s).putB (CTX_STATE_PENDMAP c) (s == St.joining)).event c
  -- R263: during a couch such a context is on the incoming source at once
  let d := if s = St.joining ∨ s = St.lost ∨ (s = St.bound ∧ was = St.joining) then couchPlace c d else d
  if was = St.lost ∧ d.runModel = 5 then d.sluQueue (.piece (d.returnEntry c false)) else d

/-- A member context becomes LOST with a cause (R198): its lane goes dark, its sheets and windows are discarded
(R200, R201), its transfers end (R300), its demand and FILLDONE are cleared (R339, R348), and the engine learns of it
(R247); a SNAPSHOT that awaited no RETURN but its own is released (R242). -/
def lose (cause c : Nat) (d : Dev) : Dev :=
  if !d.isBound c then d else
  let d := (setCtxState c St.lost d).put (CTX_STATE_LCAUSE c) cause
  let d := (d.clr (CTX_PSTAT_SAFEREQ c)).clr (CTX_PSTAT_FILLDONE c)
  let d := d.onCell c fun x =>
    { x with buf := [], supply := [], wins := [], sched := [], fails := [], failDue := false,
             missed := 0, boundAt := none, hc := 0, resumeAt := none, held := false }
  let d := setSafeHold c false d
  let d := match d.laneOf c with
    | some L => laneDark L d
    | none => d
  let d := if d.runModel = 5 then d.sluQueue (.piece (d.returnEntry c false)) else d
  if d.snapshotReady then d.snapshot else d

end Dev

end Sys2Proof.Machine
end

