-- ==== Sys2Proof/Machine/Terp.lean ====
section
/-! DEFINITION. Operations of the terp island and of the change log that other blocks use: staging a log entry (R526),
the safe demand ALL (R432), starting and stopping the dike processor (R378, R380), releasing forces (R389), the
contactor channels (R440) and the cabinet aspect logic (R425). -/

namespace Sys2Proof.Machine

open Reg

namespace Dev

def onDike (d : Dev) (f : Dike → Dike) : Dev := { d with dike := f d.dike }
def onBerm (d : Dev) (f : Berm → Berm) : Dev := { d with berm := f d.berm }
def onSaf (d : Dev) (f : Safety → Safety) : Dev := { d with saf := f d.saf }
def onMgmt (d : Dev) (f : Mgmt → Mgmt) : Dev := { d with mgmt := f d.mgmt }

/-! ### The change log's staging area (R526) -/

/-- The 64 bytes of an entry (R524) with its index and the digest of the entry before it. -/
def logBytes (index : Nat) (prev : List Byte) (e : LogEntry) : List Byte :=
  le 4 index ++ le 4 e.time ++ [BitVec.ofNat 8 e.ty, BitVec.ofNat 8 e.lcs, 0, 0] ++ le 4 e.scrc ++
    (e.args ++ List.replicate 12 0).take 12 ++ le 4 0 ++ (prev ++ List.replicate 32 0).take 32

def logFull (d : Dev) : Bool := decide (16 ≤ d.mgmt.staged.length)

/-- The staging area in the ledger MRAM shows the staged entries in order (R556). -/
def showStaging (d : Dev) : Dev :=
  let slots := (d.mgmt.staged.take 16).zipIdx
  let m := poke d.ldg.mram 0x1000 (List.replicate 1024 0)
  let m := slots.foldl (fun m x => poke m (0x1000 + 64 * x.2) (logBytes 0 [] x.1)) m
  (d.onLdg fun l => { l with mram := m }).put WMK_LOG_STAT_STAGED (min 16 d.mgmt.staged.length)

/-- An entry is staged (R526): a request that needs one is BUSY while the area is full.  DESIGN CHOICE (log 97): the
entry of an action that no request starts and that cannot be put off (a swap that has been accepted, the releases of a
LOAD) waits behind a full area for its place. -/
def stage (ty : Nat) (args : List Byte) (d : Dev) : Dev :=
  let e : LogEntry := ⟨d.powered % 2 ^ 32, ty, d.lcs, d.get SAF_SCRC_SCRC, args⟩
  (d.onMgmt fun m => { m with staged := m.staged ++ [e] }).showStaging

/-! ### Image words of the dike processor -/

def iw (d : Dev) (k : Nat) : Nat := Table.get 0 d.dike.iw k
def qw (d : Dev) (k : Nat) : Nat := Table.get 0 d.dike.qw k
def qwOut (d : Dev) (k : Nat) : Nat := Table.get 0 d.dike.qwOut k
def timer (d : Dev) (k : Nat) : Timer := Table.get {} d.dike.timers k
def counter (d : Dev) (k : Nat) : Counter := Table.get {} d.dike.counts k
def fin (d : Dev) (x : Nat) : FieldIn := Table.get {} d.berm.ins x
def fout (d : Dev) (k : Nat) : FieldOut := Table.get {} d.berm.outs k
def onFin (d : Dev) (x : Nat) (f : FieldIn → FieldIn) : Dev :=
  d.onBerm fun b => { b with ins := Table.put {} b.ins x (f (d.fin x)) }
def onFout (d : Dev) (k : Nat) (f : FieldOut → FieldOut) : Dev :=
  d.onBerm fun b => { b with outs := Table.put {} b.outs k (f (d.fout k)) }

def wstop (d : Dev) : Bool := d.get DIKE_STATUS_STATE == 3

/-- The active bank. -/
def bank (d : Dev) : Bank := if d.flag DIKE_STATUS_BANK then d.dike.bank1 else d.dike.bank0

/-! ### Safe demand (R432, R434) -/

/-- ALL as it is to be sent. -/
def allDemand (d : Dev) : Bool :=
  d.saf.initAll || (d.qwOut 3).testBit 0 || d.flag SAF_STATUS_WDEMAND || d.flag SAF_STATUS_DSTOP

/-- Demand bits of QW4 to QW7 in the latest output phase. -/
def demandBits (d : Dev) : Nat := d.qwOut 4 + 2 ^ 32 * d.qwOut 5 + 2 ^ 64 * d.qwOut 6 + 2 ^ 96 * d.qwOut 7

/-- ALL follows its causes; a rise is passed to the mode controller (R434). -/
def refreshAll (d : Dev) : Dev :=
  let new := d.allDemand
  let rise := new && !d.flag SAF_STATUS_ALL
  let d := d.putB SAF_STATUS_ALL new
  if rise then d.onMode fun m => { m with dueSafe := true } else d

/-! ### Field conditions -/

/-- The supply state (R417): 0 NORMAL, 1 SAG, 2 OVER, 3 DROPOUT. -/
def supply (d : Dev) : Nat := d.get FLD_STATUS_SUPPLY

def supplyOk (d : Dev) : Bool := d.supply == 0

def isLamp (d : Dev) (k : Nat) : Bool := d.flag (FLD_OUT_LAMP k)

def isSafetyOut (d : Dev) (k : Nat) : Bool := d.bit DIKE_SAFEOUT_MASK k

def isSafetyIn (d : Dev) (x : Nat) : Bool := d.bit DIKE_SAFEIN_MASK x

/-- The supply group of an output, 0 LPA and 1 LPB (R408). -/
def groupOff (d : Dev) (k : Nat) : Bool :=
  if k < 8 then d.flag FLD_STATUS_GRPA_OFF else d.flag FLD_STATUS_GRPB_OFF

/-! ### Cabinet aspects (R421 to R426) -/

/-- Restriction rank (R421); NONE has none, and every aspect may follow it. -/
def cabRank (a : Nat) : Nat := 7 - a

/-- Modes that permit an aspect (R421). -/
def cabPermitted (d : Dev) (a : Nat) : Bool :=
  let m := d.effMode
  match a with
  | 0 => true
  | 1 => true
  | 2 => [4, 5, 6, 7].contains m
  | 3 => m == 3
  | 4 => [2, 8].contains m
  | _ => [2, 8, 9].contains m

def cabLit (d : Dev) (a : Nat) : Nat := d.get (CAB_ASP_LIT a)

/-- The lamps of an aspect as commanded now: lit lamps, less the flashing ones in their dark phase (R424). -/
def lampCommand (d : Dev) (a : Nat) : Nat :=
  if a < 8 then
    if d.berm.flash then d.cabLit a else d.cabLit a ^^^ (d.cabLit a &&& d.get (CAB_ASP_FLASH a))
  else 0

/-- An output's lamp state and fault as the berm reports them. -/
def lampFailed (d : Dev) (k : Nat) : Bool := d.flag (FLD_OUT_FAILED k)

/-- A lamp is unproven at its deadline (R424). -/
def lampLate (d : Dev) (k : Nat) : Bool := (d.fout k).late && d.get (FLD_OUT_LSTATE k) == 0

def anyOut (p : Nat → Bool) : Bool := (List.range 16).any p

/-- One pass of the selection (R425): the candidate, and the reason first set. -/
def cabPick (d : Dev) (shown : Nat) : Nat → Nat → Nat → Nat × Nat
  | 0, _, reason => (0, reason)
  | n + 1, cand, reason =>
    let fall (why : Nat) := d.cabPick shown n ((d.get CAB_FALLBACK_FB / 2 ^ (3 * cand)) % 8) (if reason = 0 then why else reason)
    if cand = 0 then (0, reason)
    else if !d.cabPermitted cand then fall 1
    else if cand = 7 ∧ !d.flag CAB_STATUS_ISO_OK then fall 2
    else if cand = 7 ∧ !d.supplyOk then fall 3
    else if !d.supplyOk && decide (cabRank cand < cabRank shown) then
      d.cabPick shown n shown (if reason = 0 then 3 else reason)
    else if anyOut (fun k => (d.cabLit cand).testBit k && d.isLamp k && d.lampFailed k) ||
        (cand == shown && anyOut (fun k => d.isLamp k && d.lampLate k)) then fall 4
    else (cand, reason)

/-- Whether the shown aspect meets R415 for its command on every lamp outside a switched-off group (R425). -/
def cabProven (d : Dev) (a : Nat) : Bool :=
  (List.range 16).all fun k => !d.isLamp k || d.groupOff k ||
    d.get (FLD_OUT_LSTATE k) == (if (d.lampCommand a).testBit k then 1 else 2)

/-- Source 51 is active: a FAILED lamp, or DANGER shown and not PROVEN (R629). -/
def lampBreach (d : Dev) : Bool :=
  anyOut (fun k => d.lampFailed k) || (d.get CAB_STATUS_SHOWN == 0 && !d.flag CAB_STATUS_PROVEN)

def refresh51 (d : Dev) : Dev := d.breachCond 51 d.lampBreach (d.get CAB_STATUS_REASON)

/-- The aspect shown changes (R425). -/
def cabShow (a reason : Nat) (d : Dev) : Dev :=
  let changed := a != d.get CAB_STATUS_SHOWN
  let d := (d.put CAB_STATUS_SHOWN a).put CAB_STATUS_REASON reason
  let d := d.putB CAB_STATUS_PROVEN (decide (a < 8) && d.cabProven a)
  let d := if changed then (d.inc CAB_STATUS_CHANGES).event 179 else d
  d.refresh51

/-- A lamp output is LIT_WHEN_DARK; a later refinement to BRIDGED undoes no reaction (R411). -/
def litWhenDark (d : Dev) (k : Nat) : Bool :=
  d.isLamp k && (d.get (FLD_OUT_FAULT k) == 4 || (d.get (FLD_OUT_FAULT k) == 3 && d.lampFailed k))

/-- The cabinet aspect logic selects the shown aspect (R401, R419, R421, R425). -/
def cabSelect (d : Dev) : Dev :=
  let m := d.effMode
  if d.berm.terpSilent then cabShow 8 8 d
  else if m = 0 ∨ m = 1 ∨ m = 0xA then cabShow 8 0 d
  else if d.supply = 3 then cabShow 8 7 d
  else
    let lwd := anyOut d.litWhenDark
    let start := if lwd then (0, 5) else if d.wstop then (0, 6) else (d.get CAB_STATUS_REQ, 0)
    let start := if d.wstop ∧ lwd then (0, 6) else start
    let r := d.cabPick (d.get CAB_STATUS_SHOWN) 9 start.1 start.2
    cabShow r.1 r.2 d

/-! ### Contactor channels (R438 to R440) -/

def conState (d : Dev) (j : Nat) : Nat := (d.get SAF_CONST_STATE / 2 ^ (4 * j)) % 16

def setConState (j s : Nat) (d : Dev) : Dev :=
  let v := d.get SAF_CONST_STATE
  d.put SAF_CONST_STATE (v - (v / 2 ^ (4 * j) % 16) * 2 ^ (4 * j) + s * 2 ^ (4 * j))

/-- A channel enters a fault state: CONFAULT and event 181 (R440). -/
def conFault (j s : Nat) (d : Dev) : Dev :=
  ((setConState j s d).putBit SAF_STATUS_CONFAULT j true).event 181

/-- A force holds a Q bit OFF. -/
def forcedQ (d : Dev) (k : Nat) : Option Nat :=
  (d.dike.forces.find? fun f => f.area = 1 ∧ f.addr = k).map (·.val)

/-- The command of a channel (R439, R440). -/
def conCommand (d : Dev) (j : Nat) : Bool :=
  (d.qwOut 8).testBit (d.get (SAF_CON_CSEL j)) && !d.wstop && !d.flag SAF_STATUS_DSTOP &&
    d.forcedQ (d.get (SAF_CON_OUT j)) != some 0

/-- FB shows closed; the feedback as the terp island holds it (R438). -/
def conClosed (d : Dev) (j : Nat) : Bool :=
  (d.berm.image.getD 0 0).testBit (d.get (SAF_CON_FB j)) == d.flag (SAF_CON_FBPOL j)

def conFbFault (d : Dev) (j : Nat) : Bool := (d.berm.image.getD 2 0).testBit (d.get (SAF_CON_FB j))

/-- A safety fault stands on the channel's coil output (R412). -/
def conOutFault (d : Dev) (j : Nat) : Bool :=
  let k := d.get (SAF_CON_OUT j)
  (d.fout k).latched && [2, 3].contains (d.get (FLD_OUT_FAULT k))

/-- A channel moves as its command, its feedback and the supply have it (R440). -/
def conStep (j : Nat) (d : Dev) : Dev :=
  if !d.flag (SAF_CON_EN j) then d else
  let s := d.conState j
  let cmd := d.conCommand j
  let was := Table.get false d.saf.conCmd j
  let d := d.onSaf fun x => { x with conCmd := Table.put false x.conCmd j cmd }
  if 8 ≤ s then d
  else if d.conOutFault j then conFault j 0xB d
  else if d.supply = 3 then setConState j 3 d
  else if d.conFbFault j then conFault j 0xA d
  else match s with
    | 0 => if d.conClosed j then conFault j 0xA d else if cmd && !was then setConState j 1 d else d
    | 1 => if !cmd then setConState j 3 d else if d.conClosed j then setConState j 2 d else d
    | 2 => if !cmd then setConState j 3 d else if !d.conClosed j then conFault j 0xA d else d
    | _ => if !d.conClosed j then setConState j 0 d else d

def conStepAll (d : Dev) : Dev := each [0, 1, 2, 3] conStep d

/-! ### The retention area (R543) -/

/-- Registers of a context's warm part (R185): what admission set, and the proof counters. -/
def admissionFields (c : Nat) : List Fld :=
  [CTX_ID_LO c, CTX_ID_HI c, CTX_CAP_CAP c, CTX_CAP_CRED c, CTX_CAP_NSL c, CTX_CAP_TLOSS c, CTX_ASPECT_UMAX c]

def proofFields (c : Nat) : List Fld :=
  [CTX_PROVEN c, CTX_PFAIL_REJECT c, CTX_PFAIL_LATE c, CTX_PFAIL_SILENT c, CTX_PFAIL_CONTRA c, CTX_PAUX_CELLACT c,
   CTX_PAUX_STRAY c, CTX_PAUX_MAPERR c, CTX_PAUX_OVFL c, CTX_PAUX_SUBST c, CTX_PLAST0 c, CTX_PLAST1 c]

/-- What the retention area keeps of a context. -/
def warmCell (d : Dev) (c : Nat) : WarmCell :=
  let member := d.isMember c
  let fs := (if member then admissionFields c else []) ++ proofFields c
  let regs := (fs.map fun f => (f.key, d.get f)).filter fun e => e.2 ≠ 0
  match if member then d.laneOf c else none with
  | some L =>
    let x := d.lane L
    { member := member, regs := regs, tcrx := (d.cell c).tcrx, lane := some L, rtt := x.rtt,
      dout := x.dout }
  | none => { member := member, regs := regs, tcrx := (d.cell c).tcrx }

/-- The retention area as it stands at a reset or at the entry into LOAD; until a LOAD has passed since the reset, it
stays as that reset left it (R543). -/
def takeRetained (d : Dev) : Dev :=
  if !d.mgmt.live then d else
  let cells := allCtx.foldl (fun m c => Table.put {} m c (d.warmCell c)) ([] : Table WarmCell)
  let k := d.dike
  let mret := d.get DIKE_RETAIN_MRET
  let wret := d.get DIKE_RETAIN_WRET
  let cret := d.get DIKE_CFG_CRET
  d.onMgmt fun m =>
    { m with retained := { m.retained with
        cells := cells, marks := k.marks.filter fun e => decide (e.1 < mret),
        words := k.words.filter fun e => decide (e.1 < wret), counts := k.counts.filter fun e => decide (e.1 < cret),
        edges := k.edges } }

/-! ### Starting and stopping the dike processor -/

/-- A force is released with a reason and recorded (R387, R388, R389, R397). -/
def releaseForce (reason : Nat) (f : Force) (d : Dev) : Dev :=
  let d := d.onDike fun k => { k with forces := k.forces.filter (· ≠ f) }
  let d := (d.inc DIKE_FRES_RELEASED).put DIKE_FRES_COUNT d.dike.forces.length
  let d := ((d.put DIKE_FLOG_REASON reason).put DIKE_FLOG_AREA f.area).put DIKE_FLOG_ADDR f.addr
  d.stage 3 ([BitVec.ofNat 8 f.area, 0] ++ le 2 f.addr ++ le 4 0 ++ [BitVec.ofNat 8 reason])

/-- Every force is released, and a force write that waits is given up with them. -/
def releaseForces (reason : Nat) (d : Dev) : Dev :=
  (each d.dike.forces (releaseForce reason) d).onDike fun k => { k with forceW := none, fclr := false }

/-- The program state at a start (R380): kind 0 dike restart, 1 warm restart, 2 cold restart; a scrub that fails makes
each of them cold for the whole program state (R381).  The warden lets the isolation channel run again (R378). -/
def dikeStart (kind : Nat) (d : Dev) : Dev :=
  let kind := if d.dike.cold then 2 else kind
  let mret := d.get DIKE_RETAIN_MRET
  let wret := d.get DIKE_RETAIN_WRET
  let cret := d.get DIKE_CFG_CRET
  let k := d.dike
  let marks := if kind = 2 then [] else k.marks.filter fun e => decide (e.1 < mret)
  let words := if kind = 2 then k.words0
    else (k.words0.filter fun e => decide (wret ≤ e.1)).foldl (fun m e => Table.put 0 m e.1 e.2)
      (k.words.filter fun e => decide (e.1 < wret))
  let timers := if kind = 0 then
      (List.range 128).foldl (fun m i =>
        let t := Table.get {} k.timers i
        Table.put {} m i { t with run := false, q := false, inp := false, start := 0 }) []
    else k.timers0
  let counts := (List.range 64).foldl (fun m i =>
    let c : Counter := Table.get {} k.counts i
    let c0 : Counter := Table.get {} k.counts0 i
    Table.put {} m i
      { value := if kind ≠ 2 ∧ i < cret then c.value else 0,
        preset := if kind = 0 then c.preset else c0.preset, inp := false }) []
  let d := d.onDike fun k =>
    { k with marks := marks, words := words, timers := timers, counts := counts,
             edges := if kind = 2 then [] else k.edges, qw := [], qwOut := [], stack := [], a := false, x := 0, pc := 0,
             running := false, first := true, warm := decide (kind ≠ 2), online := false, restart := false, cold := false, rseq := 0 }
  let d := d.onBerm fun b => { b with masterOff := false }
  let d := if kind = 0 then d else
    let d := (releaseForces 3 d).onDike fun k => { k with bank0 := k.image }
    ((d.clr DIKE_STATUS_BANK).clr DIKE_STATUS_ONLINE).putBit DIKE_STATUS_CHECKED 0 true
  ((d.put DIKE_STATUS_STATE 2).clr DIKE_STATUS_ARMED).clr DIKE_STATUS_SWAPPEND

/-- A stop of the processor (R378) but for its source: WSTOP, the warden's safe demand, contactor commands 0; a stall also
stops the isolation channel master. -/
def dikeHalt (cause pc : Nat) (d : Dev) : Dev :=
  let d := ((d.put DIKE_STATUS_STATE 3).put DIKE_STATUS_STOPCAUSE cause).put DIKE_STATUS_PC pc
  let d := d.onDike fun k => { k with running := false, heldAt := d.up }
  let d := if d.flag DIKE_STATUS_SWAPPEND then (d.clr DIKE_STATUS_SWAPPEND).put DIKE_STATUS_RESULT 3 else d
  let d := if cause = 2 then d.onBerm fun b => { b with masterOff := true } else d
  ((d.set SAF_STATUS_WDEMAND).refreshAll).conStepAll

/-- A stop of the processor raises source 36 (R378). -/
def dikeStop (cause pc : Nat) (d : Dev) : Dev := (dikeHalt cause pc d).breach 36 cause

end Dev

end Sys2Proof.Machine
end

