-- ==== Sys2Proof/Machine/Modes.lean ====
section
/-! DEFINITION. The mode controller (chapter 2): what entering a mode does, imposed modes (R49, R50, R434), the decision
of a mode request (R44 to R51), and the waiting transition.

Of the requests and imposed modes of one hub cycle the one that R45 prefers comes first in the queue; a request that
becomes visible in the same cycle says so, and is BUSY when the one before it ranks as high. -/

namespace Sys2Proof.Machine

open Reg

namespace Dev

/-! ### The ledger's commit (R555, R557) -/

/-- One accumulator goes into its MRAM count, which saturates. -/
def commitOne (m : Table Byte) (e : Nat × Nat) : Table Byte :=
  let off := e.1 / 16
  let size := e.1 % 16
  poke m off (le size (min (nat (peekB m off size) + e.2) (256 ^ size - 1)))

/-- The charge of a lane: whole mA·h go into CHARGE, the rest stays at full resolution (R557). -/
def commitCharge (l : Ledger) (e : Nat × Nat) : Ledger :=
  let sum := Table.get 0 l.chargeR e.1 + e.2
  let off := 0x4000 + 128 * e.1 + 4
  { l with mram := poke l.mram off (le 4 (min (nat (peekB l.mram off 4) + sum / 14400) (2 ^ 32 - 1))),
           chargeR := Table.put 0 l.chargeR e.1 (sum % 14400) }

/-- The accumulators are committed to MRAM (R555). -/
def commit (d : Dev) : Dev :=
  d.onLdg fun l =>
    let l := l.charge.foldl commitCharge { l with mram := l.acc.foldl commitOne l.mram }
    { l with acc := [], charge := [] }

/-! ### What entering a mode does -/

/-- The context is bound and gets its safe-aspect sheet at once (R50). -/
def safeAll (d : Dev) : Dev := each (allCtx.filter d.isBound) safeNow d

/-- Every bound context becomes LOST with cause MODE (R198). -/
def loseAll (d : Dev) : Dev := each (allCtx.filter d.isBound) (lose 5) d

/-- FILLDONE is cleared at each entry into FILL (R348). -/
def clearFillDone (d : Dev) : Dev := each allCtx (fun c d => d.clr (CTX_PSTAT_FILLDONE c)) d

/-- The ream sources in force: in a couch both of its sources (R258). -/
def forceSources (d : Dev) : List Nat :=
  if d.get SLU_SRC_ACTIVE = 3 then [d.get COUCH_STATUS_OUT, d.get COUCH_STATUS_IN] else [d.get SLU_SRC_ACTIVE]

/-- Target deckle of HOLD deckle 1 (R43, R50): the first deckle from the next cut-off on that no ream of the sources in
force has been accepted for. -/
def firstFree (d : Dev) (srcs : List Nat) : Nat → Nat → Nat
  | 0, m => m
  | k + 1, m => if srcs.any fun src => (d.source src).accepted.any fun e => e.1 = m then d.firstFree srcs k (m + 1) else m

/-- The couch starts at the boundary that enters COUCH (R263, R274): every BOUND context that is not in SAFEHOLD is on
the outgoing source, every other member on the incoming one.  A COUCH that a requested HOLD returns to, its BASE under
R48, starts again with its sources and its policy: DESIGN CHOICE (log 94). -/
def couchStart (d : Dev) : Dev :=
  let (inn, req) := d.couch.wait.getD (d.get COUCH_STATUS_IN, d.get COUCH_STATUS_POLICY + 1)
  -- R276, R277: a request of the default takes COUCH_CFG.POLICY as it stands now
  let pol := if req = 1 then 0 else if req = 2 then 1 else d.get COUCH_CFG_POLICY
  let out := if d.get SLU_SRC_ACTIVE = 3 then d.get COUCH_STATUS_OUT else d.get SLU_SRC_ACTIVE
  let d := (((d.put COUCH_STATUS_OUT out).put COUCH_STATUS_IN inn).put COUCH_STATUS_POLICY pol).set
    COUCH_STATUS_ACTIVE
  let d := each allCtx (fun c d =>
    d.putB (COUCH_MAP c) (d.isMember c && !(d.ctxState c == St.bound && !(d.cell c).safeHold))) d
  let d := d.onCouch fun x =>
    { x with wait := none, m1 := d.tide.n + 1, timeout := d.get COUCH_CFG_TIMEOUT, tol := d.get COUCH_CFG_TOL,
             dabtol := d.get COUCH_CFG_DABTOL, ending := none }
  (((d.clr COUCH_PROG_ELAPSED).put COUCH_PROG_REMAIN d.couchRemain).put SLU_SRC_ACTIVE 3).event 187

/-- A couch stops where it is when another mode takes COUCH away (R51, R273). -/
def couchPreempt (d : Dev) : Dev :=
  if d.flag COUCH_STATUS_ACTIVE then
    (((d.clr COUCH_STATUS_ACTIVE).put COUCH_STATUS_END 6).put SLU_SRC_ACTIVE
      (if allCtx.all (fun c => !d.isMember c || d.flag (COUCH_MAP c)) then d.get COUCH_STATUS_IN
       else if allCtx.all (fun c => !d.isMember c || !d.flag (COUCH_MAP c)) then d.get COUCH_STATUS_OUT else 3)).event 187
  else d

/-- An image write whose directory write has not begun ends (R521): RESULT ABORTED, STATE IDLE. -/
def abortWrite (d : Dev) : Dev :=
  if [1, 2, 3].contains (d.get WMK_WR_STAT_STATE) then
    (((d.put WMK_WR_CTRL_RESULT 5).clr WMK_WR_STAT_STATE).clr WMK_WR_STAT_SPACE).onMgmt fun m => { m with write := {} }
  else d

/-- The key sequence closes with a cause (R624): a KEY_CLOSE entry is staged, and an image write is aborted (R521). -/
def keyClose (cause : Nat) (d : Dev) : Dev :=
  if d.flag GLB_KEY_STAT_OPEN then
    let d := d.abortWrite
    ((((d.clr GLB_KEY_STAT_OPEN).clr GLB_KEY_STAT_STEP).clr GLB_KEY_STAT_IDLE).put GLB_KEY_STAT_CAUSE cause).stage 0xC
      [BitVec.ofNat 8 cause]
  else d.clr GLB_KEY_STAT_STEP

/-- The interpreter starts a FIC program (R534, R538, R542): 1 start-up, 2 test. -/
def ficStart (prog : Nat) (d : Dev) : Dev :=
  let d := { d with fic := { d.fic with prog := prog, regs := [], f := false, pc := 0, wait := .none, since := d.up } }
  (d.put GLB_START_FRES 1).put DIKE_STATUS_STATE 1

/-- DARK imposed while the start-up program runs ends it (R542). -/
def ficAbort (d : Dev) : Dev :=
  if d.fic.prog = 0 then d
  else ({ d with fic := { d.fic with prog := 0, wait := .none } }.put GLB_START_FRES 6).put DIKE_STATUS_STATE 0

/-- A sluice lane's link state; a change raises event 185 (R221). -/
def setSluState (k s : Nat) (d : Dev) : Dev :=
  if d.get (SLU_LINK_STATE k) = s then d else (d.put (SLU_LINK_STATE k) s).event 185

/-- The sources of the sluice lanes that are out of sync (R629, sources 25 and 26). -/
def refreshSluice (d : Dev) : Dev :=
  d.breachConds ([0, 1].map fun k => (25 + k,
    d.sluEnabled k && d.get (SLU_LINK_STATE k) != 2 && [3, 4, 5, 6, 7].contains d.effMode, d.get (SLU_LINK_LCAUSE k)))

/-- The islands whose clocks pass their monitors show it (R23); TERP_OK also while the check is suspended (R22).  In
LOAD the clocks come up with the first strobe (step 1 of R532). -/
def clocksUp (d : Dev) : Dev :=
  let ok (i : Nat) : Bool := !d.brch.clk.testBit i
  let d := each allPolders (fun p d => d.putBit GLB_ISLAND_POLDER_OK p (ok p && !d.inBist p)) d
  let d := (d.putB GLB_ISLAND_HUB_OK (ok 8)).putB GLB_ISLAND_MGMT_OK (ok 9)
  (d.putB GLB_ISLAND_TIDE_OK (!d.flag TIDE_STATUS_HOLDOVER)).putB GLB_ISLAND_TERP_OK
    (!d.flag TIDE_STATUS_LOCKSENSE || !d.brch.cond.testBit 37)

/-- The filter is emptied (R80): ranging starts again from empty. -/
def emptyFilter (L : Nat) (d : Dev) : Dev :=
  ((d.onLane L fun x => { x with samples := [], disc := 0, fresh := false }).clr (LANE_DOUT_VALID L)).clr
    (LANE_DOUT_SETTLING L)

/-- CTX_PEND shows the head entry of the host queue (R191). -/
def showQueue (d : Dev) : Dev :=
  let q := d.survey.queue
  let a : Applicant := q.headD ⟨0, 0, 0, 0, 0, 0, 0⟩
  let d := d.put2 CTX_PEND_LO CTX_PEND_HI a.id
  ((d.put CTX_PEND_INFO_DEPTH q.length).putB CTX_PEND_INFO_VALID (q != [])).put CTX_PEND_INFO_LANE a.lane

/-- The entries of a lane leave the queue (R191); `removed` tells whether the head entry was one of them (R192). -/
def dequeueLane (L : Nat) (d : Dev) : Dev :=
  (d.onSurvey fun s =>
    { s with queue := s.queue.filter (·.lane ≠ L),
             removed := match s.queue with
               | a :: _ => a.lane == L
               | [] => false }).showQueue

/-- At every LOAD the map version is 0 and no version is pending (R195); its members are the LOST contexts. -/
def resetMap (d : Dev) : Dev :=
  let d := each allCtx (fun c d =>
    ((d.putB (CTX_MEMBER c) (d.ctxState c == St.lost)).clr (CTX_MEMBER_PEND c)).onCell c fun x =>
      { x with want := false, changed := false, inPend := false }) d
  (((d.clr CTX_MAPVER_CUR).clr CTX_MAPVER_PEND).clr CTX_MAPVER_PVALID).clr CTX_MAPVER_WAITING

/-- What the survey, the sluice port and the lanes keep of a run ends with it, since the deckle numbers start anew
(R60): the host queue (R191), reams and their cut-offs (R233, R630), the count of deckles between RANGE requests. -/
def clearRun (d : Dev) : Dev :=
  let d := ({ d with slu := {}, survey := {} }.showQueue).resetMap
  each allLanes (fun L d => d.onLane L fun x => { x with rangeAt := none, fdAt := none }) d

/-- Every receiver is off in LOAD (R41). -/
def receiversOff (d : Dev) : Dev :=
  each allLanes (fun L d =>
    let x := (d.lane L).rx
    -- R109: a frame that is open or suspended is discarded
    let d := (d.add (LANE_ERR_CRC L) (x.cur.toList ++ x.wait).length).onLane L fun y => { y with rx := {} }
    let d := (((d.clr (LANE_LINK_SYNC L)).clr (LANE_LINK_LOS L)).clr (LANE_LINK_STATE L)).clr (LANE_LINK_RSSI L)
    if d.ctxOfLane L = none then d.emptyFilter L else d) d

/-- Every receiver is on outside LOAD (R41). -/
def receiversOn (d : Dev) : Dev :=
  each allLanes (fun L d => if d.get (LANE_LINK_STATE L) = 0 then d.put (LANE_LINK_STATE L) 1 else d) d

/-- TIDE_PERIOD reads TIDE_NOM while no deckle has run since the latest LOAD (R63). -/
def showPeriod (d : Dev) : Dev :=
  if d.running then d else (d.put TIDE_PERIOD_LO (d.get TIDE_NOM_LO)).put TIDE_PERIOD_HI_HI (d.get TIDE_NOM_HI_HI)

/-- A device in the SLAVE role, in the MASTER role. -/
def slave (d : Dev) : Bool := d.get TIDE_SYNC_ROLE == 2
def master (d : Dev) : Bool := d.get TIDE_SYNC_ROLE == 1

/-- Source 28 (R629): a slave that is not LOCKED; a master from the fourth failed ECHO of a slave in succession. -/
def refresh28 (d : Dev) : Dev :=
  let stands := if d.slave then d.get TIDE_STATUS_SYNC != 3
    else d.master && [1, 2, 3].any fun k => decide (4 ≤ (Table.get {} d.tide.peers k : Peer).fails)
  d.breachCond 28 stands (d.get TIDE_STATUS_SYNC)

def setSync (s : Nat) (d : Dev) : Dev := (d.put TIDE_STATUS_SYNC s).refresh28

/-- A SLAVE begins to acquire the tideline of its MASTER when it starts the tide link (R68, R88). -/
def acquire (d : Dev) : Dev :=
  let d := d.onTide fun t => { t with goodRun := 0, missRun := 0, inc := 65536, awaiting := none, polled := none }
  setSync (if d.slave then 1 else 0) d

/-- Entry into RAISE (R60, R534, R220): B(0) and P(0), the sluice port, the FIC start-up program. -/
def enterRaise (d : Dev) : Dev :=
  let step := ns 1024
  let b0 := (d.now + step - 1) / step * step
  let d := d.onTide fun t => { t with bs := [], n := 0, nextB := some b0, p := d.nominal, cut := 0, gAcc := 0, gK := 0,
                                      gN := d.get TIDE_GPH_N, gInc := d.get TIDE_GPH_INC, jump := false, gangAt := [] }
  let d := ((d.clr TIDE_DECKLE).clr TIDE_GPH_INDEX).showPeriod.acquire
  let d := each [0, 1] (fun k d =>
    setSluState k (if d.sluEnabled k then 1 else 0) (d.setSluLane k {})) d
  ficStart 1 d

/-- RAISE is left for SURVEY (R534, R553): bank 1 is cleared and becomes the inactive bank. -/
def leaveRaise (d : Dev) : Dev :=
  ((d.onDike fun k => { k with bank1 := {} }).putBit DIKE_STATUS_CHECKED 1 false)

/-- A polder test runs, or waits for its reinitialisation. -/
def polderBusy (d : Dev) (p : Nat) : Bool := (d.bist.run ++ d.bist.reinit).any fun t => decide (t < 48) && t / 6 == p

/-- A polder leaves BIST when its queue holds no further test of it and its reinitialisation is complete (R483); a fault
condition of its lanes that the collector has not seen is then raised (R456, R458). -/
def leaveBist (p : Nat) (d : Dev) : Dev :=
  if d.inBist p && !d.polderBusy p && !(d.bist.queue.any fun t => decide (t < 48) && t / 6 == p) then
    let d := ((d.putBit BIST_STATUS_POLDERS p false).putBit GLB_ISLAND_POLDER_OK p (!d.brch.clk.testBit p)).put
      (PLD_CTRL_STATE p) 0
    if d.brch.on && d.brch.cond.testBit (16 + p) && !d.flag (BRCH_PIN (16 + p)) then
      (d.set (BRCH_PIN (16 + p))).breach (16 + p) 0
    else d
  else d

/-- The running tests end TRUNCATED and the queue empties (R485): a polder test's block is to be reinitialised. -/
def bistCut (d : Dev) : Dev :=
  let b := d.bist
  let d := each b.run (fun t d =>
    let (n, d) := d.draw
    let (g, d) := d.draw
    (((d.put (BIST_TSTAT_RESULT t) 3).put (BIST_TCNT_COUNT t) n.toNat).put (BIST_TSIG_SIG t) g.toNat).event 189) d
  let d := each b.queue (fun t d => d.put (BIST_TSTAT_RESULT t) 0) d
  let d := { (d.clr BIST_STATUS_QUEUE).put BIST_STATUS_NONPOLDER 0x3F with
    bist := { b with queue := [], run := [], reinit := b.reinit ++ b.run } }
  each allPolders leaveBist d

/-- The ledger at the entry into LOAD (R555, R563): commit, LOAD count, and a scrub when the interval has passed. -/
def ledgerLoad (d : Dev) : Dev :=
  let d := (d.commit).count 12 4 1
  if d.ldg.scrub = none ∧ d.ldg.scrubAt + 31536000 ≤ d.powered then
    (d.onLdg fun l => { l with scrub := some 0 }).set LDG_STATUS_SCRUB
  else d

/-- Entry into LOAD (R41, R389, R432, R543, R553, R555, R624); the run permit and a latched direct stop stay (R437,
R446, R447). -/
def enterLoad (d : Dev) : Dev :=
  let d := (releaseForces 3 (d.loseAll.takeRetained.keyClose 4)).abortWrite.receiversOff.clearRun
  let d := d.onMgmt fun m => { m with loadAt := d.up }
  let d := d.ledgerLoad
  let d := (d.onTide fun t => { t with bs := [], n := 0, nextB := none, cut := 0, jump := false, gangAt := [] }).showPeriod
  let d := d.onDike fun k => { k with running := false, restart := false }
  let d := (d.put DIKE_STATUS_STATE 0).clr DIKE_STATUS_ARMED
  let d := { d with fic := { d.fic with prog := 0, wait := .none } }
  let d := d.onSaf fun s =>
    { s with initAll := true, seqOk := false, copy := none, portSeq := [], press := none, sawOff := false }
  let d := (d.clr SAF_STATUS_WDEMAND).onDike fun k => { k with qwOut := [] }
  let d := (d.onBerm fun b => { b with masterOff := false }).set SAF_STATUS_ALL
  let d := each allPolders (fun p d => d.onPolder p fun x => { x with demandAll := true, initial := true }) d
  each [0, 1] (fun k d => setSluState k 0 d) d

/-- The runs under way end: no program runs in LOAD, RAISE, TEST or DARK (R324). -/
def stopRuns (d : Dev) : Dev :=
  each allPolders (fun p d =>
    if (d.polder p).run = none then d
    else
      let d := d.onPolder p fun x => { x with run := none }
      if d.get (PLD_CTRL_STATE p) = 1 then d.put (PLD_CTRL_STATE p) 0 else d) d

/-- Entry into SURVEY (R380, R534, R543): the dike program starts. -/
def intoSurvey (old : Nat) (d : Dev) : Dev :=
  let d := (d.set GLB_START_WVALID).onMgmt fun m => { m with retained := { m.retained with wvalid := true } }
  let d := if old = 1 then d.leaveRaise else d
  if d.get DIKE_STATUS_STATE = 0 ∨ d.get DIKE_STATUS_STATE = 1 then
    dikeStart (if d.get GLB_START_KIND = 2 then 1 else 2) d
  else d

/-- Entry into HOLD (R43, R50); in FILL no accepted ream is applied (R42), so none delays an imposed HOLD. -/
def intoHold (old cause : Nat) (park : Bool) (d : Dev) : Dev :=
  let m := if 4 ≤ cause ∧ cause ≤ 6 ∧ old ≠ 3 then d.firstFree d.forceSources 8 d.nextCut else d.nextCut
  d.onMode fun x => { x with parked := park, holdM := m }

/-- Entry into DARK (R198, R546, R555). -/
def intoDark (cause : Nat) (d : Dev) : Dev :=
  ((d.loseAll.commit).put GLB_MODE_DCAUSE cause).onMode fun x => { x with darkAt := d.up }

/-- What the entry into each mode does. -/
def entering (old new cause : Nat) (park : Bool) (d : Dev) : Dev :=
  if new = 0 then d.enterLoad
  else if new = 1 then d.enterRaise
  else if new = 2 then d.intoSurvey old
  else if new = 3 then d.clearFillDone
  else if new = 6 then d.couchStart
  else if new = 7 then d.intoHold old cause park
  else if new = 8 then d.safeAll
  else if new = 9 then d.intoDark cause
  else if new = 0xA then ficStart 2 d.loseAll
  else d

/-- What the lanes, sheets and programs do when the mode they show changes from `old` to `new`. -/
def showMode (old new cause : Nat) (park : Bool) (d : Dev) : Dev :=
  let d := if old = 0 then d.clocksUp.receiversOn else d
  let d := entering old new cause park d
  -- R553: duration of RAISE in 0.1 ms
  let d := if old = 1 then d.put GLB_START_T_RAISET (min 0xFFFF ((d.up - d.fic.since) / 100000)) else d
  let d := if old = 0xA then d.bistCut else d
  let d := if old = 6 ∧ new ≠ 6 ∧ cause ≠ 8 then d.couchPreempt else d
  let d := if new = 9 ∧ d.fic.prog ≠ 0 then d.ficAbort else d
  let d := if [0, 1, 9, 0xA].contains new then d.stopRuns else d
  d.refreshSluice.cabSelect

/-- The device makes a transition (R47, R48): PREV, MODE and CAUSE are written and event 191 is raised; COUCH, HOLD and
SERVICE keep the mode they leave, but the HOLD of level 2 keeps the base of the couch that it stops (R51); a waiting
transition is taken or replaced. -/
def enter (m cause : Nat) (park : Bool) (d : Dev) : Dev :=
  let old := d.get GLB_MODE_MODE
  let base := d.get GLB_MODE_BASE
  let shown := d.effMode
  let d := (((d.put GLB_MODE_PREV old).put GLB_MODE_MODE m).put GLB_MODE_CAUSE cause).put GLB_MODE_PENDING 0xF
  let d :=
    if m = 0xB then
      let d := if old = 7 then d.onMode fun x => { x with holdBase := base } else d
      d.put GLB_MODE_BASE old
    else if m = 6 then d.put GLB_MODE_BASE old
    else if m = 7 then
      if old = 0xB then d.put GLB_MODE_BASE d.mode.holdBase
      else if old = 6 ∧ cause = 4 then d
      else d.put GLB_MODE_BASE old
    else d
  let d := (d.event 191).set EVT_STATUS_LINKOK
  let new := d.effMode
  if new = shown then d else showMode shown new cause park d

/-- A FIC program ends with a result of FRES (R542): in RAISE, SUCCESS leads to SURVEY, or to TEST when its END asks
for it and the life-cycle state admits it, and any other end to DARK with cause 0xB; in TEST every end leads to LOAD. -/
def ficFinish (result : Nat) (toTest : Bool) (d : Dev) : Dev :=
  if d.fic.prog = 0 then d else
  let test := toTest && decide (d.lcs < 2)
  let result := if toTest && !test then 3 else result
  let prog := d.fic.prog
  let d := ({ d with fic := { d.fic with prog := 0, wait := .none } }.put GLB_START_FRES result).put DIKE_STATUS_STATE 0
  if prog = 2 then enter 0 0xC false (d.put GLB_START_SRC 3)
  else if test then enter 0xA 0 false d
  else if result = 2 then enter 2 0 false d
  else enter 9 0xB false d

/-- A breach level or a safe demand changes the base while the device is in SERVICE (R48, R49). -/
def enterBase (m cause : Nat) (d : Dev) : Dev :=
  let old := d.get GLB_MODE_BASE
  let d := if m = 7 then d.onMode fun x => { x with holdBase := if old = 6 then x.holdBase else old } else d
  let d := ((d.put GLB_MODE_BASE m).put GLB_MODE_CAUSE cause).event 191
  showMode old m cause false (d.set EVT_STATUS_LINKOK)

/-! ### Imposed modes -/

/-- The mode that a level imposes on a mode (R49). -/
def imposed (level mode : Nat) : Option Nat :=
  if mode = 9 then none
  else match level with
    | 2 => if mode = 3 ∨ mode = 4 ∨ mode = 5 ∨ mode = 6 then some 7 else none
    | 3 => if mode = 0 ∨ mode = 1 ∨ mode = 0xA then some 9 else if mode = 8 then none else some 8
    | 4 => some 9
    | _ => none

/-- A change of the base in SERVICE replaces a waiting transition (R46).  DEDUCED (log 95): the exit that a closed key
sequence has started (R56) still takes place, to the new base. -/
def replaceBase (m : Nat) (d : Dev) : Dev :=
  d.put GLB_MODE_PENDING (if d.get GLB_MODE_PENDING ≠ 0xF ∧ d.mode.pendCause = 9 then m else 0xF)

/-- Ranks of R45. -/
def rank (m : Nat) : Nat := if m = 9 then 4 else if m = 8 then 3 else if m = 7 then 2 else 1

/-- The mode of a level's own name: HOLD, SAFE, DARK. -/
def levelMode (level : Nat) : Nat := level + 5

/-- A level acts on the mode, in SERVICE on the base (R49); it replaces a waiting transition (R46).  The rank of the
imposed mode is kept for R51, also of a mode that stands already. -/
def impose (level : Nat) (d : Dev) : Dev :=
  let cause := level + 2
  let mode := d.effMode
  match imposed level mode with
  | some m =>
    let d := d.onMode fun x => { x with imposed := max x.imposed (rank m), cycle := rank m }
    if d.get GLB_MODE_MODE = 0xB then enterBase m cause (d.replaceBase m) else enter m cause false d
  | none => if mode = levelMode level then d.onMode fun x => { x with imposed := max x.imposed level } else d

/-- A rise of ALL imposes SAFE with cause 0x7 (R434). -/
def imposeSafe (d : Dev) : Dev :=
  if [2, 3, 4, 5, 6, 7].contains d.effMode then
    let d := d.onMode fun x => { x with cycle := rank 8 }
    if d.get GLB_MODE_MODE = 0xB then enterBase 8 7 (d.replaceBase 8) else enter 8 7 false d
  else d

/-- What has been reached and not yet imposed is imposed: the mode of highest rank first (R45), a safe demand, which has
lines of its own (R11), before a level of equal rank. -/
def settleOnce (d : Dev) : Dev :=
  let lvl := d.mode.due
  let safe := d.mode.dueSafe
  let d := d.onMode fun x => { x with due := 0, dueSafe := false }
  let d := if lvl = 4 then impose 4 d else d
  let d := if safe then imposeSafe d else d
  if lvl = 2 ∨ lvl = 3 then impose lvl d else d

/-- One round of `settle`. -/
def settleStep (d : Dev) : Dev := if d.mode.due = 0 ∧ d.mode.dueSafe = false then d else settleOnce d

/-- Imposed modes take effect in the hub cycle that reached them; an entry may itself reach a higher level, which is
imposed in turn, and a level rises at most from 2 over 3 to 4.  A core die in reset imposes nothing. -/
def settle (d : Dev) : Dev :=
  (if d.awake then settleStep (settleStep (settleStep d)) else d).onMode fun x => { x with due := 0, dueSafe := false }

/-! ### Requests -/

/-- The rank of the imposed mode while a level of 2 or more stands (R50, R51); 0 where R49 has imposed none. -/
def imposedRank (d : Dev) : Nat := if 2 ≤ d.get BRCH_STATUS_LEVEL then d.mode.imposed else 0

/-- Requesters: 1 host, 2 control engine, 3 dike program.  Their codes are the causes of R37. -/
def permitted (d : Dev) (who target : Nat) : Bool :=
  match who with
  | 1 => decide (target < 12)
  | 2 => d.flag GLB_MODE_CFG_ENG_REQ && [7, 4, 5, 8].contains target
  | 3 => d.flag GLB_MODE_CFG_DIKE_REQ && [3, 4, 5, 7, 8, 9].contains target
  | _ => false

/-- A row of the transition table (R47) for a request: whether the row exists, whether it takes effect at once, and
whether its guard holds.  Two rows fit a host request in SERVICE for a BASE that is SAFE or DARK: DEDUCED (log 96), it
is the exit to BASE, at a boundary, and not the immediate one. -/
def row (d : Dev) (who target : Nat) : Option (Bool × Bool) :=
  let m := d.get GLB_MODE_MODE
  let base := d.get GLB_MODE_BASE
  let host := who == 1
  if m = 0xB ∧ host ∧ target = base then some (false, true)
  else if m = 2 ∧ target = 3 then
    some (false, d.breachClear && d.requiredReady && d.flag TIDE_STATUS_LOCKSENSE)
  else if m = 3 ∧ target = d.get GLB_MODE_CFG_RUN_MODEL ∧ (target = 4 ∨ target = 5) then
    some (false, d.breachClear && (allCtx.all fun c => !d.isBound c || d.prechargeDone c) &&
      d.validReams (d.get SLU_SRC_ACTIVE) 8 && (target != 4 || d.lockstepGuard))
  else if m = 4 ∧ target = 5 then some (false, true)
  else if m = 5 ∧ target = 4 then some (false, d.lockstepGuard)
  else if (m = 3 ∨ m = 4 ∨ m = 5 ∨ m = 6) ∧ target = 7 then some (false, true)
  else if m = 7 ∧ target = base then
    some (false, d.breachClear && d.validReams (d.get SLU_SRC_ACTIVE) 2 && (target != 4 || d.lockstepGuard))
  else if m = 8 ∧ target = 3 then
    some (false, d.breachClear && !d.flag SAF_STATUS_ALL && !d.flag FLD_STATUS_DROPLATCH)
  else if m = 8 ∧ target = 2 then some (false, d.breachClear && !d.flag SAF_STATUS_ALL)
  else if m = 9 ∧ target = 2 then
    some (false, d.breachClear && decide (d.mode.darkAt + 1000000 ≤ d.up) && !d.wstop)
  else if (m = 2 ∨ m = 8 ∨ m = 9) ∧ host ∧ target = 0xA then
    some (true, allCtx.all fun c => !d.isBound c)
  else if m = 0xA ∧ host ∧ target = 0 then some (true, true)
  else if [2, 3, 4, 5, 7, 8, 9].contains m ∧ host ∧ target = 0xB then some (false, d.flag GLB_KEY_STAT_OPEN)
  else if target = 8 ∧ [2, 3, 4, 5, 6, 7, 0xB].contains m then some (true, true)
  else if target = 9 ∧ m ≠ 9 then some (true, true)
  else none

/-- Results of R36. -/
abbrev Rs.accepted : Nat := 1
abbrev Rs.busy : Nat := 2
abbrev Rs.guard : Nat := 3
abbrev Rs.breach : Nat := 4
abbrev Rs.path : Nat := 5
abbrev Rs.lcs : Nat := 6
abbrev Rs.perm : Nat := 7

/-- The decision of a mode request by the first row of R51 that fails. -/
def decideMode (d : Dev) (who target : Nat) : Nat :=
  if !d.permitted who target then Rs.perm
  else if d.get GLB_MODE_PENDING ≠ 0xF ∧ rank target ≤ rank (d.get GLB_MODE_PENDING) then Rs.busy
  else if target = 0xA ∧ 2 ≤ d.lcs then Rs.lcs
  else if d.lcs = 3 ∧ (target = 0xB ∨ d.get GLB_MODE_MODE = 9) ∧ (d.row who target).isSome then Rs.lcs
  else match d.row who target with
    | none => Rs.path
    | some (_, guard) =>
      if 2 ≤ d.get BRCH_STATUS_LEVEL ∧ rank target < d.imposedRank then Rs.breach
      else if guard then Rs.accepted else Rs.guard

/-- A transition is accepted: at once, or waiting for its boundary when a deckle runs (R47). -/
def accept (target cause : Nat) (park now : Bool) (d : Dev) : Dev :=
  if now || !d.running then enter target cause park d
  else (d.put GLB_MODE_PENDING target).onMode fun x =>
    { x with pendAt := d.now, pendCause := cause, pendPark := park }

/-- A request that becomes visible in the hub cycle of an earlier one, or of an imposed mode, that ranks at least as
high (R45). -/
def outranked (d : Dev) (same : Bool) (target : Nat) : Bool :=
  same && d.mode.cycle != 0 && decide (rank target ≤ d.mode.cycle)

/-- What R45 has applied in this hub cycle, for the requests of the same cycle that follow. -/
def noteCycle (same : Bool) (target : Nat) (d : Dev) : Dev :=
  d.onMode fun x => { x with cycle := max (if same then x.cycle else 0) (rank target) }

/-- A mode request is decided and, when accepted, takes its course; `same` tells that it becomes visible in the hub
cycle of the request or imposed mode before it (R45). -/
def request (who target : Nat) (park same : Bool) (d : Dev) : Nat × Dev :=
  if d.outranked same target then (Rs.busy, d) else
  let r := d.decideMode who target
  let d := noteCycle same target d
  if r = Rs.accepted then
    (r, accept target who (park && target == 7) (match d.row who target with | some (now, _) => now | none => false) d)
  else (r, d)

/-- A key sequence that has closed leaves SERVICE at the next boundary that is at least 2 µs away (R47, R56).  DEDUCED
(log 95): an entry into SERVICE that still waits for its boundary is given up, since its guard no longer holds. -/
def leaveService (d : Dev) : Dev :=
  if d.get GLB_MODE_MODE = 0xB then
    if d.running then (d.put GLB_MODE_PENDING (d.get GLB_MODE_BASE)).onMode fun x =>
      { x with pendAt := d.now, pendCause := 9, pendPark := false }
    else enter (d.get GLB_MODE_BASE) 9 false d
  else if d.get GLB_MODE_PENDING = 0xB then d.put GLB_MODE_PENDING 0xF else d

end Dev

/-- Of equal messages only the last one stays. -/
def lastMessages : List Out → List Out
  | [] => []
  | .msix v :: os => if os.contains (.msix v) then lastMessages os else .msix v :: lastMessages os
  | o :: os => o :: lastMessages os

/-- What one command raises, it raises in one hub cycle: one message goes out for each vector (R567). -/
def Dev.oneMessage (old new : Dev) : Dev :=
  { new with out := new.out.take old.out.length ++ lastMessages (new.out.drop old.out.length) }

/-- The state after a command that does `f` to the device: imposed modes take effect (R49, R434), the pins follow, and
the queue stays. -/
def State.after (s : State) (f : Dev → Dev) : State :=
  { s with dev := (s.dev.oneMessage (f s.dev).settle).showPins }

/-- The command has the effect `f` on the device; while the core die is in reset it has none (R582, R583). -/
def State.next (s : State) (f : Dev → Dev) : Host.Outcome State Fault Refusal :=
  .next (if s.dev.awake then s.after f else s)

/-- A command of the supplies, the clocks, the reset pins or the berm, which has its own supply and reset (R581): it acts
whether or not the core die is in reset. -/
def State.nextAlways (s : State) (f : Dev → Dev) : Host.Outcome State Fault Refusal := .next (s.after f)

end Sys2Proof.Machine
end

