-- ==== Sys2Proof/Machine/Dike.lean ====
section
/-! DEFINITION. The dike processor (chapter 11): its phases, the Porius instructions, the warden, on-line change and
forces.

An instruction command carries bits [23:0] of its word; OP is the command itself.  It acts while the program phase runs
and takes the processor's own program counter. -/

namespace Sys2Proof.Machine

open Reg

namespace Dev

/-! ### Operands (R367) -/

/-- Bits of an instruction word (R368). -/
def pArea (w : BitVec 24) : Nat := w.toNat / 2 ^ 20
def pSub (w : BitVec 24) : Nat := w.toNat / 2 ^ 16 % 16
def pOpnd (w : BitVec 24) : Nat := w.toNat % 2 ^ 16

/-- Sizes of the areas (R367). -/
def areaSize (a : Nat) : Nat :=
  match a with
  | 0 => 2048 | 1 => 1024 | 2 => 8192 | 3 => 2048 | 4 => 128 | 5 => 64 | 6 => 64 | 7 => 32 | 8 => 2048 | _ => 0

/-- The terp island's microsecond count as the timers see it (R372); it stands still while the processor is stopped
(R378). -/
def micros (d : Dev) : Nat := (if d.wstop then d.dike.heldAt else d.up) / 1000

/-- A force on an address of an area. -/
def forceAt (d : Dev) (area addr : Nat) : Option Nat :=
  (d.dike.forces.find? fun f => f.area = area ∧ f.addr = addr).map (·.val)

/-- What LW reads of a timer (R372) and of a counter (R373). -/
def timerElapsed (d : Dev) (k : Nat) : Nat :=
  let t := d.timer k
  if t.run then min ((d.micros - t.start) / t.base) t.pt else if t.q then t.pt else 0

/-- The addressed bit (R367, R373). -/
def readBit (d : Dev) (a k : Nat) : Bool :=
  match a with
  | 0 => (d.iw (k / 32)).testBit (k % 32)
  | 1 => (d.qw (k / 32)).testBit (k % 32)
  | 2 => Table.get false d.dike.marks k
  | 4 => (d.timer k).q
  | _ => decide ((d.counter k).preset ≤ (d.counter k).value)

/-- The addressed word. -/
def readWord (d : Dev) (a k : Nat) : Nat :=
  match a with
  | 6 => d.iw k
  | 7 => d.qw k
  | 8 => Table.get 0 d.dike.words k
  | 4 => d.timerElapsed k
  | _ => (d.counter k).value

def withBit (w i : Nat) (b : Bool) : Nat :=
  if w.testBit i = b then w else if b then w + 2 ^ i else w - 2 ^ i

/-- A store to a Q bit or a marker; a forced marker keeps its value (R387). -/
def writeBit (a k : Nat) (b : Bool) (d : Dev) : Dev :=
  if a = 1 then
    d.onDike fun x => { x with qw := Table.put 0 x.qw (k / 32) (withBit (Table.get 0 x.qw (k / 32)) (k % 32) b) }
  else if d.forceAt 2 k ≠ none then d
  else d.onDike fun x => { x with marks := Table.put false x.marks k b }

/-- A store to a word, or to the preset of a timer or counter; a forced word keeps its value (R369, R387). -/
def writeWord (a k v : Nat) (d : Dev) : Dev :=
  match a with
  | 7 => d.onDike fun x => { x with qw := Table.put 0 x.qw k v }
  | 8 => if d.forceAt 8 k ≠ none then d else d.onDike fun x => { x with words := Table.put 0 x.words k v }
  | 4 => d.onDike fun x => { x with timers := Table.put {} x.timers k { d.timer k with pt := v % 65536 } }
  | _ => d.onDike fun x => { x with counts := Table.put {} x.counts k { d.counter k with preset := v % 65536 } }

/-! ### Issuing an instruction -/

/-- The instruction's cycles are spent and the program counter moves on; reaching PLEN stops the processor (R375). -/
def dikeAdvance (cycles next : Nat) (d : Dev) : Dev :=
  let pc := d.dike.pc
  let d := d.onDike fun k => { k with cycles := k.cycles + cycles, pc := next }
  if d.bank.plen ≤ next then dikeStop 5 pc d else d

/-- The stop that an instruction's area, SUB and operand call for (R369, R374, R375). -/
def dikeBad (areas : List Nat) (w : BitVec 24) : Option Nat :=
  if pSub w ≠ 0 then some 3
  else if areas = [] then (if pArea w ≠ 0 then some 3 else none)
  else if !areas.contains (pArea w) then some 3
  else if areaSize (pArea w) ≤ pOpnd w then some 4
  else none

/-- An instruction with permitted areas, cycles and an effect on the accumulators and the memory. -/
def dikeOp (areas : List Nat) (cycles : Nat) (w : BitVec 24) (f : Dev → Dev) (d : Dev) : Dev :=
  if !d.dike.running then d else
  match dikeBad areas w with
  | some cause => dikeStop cause d.dike.pc d
  | none => dikeAdvance cycles (d.dike.pc + 1) (f d)

def setA (b : Bool) (d : Dev) : Dev := d.onDike fun k => { k with a := b }
def setX (v : Word) (d : Dev) : Dev := d.onDike fun k => { k with x := v }

/-- Areas of the bit instructions, the stores and the word instructions. -/
def bitAreas : List Nat := [0, 1, 2, 4, 5]
def storeAreas : List Nat := [1, 2]
def wordAreas : List Nat := [6, 7, 8]
def cmpAreas : List Nat := [6, 7, 8, 4, 5]

/-- A logic instruction: A becomes a function of A and the addressed bit. -/
def dikeBit (f : Bool → Bool → Bool) (w : BitVec 24) : Dev → Dev :=
  dikeOp bitAreas 1 w fun d => d.setA (f d.dike.a (d.readBit (pArea w) (pOpnd w)))

/-- A store instruction: the bit to store, if any. -/
def dikeStore (f : Bool → Option Bool) (w : BitVec 24) : Dev → Dev :=
  dikeOp storeAreas 1 w fun d =>
    match f d.dike.a with
    | some b => writeBit (pArea w) (pOpnd w) b d
    | none => d

/-- An arithmetic instruction on X. -/
def dikeWord (f : Word → Word → Word) (w : BitVec 24) : Dev → Dev :=
  dikeOp wordAreas 2 w fun d => d.setX (f d.dike.x (BitVec.ofNat 32 (d.readWord (pArea w) (pOpnd w))))

/-- A comparison of X. -/
def dikeCmp (f : Word → Word → Bool) (w : BitVec 24) : Dev → Dev :=
  dikeOp cmpAreas 2 w fun d => d.setA (f d.dike.x (BitVec.ofNat 32 (d.readWord (pArea w) (pOpnd w))))

/-- An edge instruction (R371). -/
def dikeEdge (f : Bool → Bool → Bool) (w : BitVec 24) : Dev → Dev :=
  dikeOp [3] 2 w fun d =>
    let a := d.dike.a
    let e := Table.get false d.dike.edges (pOpnd w)
    let first := (d.iw 7).testBit 16
    (d.setA (if first then false else f a e)).onDike fun k => { k with edges := Table.put false k.edges (pOpnd w) a }

/-- The timer has run out (R372). -/
def timerOut (now : Nat) (t : Timer) : Bool := decide (t.pt * t.base ≤ now - t.start)

/-- A timer instruction: the timer's new RUN, start and Q; then the input is stored and A := Q (R372). -/
def dikeTimer (f : Nat → Bool → Timer → Timer) (w : BitVec 24) : Dev → Dev :=
  dikeOp [4] 4 w fun d =>
    let t := f d.micros d.dike.a (d.timer (pOpnd w))
    let t := { t with inp := d.dike.a }
    (d.onDike fun k => { k with timers := Table.put {} k.timers (pOpnd w) t }).setA t.q

def stepTon (now : Nat) (a : Bool) (t : Timer) : Timer :=
  if !a then { t with run := false, q := false }
  else
    let t := if t.run then t else { t with run := true, start := now }
    if timerOut now t then { t with q := true } else t

def stepTof (now : Nat) (a : Bool) (t : Timer) : Timer :=
  if a then { t with run := false, q := true }
  else
    let t := if t.q && !t.run then { t with run := true, start := now } else t
    if t.run && timerOut now t then { t with run := false, q := false } else t

def stepTp (now : Nat) (a : Bool) (t : Timer) : Timer :=
  let t := if a && !t.inp && !t.run then { t with run := true, start := now, q := true } else t
  if t.run && timerOut now t then { t with run := false, q := false } else t

/-- A counter instruction (R373): the new value on a rising input, and A after it. -/
def dikeCount (f : Nat → Nat) (out : Counter → Bool) (w : BitVec 24) : Dev → Dev :=
  dikeOp [5] 3 w fun d =>
    let a := d.dike.a
    let c := d.counter (pOpnd w)
    let c := { c with value := if a && !c.inp then f c.value else c.value, inp := a }
    (d.onDike fun k => { k with counts := Table.put {} k.counts (pOpnd w) c }).setA (out c)

/-- A jump (R369, R375): AREA and SUB must be 0; a taken jump must go forward. -/
def dikeJump (taken : Bool → Bool) (notTaken : Nat) (w : BitVec 24) (d : Dev) : Dev :=
  if !d.dike.running then d else
  match dikeBad [] w with
  | some cause => dikeStop cause d.dike.pc d
  | none =>
    if !taken d.dike.a then dikeAdvance notTaken (d.dike.pc + 1) d
    else if pOpnd w ≤ d.dike.pc then dikeStop 5 d.dike.pc d
    else dikeAdvance 2 (pOpnd w) d

/-! ### Phases -/

/-- Bits of the contexts for which a condition holds, as four words from word `k` of the input image on. -/
def ctxWords (k : Nat) (p : Nat → Bool) : List (Nat × Nat) :=
  [0, 1, 2, 3].map fun i =>
    (k + i, ((List.range 32).map fun j => if p (32 * i + j) then 2 ^ j else 0).foldl (· + ·) 0)

/-- IW32 of the twin words (R448). -/
def iw32 (d : Dev) : Nat :=
  let wd := d.get TWIN_TIME_WDOG * 1000000
  let fresh (k : Nat) : Bool :=
    match d.saf.freshAt.find? (fun e => e.1 = k) with
    | some e => decide (d.up < e.2 + wd)
    | none => false
  d.saf.runp.toNat + 2 * (fresh 0).toNat + 4 * (fresh 1).toNat + 8 * d.get SAF_STATUS_DSTOP + 16 * d.saf.tstate +
    65536 * (match d.saf.acceptAt with | some t => min ((d.up - t) / 1000000) 65535 | none => 0)

/-- IW7 (R362). -/
def iw7 (d : Dev) : Nat :=
  d.get GLB_MODE_MODE + 16 * d.get GLB_MODE_BASE + 256 * d.get BRCH_STATUS_LEVEL + 4096 * d.dike.result +
    65536 * d.dike.first.toNat + 131072 * d.dike.warm.toNat + 262144 * d.dike.online.toNat +
    524288 * (d.get GLB_MODE_MODE == 0xB).toNat + 1048576 * d.get SAF_STATUS_RESULT

/-- The input image as it is latched (R359, R362), before forces. -/
def inputImage (d : Dev) : List (Nat × Nat) :=
  d.berm.image.take 6 |>.zipIdx |>.map (fun x => (x.2, x.1))
    |>.append ([(6, d.get CAB_STATUS_SHOWN + 16 * d.get CAB_STATUS_REASON), (7, d.iw7), (8, d.get DIKE_CYCCNT_K)] ++
      ctxWords 10 d.isMember ++ ctxWords 14 (fun c => d.ctxState c == St.bound) ++
      ctxWords 18 (fun c => d.ctxState c == St.lost) ++ ctxWords 22 (fun c => (d.cell c).safeHold) ++
      ctxWords 26 (fun c => Table.get false d.dike.failed c) ++ [(32, d.iw32), (33, d.saf.lastSeq)] ++
      [0, 1, 2, 3, 4, 5, 6, 7].map fun i => (34 + i, nat ((d.saf.data.drop (4 * i)).take 4)))

/-- A waiting force write takes its place in the table (R390, R397); a force on another address that stood in the entry
is released and recorded (R387). -/
def takeForce (d : Dev) : Dev :=
  match d.dike.forceW with
  | none => d
  | some (f, set) =>
    let d := d.onDike fun k => { k with forceW := none }
    if set then
      let d := each (d.dike.forces.filter fun g => g.entry = f.entry ∧ ¬(g.area = f.area ∧ g.addr = f.addr)) (releaseForce 4) d
      let others := d.dike.forces.filter fun g => !(g.area = f.area ∧ g.addr = f.addr)
      (d.onDike fun k => { k with forces := others ++ [f] }).put DIKE_FRES_COUNT (others.length + 1)
    else
      match d.dike.forces.find? (fun g => g.entry = f.entry) with
      | some g => releaseForce 4 g d
      | none => d

/-- The input phase (R359): a restart that waits is made, forces are taken and released, the image is latched. -/
def inputPhase (d : Dev) : Dev :=
  let d := if d.dike.restart then dikeStart 0 d else d
  if d.get DIKE_STATUS_STATE ≠ 2 then d else
  -- the mode word of the hub is copied with the input image (R359, R569)
  let d := d.set EVT_STATUS_LINKOK
  let d := if d.dike.fclr then each d.dike.forces (releaseForce 4) (d.onDike fun k => { k with fclr := false }) else d
  let d := match d.dike.forceW with
    | some (f, _) => if f.area = 1 then d else d.takeForce
    | none => d
  let d := (d.put DIKE_CYCCNT_K d.dike.next).onDike fun k => { k with next := (k.next + 1) % 2 ^ 32 }
  let img := d.inputImage.foldl (fun m e => Table.put 0 m e.1 e.2) ([] : Table Nat)
  let img := (d.dike.forces.filter fun f => f.area = 0).foldl
    (fun m f => Table.put 0 m (f.addr / 32) (withBit (Table.get 0 m (f.addr / 32)) (f.addr % 32) (f.val % 2 == 1))) img
  d.onDike fun k => { k with iw := img, failed := [], swapArmed := false }

/-- The program phase starts at word 0 of the active bank; forces on markers and words are written (R358, R387). -/
def programStart (d : Dev) : Dev :=
  if d.get DIKE_STATUS_STATE ≠ 2 then d else
  let d := d.onDike fun k =>
    { k with marks := (k.forces.filter fun f => f.area = 2).foldl (fun m f => Table.put false m f.addr (f.val % 2 == 1)) k.marks,
             words := (k.forces.filter fun f => f.area = 8).foldl (fun m f => Table.put 0 m f.addr f.val) k.words }
  let armed := d.flag DIKE_STATUS_SWAPPEND
  d.onDike fun k => { k with running := true, cycles := 0, pc := 0, stack := [], swapArmed := armed }

/-- A mode request of the program is issued when the published RSEQ has changed (R365, R387); `same` tells that it
becomes visible in the hub cycle of the request or imposed mode before it (R45). -/
def dikeRequest (same : Bool) (d : Dev) : Dev :=
  let q := d.qwOut 2
  let rseq := q / 256 % 256
  if rseq = d.dike.rseq then d else
  let d := d.onDike fun k => { k with rseq := rseq }
  if !d.flag GLB_MODE_CFG_DIKE_REQ then d.onDike fun k => { k with result := Rs.perm }
  else
    let (r, d) := d.request 3 (q % 16) (q.testBit 4) same
    d.onDike fun k => { k with result := r }

/-- The output phase (R360, R365, R366, R387, R420, R432, R439): forces on Q bits apply to what is published.  The end
of the initial ALL is no fall of a demand (R432): only a demand that goes on for another cause can fall later. -/
def outputPhase (same : Bool) (d : Dev) : Dev :=
  let d := match d.dike.forceW with
    | some (f, _) => if f.area = 1 then d.takeForce else d
    | none => d
  let out := (d.dike.forces.filter fun f => f.area = 1).foldl
    (fun m f => Table.put 0 m (f.addr / 32) (withBit (Table.get 0 m (f.addr / 32)) (f.addr % 32) (f.val % 2 == 1))) d.dike.qw
  let d := d.onDike fun k => { k with qwOut := out, shown := out, running := false, first := false, online := false }
  let us := (d.dike.cycles + 99) / 100
  let d := (d.put DIKE_LOAD_LAST us).peak DIKE_LOAD_MAX us
  let d := d.put CAB_STATUS_REQ (d.qwOut 1 % 8)
  let frel := (d.qwOut 1).testBit 7
  let rises := frel && !d.berm.frelWas && d.flag FLD_STATUS_RELEASE_OK
  let d := d.onBerm fun b => { b with frelWas := frel }
  let d := if rises then d.onSaf fun s => { s with frel := true } else d
  let d := (d.onSaf fun s => { s with initAll := false }).clr SAF_STATUS_WDEMAND
  let d := (d.refreshAll).conStepAll.cabSelect
  let d := if d.allDemand then each allPolders (fun p d => d.onPolder p fun x => { x with initial := false }) d else d
  dikeRequest same d

/-! ### Symbol tables, forces and swaps -/

/-- A symbol table entry (R396). -/
def symTy (e : Nat) : Nat := e / 2 ^ 28 % 16
def symArea (e : Nat) : Nat := e / 2 ^ 24 % 16
def symAddr (e : Nat) : Nat := e % 65536

/-- The type of an address (R386): a field input or output by its mask, else by the symbol table of the running
program; nothing for an address that is in neither. -/
def typeOf (d : Dev) (syms : List Nat) (area addr : Nat) : Option Nat :=
  if area = 0 ∧ addr < 24 then some (if d.isSafetyIn addr then 3 else 1)
  else if area = 1 ∧ addr < 16 then some (if d.isSafetyOut addr then 4 else 1)
  else (syms.find? fun e => symArea e = area ∧ symAddr e = addr).map symTy

/-- Largest cycle count of an opcode, and the areas and form it permits (R369); nothing for an unlisted opcode. -/
def opForm (op : Nat) : Option (List Nat × Nat) :=
  if op = 0 ∨ op = 0x0C ∨ op = 0x0D ∨ op = 0x0E ∨ op = 0x22 ∨ op = 0x23 ∨ op = 0x2B then some ([], 1)
  else if 1 ≤ op ∧ op ≤ 7 then some (bitAreas, 1)
  else if 8 ≤ op ∧ op ≤ 0xB then some (storeAreas, 1)
  else if op = 0xF ∨ op = 0x10 then some ([3], 2)
  else if 0x18 ≤ op ∧ op ≤ 0x1A then some ([4], 4)
  else if op = 0x1B then some ([4], 2)
  else if op = 0x1C ∨ op = 0x1D then some ([5], 3)
  else if op = 0x1E then some ([5], 2)
  else if op = 0x20 then some (cmpAreas, 2)
  else if op = 0x21 then some ([7, 8, 4, 5], 2)
  else if 0x24 ≤ op ∧ op ≤ 0x27 then some (wordAreas, 2)
  else if 0x28 ≤ op ∧ op ≤ 0x2A then some (cmpAreas, 2)
  else if 0x30 ≤ op ∧ op ≤ 0x32 then some ([], 2)
  else if op = 0x3F then some ([], 2)
  else none

/-- One word of a bank passes R374; its cycles. -/
def wordOk (plen i : Nat) (w : Word) : Bool :=
  let lo : BitVec 24 := w.truncate 24
  let op := w.toNat / 2 ^ 24
  match opForm op with
  | none => false
  | some (areas, _) =>
    let subOk := if op = 0x0D then decide (pSub lo ≤ 1) else pSub lo == 0
    let areaOk := if areas = [] then pArea lo == 0 else areas.contains (pArea lo) && decide (pOpnd lo < areaSize (pArea lo))
    let jump := decide (0x30 ≤ op) && decide (op ≤ 0x32)
    subOk && areaOk && (op != 0x2B || decide (pOpnd lo < 32)) &&
      (!jump || (decide (i < pOpnd lo) && decide (pOpnd lo < plen)))

def codeWord (b : Bank) (i : Nat) : Word := Table.get 0 b.code i

/-- An edge bit is used by one PE or NE only, and a timer by one TON, TOF or TP (R371, R513). -/
def usedOnce (b : Bank) (lo hi : Nat) : Bool :=
  let us := (List.range b.plen).filterMap fun i =>
    let w := (codeWord b i).toNat
    if lo ≤ w / 2 ^ 24 ∧ w / 2 ^ 24 ≤ hi then some (w % 65536) else none
  us.Nodup

/-- The program check of R374. -/
def bankForm (cycle : Nat) (b : Bank) : Bool :=
  decide (1 ≤ b.plen) && decide (b.plen ≤ 32768) &&
  (List.range b.plen).all (fun i => wordOk b.plen i (codeWord b i)) &&
  (codeWord b (b.plen - 1)).toNat / 2 ^ 24 == 0x3F &&
  decide (10 * ((List.range b.plen).map fun i =>
    match opForm ((codeWord b i).toNat / 2 ^ 24) with | some (_, n) => n | none => 0).foldl (· + ·) 0 + 3000
      ≤ 8000 * cycle)

/-- The check of a bank before a swap: R374, with the uses of edge bits and timers (R371, R550). -/
def bankOk (cycle : Nat) (b : Bank) : Bool :=
  bankForm cycle b && usedOnce b 0x0F 0x10 && usedOnce b 0x18 0x1A

/-- The CRC-32 over the words of a bank (R396). -/
def bankCrc (b : Bank) : Nat := crc32 ((List.range b.plen).map fun i => le 4 (codeWord b i).toNat).flatten

def symsOk (syms : List Nat) : Bool :=
  syms.all fun e => decide (1 ≤ symTy e) && decide (symTy e ≤ 4) && decide (symArea e ≤ 8)

/-- The bank that is not active, as the on-line change registers describe it (R382). -/
def idleBank (d : Dev) : Bank := if d.flag DIKE_STATUS_BANK then d.dike.bank0 else d.dike.bank1

def setIdleBank (f : Bank → Bank) (d : Dev) : Dev :=
  if d.flag DIKE_STATUS_BANK then d.onDike fun k => { k with bank0 := f k.bank0 }
  else d.onDike fun k => { k with bank1 := f k.bank1 }

/-- Number of the bank that is not active. -/
def idleNo (d : Dev) : Nat := if d.flag DIKE_STATUS_BANK then 0 else 1

/-- Some store of a bank names a Q bit (R388). -/
def storesQ (b : Bank) (addr : Nat) : Bool :=
  (List.range b.plen).any fun i =>
    let w := (codeWord b i).toNat
    decide (8 ≤ w / 2 ^ 24) && decide (w / 2 ^ 24 ≤ 0xB) && w / 2 ^ 20 % 16 == 1 && w % 65536 == addr

/-- The reason for which a swap releases a force (R388), none when the force survives: the new symbol table decides of
all but the outputs. -/
def swapRelease (b : Bank) (f : Force) : Option Nat :=
  if f.ty = 4 ∨ (f.area = 1 ∧ f.addr < 16) then none
  else match (b.syms.find? fun e => symArea e = f.area ∧ symAddr e = f.addr).map symTy with
    | some t => if t = f.ty then none else some 2
    | none => some 1

/-- What becomes of a force at a swap (R388). -/
def swapForce (b : Bank) (f : Force) (d : Dev) : Dev :=
  match swapRelease b f with
  | some reason => releaseForce reason f d
  | none => if f.ty ≠ 4 ∧ f.area = 1 ∧ f.val % 2 = 1 ∧ storesQ b f.addr then d.event 180 else d

/-- A force write accepted before the swap and not yet taken is carried or released with the forces (R388). -/
def swapWaiting (b : Bank) (d : Dev) : Dev :=
  match d.dike.forceW with
  | some (f, true) => if swapRelease b f = none then d else (swapForce b f d).onDike fun k => { k with forceW := none }
  | _ => d

/-- Two banks hold the same program. -/
def sameProgram (a b : Bank) : Bool :=
  a.plen == b.plen && (List.range a.plen).all fun i => codeWord a i == codeWord b i

/-- The swap is performed (R384): the banks change places, the forces are carried, the change log records it. -/
def performSwap (d : Dev) : Dev :=
  if !(d.flag DIKE_STATUS_SWAPPEND && d.dike.swapArmed) then d else
  let old := d.bank
  let new := d.idleBank
  let d := d.stage 4 (le 4 old.crc ++ le 4 new.crc)
  let d := (d.putB DIKE_STATUS_BANK (!d.flag DIKE_STATUS_BANK)).clr DIKE_STATUS_SWAPPEND
  let d := d.putB DIKE_STATUS_ONLINE (!sameProgram new d.dike.image)
  let d := d.onDike fun k => { k with online := true, swapArmed := false }
  (each d.dike.forces (swapForce new) d).swapWaiting new

/-- The bank that a swap request names: the inactive one, of the length in DIKE_PLEN (R383). -/
def swapBank (d : Dev) : Bank := { d.idleBank with plen := d.get DIKE_PLEN_N, crc := d.get DIKE_PCRC_C }

/-- The decision of a swap request (R383). -/
def swapResult (d : Dev) : Nat :=
  let b := d.swapBank
  if !d.flag GLB_KEY_STAT_OPEN || d.get GLB_MODE_MODE != 0xB then 3
  else if d.get GLB_MODE_BASE = 9 ∨ d.get DIKE_STATUS_STATE ≠ 2 then 3
  else if d.flag DIKE_STATUS_SWAPPEND then 2
  else if bankCrc b ≠ d.get DIKE_PCRC_C then 4
  else if !bankOk (d.get DIKE_CFG_CYCLE) b || !symsOk b.syms then 5
  else if d.logFull then 2
  else 1

/-- The decision of a force write (R386, R397, R526). -/
def forceResult (d : Dev) (area addr val : Nat) : Nat :=
  if d.dike.forceW ≠ none ∨ d.logFull then 2
  else match d.typeOf d.bank.syms area addr with
    | none => 3
    | some t =>
      if (t = 3 ∨ t = 4) ∧ val ≠ 0 then 4
      else if !([0, 1, 2, 8].contains area) then 6
      else if (t = 3 ∧ area ≠ 0) ∨ (t = 4 ∧ area ≠ 1) ∨ (t = 2 ∧ area ≠ 8) ∨ (t = 1 ∧ area = 8) then 6
      else if 64 ≤ d.dike.forces.length ∧ !(d.dike.forces.any fun f => f.area = area ∧ f.addr = addr) then 5
      else 1

/-- A keyed write on a path is taken (R625): the sequence is open and the path owns it. -/
def keyed (d : Dev) (path : Path) : Bool :=
  d.flag GLB_KEY_STAT_OPEN && (match path with
    | .pcie => !d.flag GLB_KEY_STAT_PATH
    | .spi => d.flag GLB_KEY_STAT_PATH
    | .fic => false)

/-- A keyed write that is rejected is counted and recorded, on the host's paths (R625, R539); over SPI it sets WKEY
(R310). -/
def rejectKey (path : Path) (off : Nat) (d : Dev) : Dev :=
  if path = .fic then d
  else
    let d := (d.inc GLB_KEY_STAT_REJ).put GLB_KEY_REJ_OFF off
    if path = .spi then { d with spi := { d.spi with wkey := true } } else d

/-- The idle time of the key sequence starts anew (R624). -/
def keyUsed (d : Dev) : Dev := { d.put GLB_KEY_STAT_IDLE 600 with key := { d.key with since := d.up } }

/-- A keyed action reaches its register: taken on the open sequence's path, where it restarts the idle time (R624,
R625), else rejected and counted. -/
def keyedAct (path : Path) (off : Nat) (f : Dev → Dev) (d : Dev) : Dev :=
  if d.keyed path then f d.keyUsed else rejectKey path off d

/-- A value written to a register differs in a KRW field from what the field reads; action fields read 0 (R625). -/
def keyDiffers (d : Dev) (off v : Nat) : Bool :=
  (fieldsAt off).any fun a =>
    let x := v / 2 ^ a.fld.lsb % 2 ^ a.fld.w
    (a.ty == .krw && x != d.get a.fld) || (a.ty == .ka && x != 0)

/-- A value written to a register of KRW fields: taken like a keyed action; a rejection counts when the value differs
(R625). -/
def keyedWrite (path : Path) (off v : Nat) (f : Dev → Dev) (d : Dev) : Dev :=
  if d.keyed path then f d.keyUsed else if d.keyDiffers off v then rejectKey path off d else d

end Dev

open Dev

def execDikeInputPhase (s : State) := s.next inputPhase

def execDikeProgramStart (s : State) := s.next programStart

/-- A pending swap is performed at the end of the output phase (R384). -/
def execDikeSwapPerform (s : State) := s.next performSwap

/-- END has not retired by the warden deadline (R361). -/
def execDikeOverrun (s : State) := s.next fun d => if d.dike.running then dikeStop 1 d.dike.pc d else d

/-- No cycle start reaches the warden (R377). -/
def execWardenStall (s : State) := s.next fun d => if d.get DIKE_STATUS_STATE = 2 then dikeStop 2 d.dike.pc d else d

/-- A CRC span of the active bank completes with the CRC computed over it (R376). -/
def execDikeCrcCheck (crc : Word) (s : State) := s.next fun d =>
  if d.get DIKE_STATUS_STATE = 2 ∧ crc.toNat ≠ d.bank.crc then
    raiseAll [(35, 0, 8), (36, 0, 8)] (dikeHalt 8 d.dike.pc d)
  else d

def execDikeNop (w : BitVec 24) (s : State) := s.next (dikeOp [] 1 w id)
def execDikeLd (w : BitVec 24) (s : State) := s.next (dikeBit (fun _ b => b) w)
def execDikeLdn (w : BitVec 24) (s : State) := s.next (dikeBit (fun _ b => !b) w)
def execDikeAnd (w : BitVec 24) (s : State) := s.next (dikeBit (fun a b => a && b) w)
def execDikeAndn (w : BitVec 24) (s : State) := s.next (dikeBit (fun a b => a && !b) w)
def execDikeOr (w : BitVec 24) (s : State) := s.next (dikeBit (fun a b => a || b) w)
def execDikeOrn (w : BitVec 24) (s : State) := s.next (dikeBit (fun a b => a || !b) w)
def execDikeXor (w : BitVec 24) (s : State) := s.next (dikeBit (fun a b => a != b) w)
def execDikeSt (w : BitVec 24) (s : State) := s.next (dikeStore (fun a => some a) w)
def execDikeStn (w : BitVec 24) (s : State) := s.next (dikeStore (fun a => some (!a)) w)
def execDikeSet (w : BitVec 24) (s : State) := s.next (dikeStore (fun a => if a then some true else none) w)
def execDikeRst (w : BitVec 24) (s : State) := s.next (dikeStore (fun a => if a then some false else none) w)
def execDikeNot (w : BitVec 24) (s : State) := s.next (dikeOp [] 1 w fun d => d.setA (!d.dike.a))

/-- PUSH (R370): SUB[0] selects the operation, 0 AND and 1 OR. -/
def execDikePush (w : BitVec 24) (s : State) := s.next fun d =>
  if !d.dike.running then d
  else if pArea w ≠ 0 ∨ 2 ≤ pSub w then dikeStop 3 d.dike.pc d
  else if 16 ≤ d.dike.stack.length then dikeStop 6 d.dike.pc d
  else
    let orOp := pSub w == 1
    dikeAdvance 1 (d.dike.pc + 1) (d.onDike fun k => { k with stack := (k.a, orOp) :: k.stack, a := !orOp })

/-- POP (R370). -/
def execDikePop (w : BitVec 24) (s : State) := s.next fun d =>
  if !d.dike.running then d
  else match dikeBad [] w, d.dike.stack with
    | some cause, _ => dikeStop cause d.dike.pc d
    | none, [] => dikeStop 6 d.dike.pc d
    | none, (saved, orOp) :: r =>
      dikeAdvance 1 (d.dike.pc + 1) (d.onDike fun k =>
        { k with stack := r, a := if orOp then saved || k.a else saved && k.a })

def execDikePe (w : BitVec 24) (s : State) := s.next (dikeEdge (fun a e => a && !e) w)
def execDikeNe (w : BitVec 24) (s : State) := s.next (dikeEdge (fun a e => !a && e) w)
def execDikeTon (w : BitVec 24) (s : State) := s.next (dikeTimer stepTon w)
def execDikeTof (w : BitVec 24) (s : State) := s.next (dikeTimer stepTof w)
def execDikeTp (w : BitVec 24) (s : State) := s.next (dikeTimer stepTp w)

/-- TRES (R372). -/
def execDikeTres (w : BitVec 24) (s : State) := s.next (dikeOp [4] 2 w fun d =>
  if d.dike.a then d.onDike fun k =>
    { k with timers := Table.put {} k.timers (pOpnd w) { d.timer (pOpnd w) with run := false, q := false, inp := false } }
  else d)

def execDikeCtu (w : BitVec 24) (s : State) :=
  s.next (dikeCount (fun v => min (v + 1) 0xFFFF) (fun c => decide (c.preset ≤ c.value)) w)
def execDikeCtd (w : BitVec 24) (s : State) :=
  s.next (dikeCount (fun v => v - 1) (fun c => c.value == 0) w)

/-- CRES (R369). -/
def execDikeCres (w : BitVec 24) (s : State) := s.next (dikeOp [5] 2 w fun d =>
  if d.dike.a then d.onDike fun k =>
    { k with counts := Table.put {} k.counts (pOpnd w) { d.counter (pOpnd w) with value := 0 } }
  else d)

def execDikeLw (w : BitVec 24) (s : State) := s.next (dikeOp cmpAreas 2 w fun d =>
  d.setX (BitVec.ofNat 32 (d.readWord (pArea w) (pOpnd w))))

/-- SW (R369): with A = 1. -/
def execDikeSw (w : BitVec 24) (s : State) := s.next (dikeOp [7, 8, 4, 5] 2 w fun d =>
  if d.dike.a then writeWord (pArea w) (pOpnd w) d.dike.x.toNat d else d)

def execDikeLk (w : BitVec 24) (s : State) := s.next (dikeOp [] 1 w fun d =>
  d.setX (BitVec.signExtend 32 (BitVec.ofNat 16 (pOpnd w))))
def execDikeLkh (w : BitVec 24) (s : State) := s.next (dikeOp [] 1 w fun d =>
  d.setX (BitVec.ofNat 32 (pOpnd w * 65536 + d.dike.x.toNat % 65536)))
def execDikeAddw (w : BitVec 24) (s : State) := s.next (dikeWord (· + ·) w)
def execDikeSubw (w : BitVec 24) (s : State) := s.next (dikeWord (· - ·) w)
def execDikeAndw (w : BitVec 24) (s : State) := s.next (dikeWord (· &&& ·) w)
def execDikeOrw (w : BitVec 24) (s : State) := s.next (dikeWord (· ||| ·) w)
def execDikeCeq (w : BitVec 24) (s : State) := s.next (dikeCmp (fun x y => x == y) w)
def execDikeClt (w : BitVec 24) (s : State) := s.next (dikeCmp (fun x y => x.slt y) w)
def execDikeCge (w : BitVec 24) (s : State) := s.next (dikeCmp (fun x y => !x.slt y) w)

/-- XBIT (R369): OPERAND[15:5] must be 0. -/
def execDikeXbit (w : BitVec 24) (s : State) := s.next fun d =>
  if d.dike.running ∧ 32 ≤ pOpnd w then dikeStop 3 d.dike.pc d
  else dikeOp [] 1 w (fun d => d.setA (d.dike.x.getLsbD (pOpnd w))) d

def execDikeJmp (w : BitVec 24) (s : State) := s.next (dikeJump (fun _ => true) 2 w)
def execDikeJc (w : BitVec 24) (s : State) := s.next (dikeJump (fun a => a) 1 w)
def execDikeJnc (w : BitVec 24) (s : State) := s.next (dikeJump (fun a => !a) 1 w)

/-- END (R369, R370): ends the program phase; the output phase follows. -/
def execDikeEnd (w : BitVec 24) (same : Bool) (s : State) := s.next fun d =>
  if !d.dike.running then d
  else match dikeBad [] w with
    | some cause => dikeStop cause d.dike.pc d
    | none =>
      if d.dike.stack ≠ [] then dikeStop 6 d.dike.pc d
      else (d.onDike fun k => { k with cycles := k.cycles + 2 }).outputPhase same

/-- ARM (R379): accepted only once source 36 is cleared, and after a stall source 37 is inactive. -/
def execDikeArm (path : Path) (s : State) := s.next fun d =>
  if d.wstop ∧ !d.flag (BRCH_STICKY 36) ∧ (d.get DIKE_STATUS_STOPCAUSE ≠ 2 ∨ !d.brch.cond.testBit 37) ∧ path ≠ .fic then
    d.set DIKE_STATUS_ARMED
  else d

/-- SWAP (R383); a write that the key sequence does not take is counted (R625) and answered by row 1 of R383. -/
def execDikeSwap (path : Path) (s : State) := s.next fun d =>
  if !d.keyed path then (rejectKey path 0x90000 d).put DIKE_STATUS_RESULT 3 else
  let r := d.swapResult
  let d := d.keyUsed.put DIKE_STATUS_RESULT r
  if r = 1 then
    let new := d.swapBank
    ((setIdleBank (fun _ => new) d).putBit DIKE_STATUS_CHECKED d.idleNo true).set DIKE_STATUS_SWAPPEND
  else d

/-- FCLR (R389). -/
def execForceClear (path : Path) (s : State) := s.next (keyedAct path 0x90000 fun d =>
  d.onDike fun k => { k with fclr := true })

/-- A program word is stored in the inactive bank and the address moves on, in SERVICE (R382, R396). -/
def execProgramWindowWrite (path : Path) (v : Word) (s : State) := s.next (keyedWrite path 0x90024 v.toNat fun d =>
  if d.get GLB_MODE_MODE ≠ 0xB then d else
  let a := d.get DIKE_PWIN_ADDR_A
  ((setIdleBank (fun b => { b with code := Table.put 0 b.code a v }) d).putBit DIKE_STATUS_CHECKED d.idleNo false).put
    DIKE_PWIN_ADDR_A (a + 1))

/-- A symbol table entry of the new program is stored and the index moves on, in SERVICE (R382, R396). -/
def execSymbolWindowWrite (path : Path) (v : Word) (s : State) := s.next (keyedWrite path 0x90034 v.toNat fun d =>
  if d.get GLB_MODE_MODE ≠ 0xB then d else
  let a := d.get DIKE_SWIN_ADDR_A
  let d := (d.put DIKE_SWIN_DATA_D v.toNat).onDike fun k => { k with symWin := Table.put 0 k.symWin a v.toNat }
  let syms := (List.range (d.get DIKE_SLEN_N)).map fun i => Table.get 0 d.dike.symWin i
  ((setIdleBank (fun b => { b with syms := syms }) d).putBit DIKE_STATUS_CHECKED d.idleNo false).put
    DIKE_SWIN_ADDR_A (a + 1))

/-- An address or length register of the on-line change (R382, R396): 0 PWIN_ADDR, 1 PLEN, 2 PCRC, 3 SWIN_ADDR, 4 SLEN. -/
def execOnlineParamWrite (path : Path) (which : Fin 5) (v : Word) (s : State) :=
  let off := match which with | 0 => 0x90020 | 1 => 0x90028 | 2 => 0x9002C | 3 => 0x90030 | 4 => 0x90038
  s.next (keyedWrite path off v.toNat fun d =>
    let d := match which with
      | 0 => d.put DIKE_PWIN_ADDR_A v.toNat
      | 1 => d.put DIKE_PLEN_N v.toNat
      | 2 => d.put DIKE_PCRC_C v.toNat
      | 3 => d.put DIKE_SWIN_ADDR_A v.toNat
      | 4 =>
        let d := d.put DIKE_SLEN_N v.toNat
        let syms := (List.range (d.get DIKE_SLEN_N)).map fun i => Table.get 0 d.dike.symWin i
        setIdleBank (fun b => { b with syms := syms }) d
    d.putBit DIKE_STATUS_CHECKED d.idleNo false)

/-- FENT with VALID = 1 sets a force (R386, R390): decided now, taken at the next input or output phase. -/
def execForceSet (path : Path) (area : BitVec 4) (addr : BitVec 16) (s : State) := s.next
  (keyedWrite path 0x90044 (2 ^ 31 + area.toNat * 2 ^ 24 + addr.toNat) fun d =>
  if d.get GLB_MODE_MODE ≠ 0xB then d else
  let entry := d.get DIKE_FSEL_ENTRY
  let val := d.get DIKE_FVAL_VALUE
  let r := d.forceResult area.toNat addr.toNat val
  let d := d.put DIKE_FRES_RESULT r
  if r ≠ 1 then d else
  let ty := (d.typeOf d.bank.syms area.toNat addr.toNat).getD 0
  let d := (((d.set DIKE_FENT_VALID).put DIKE_FENT_AREA area.toNat).put DIKE_FENT_ADDR addr.toNat).put DIKE_FENT_TYPE ty
  let d := d.stage 2 ([BitVec.ofNat 8 area.toNat, BitVec.ofNat 8 ty] ++ le 2 addr.toNat ++ le 4 val)
  d.onDike fun k => { k with forceW := some (⟨entry, area.toNat, addr.toNat, ty, val⟩, true) })

/-- FENT with VALID = 0 releases the force of the selected entry (R386, R390). -/
def execForceRelease (path : Path) (s : State) := s.next (keyedAct path 0x90044 fun d =>
  if d.get GLB_MODE_MODE ≠ 0xB then d else
  if d.dike.forceW ≠ none ∨ d.logFull then d.put DIKE_FRES_RESULT 2 else
  let entry := d.get DIKE_FSEL_ENTRY
  let d := (d.put DIKE_FRES_RESULT 1).clr DIKE_FENT_VALID
  match d.dike.forces.find? (fun f => f.entry = entry) with
  | some f => d.onDike fun k => { k with forceW := some (f, false) }
  | none => d)

end Sys2Proof.Machine
end

