-- ==== Sys2Proof/Machine/Berm.lean ====
section
/-! DEFINITION. The isolation channel and the berm (chapter 12): frames and silence, inputs and test pulses, outputs,
lamps, the field supply and the release of latched reactions.

Field registers are mirrored from the berm (R427); the model updates the mirror where the berm changes its value.  A
command that ends a time of the spec (a debounce, a dwell, a timeout) is its occurrence. -/

namespace Sys2Proof.Machine

open Reg

namespace Dev

/-! ### Output states on the isolation channel (R41, R378, R399, R414, R439, R447) -/

/-- The enabled contactor channel whose coil an output is. -/
def channelOf (d : Dev) (k : Nat) : Option Nat :=
  [0, 1, 2, 3].find? fun j => d.flag (SAF_CON_EN j) && d.get (SAF_CON_OUT j) == k

/-- The state that the terp island demands of an output. -/
def outCommand (d : Dev) (k : Nat) : Bool :=
  let m := d.effMode
  if [0, 1, 0xA].contains m then false
  else if d.isLamp k then (d.lampCommand (d.get CAB_STATUS_SHOWN)).testBit k
  else if d.isSafetyOut k && ([2, 8, 9].contains m || d.wstop || d.flag SAF_STATUS_DSTOP) then false
  else match d.channelOf k with
    | some j => [1, 2].contains (d.conState j)
    | none =>
      if d.wstop then d.flag (FLD_OUT_SILENT k) && d.berm.lastOuts.testBit k
      else (d.qwOut 0).testBit k

def outWord (d : Dev) : Nat := ((List.range 16).map fun k => if d.outCommand k then 2 ^ k else 0).foldl (· + ·) 0

/-! ### Faults of outputs -/

/-- A FAULT field takes a value; each change raises event 177 (R412). -/
def setOutFault (k code : Nat) (d : Dev) : Dev :=
  if d.get (FLD_OUT_FAULT k) = code then d else (d.put (FLD_OUT_FAULT k) code).event 177

/-- LSTATE of a lamp (R415, R416). -/
def refreshLamp (k : Nat) (d : Dev) : Dev :=
  if !d.isLamp k then d else
  let x := d.fout k
  d.put (FLD_OUT_LSTATE k)
    (if d.groupOff k || !d.supplyOk then 0
     else if d.flag (FLD_OUT_FAILED k) then 3
     else if x.demand && decide (3 ≤ x.litRun) then 1
     else if !x.demand && decide (3 ≤ x.lowRun) then 2 else 0)

/-- Whether the berm lets an output follow its demand (R400, R408, R412, R413, R419, R420). -/
def outAllowed (d : Dev) (k : Nat) : Bool :=
  let x := d.fout k
  !x.latched && !x.overload && !d.flag FLD_STATUS_DROPLATCH && !d.groupOff k &&
    !(d.isSafetyOut k && (d.berm.dropHeld || d.flag FLD_STATUS_SILENCED))

/-- An output takes a demand: it switches as the berm's latches allow, a running dark test is abandoned by a change
(R410), an overload ends with the demand (R408), and a change restarts the settling times (R409, R415). -/
def driveOut (k : Nat) (demand : Bool) (d : Dev) : Dev :=
  let x := d.fout k
  let changed := demand != x.demand
  let d := if x.overload && !demand && d.get (FLD_OUT_FAULT k) == 1 then setOutFault k 0 d else d
  let d := d.onFout k fun x =>
    let x := { x with demand := demand, overload := x.overload && demand }
    if changed then
      { x with testing := false, late := false, await := false, litRun := 0, dimRun := 0, lowRun := 0, highRun := 0,
               skipLamp := if demand then 20 else 5 }
    else x
  let on := demand && d.outAllowed k
  let d := if on = x.on then d else d.onFout k fun x =>
    { x with on := on, inrush := on, testing := false, skipOff := if on then x.skipOff else 5, highRun := 0 }
  d.refreshLamp k

/-- Every output again follows its latest demand, as the latches now allow. -/
def redrive (d : Dev) : Dev := each (List.range 16) (fun k d => driveOut k (d.fout k).demand d) d

/-- A supply group is switched off (R412, R416). -/
def switchGroupOff (k : Nat) (d : Dev) : Dev :=
  let d := if k < 8 then d.set FLD_STATUS_GRPA_OFF else d.set FLD_STATUS_GRPB_OFF
  let d := each (List.range 16) (fun j d =>
    if d.isLamp j && d.groupOff j && d.get (FLD_OUT_FAULT j) != 4 then setOutFault j 6 d else d) d
  d.redrive

/-- A safety output is switched off and latched (R412). -/
def latchOut (k : Nat) (d : Dev) : Dev :=
  ((d.set FLD_STATUS_SAFETY_FAULT).onFout k fun x => { x with latched := true, okSince := none }).redrive

/-- A lamp has failed (R415). -/
def lampFail (k code : Nat) (d : Dev) : Dev := ((setOutFault k code d).set (FLD_OUT_FAILED k)).refreshLamp k

/-- Other outputs that are ON, in ascending order (R411). -/
def othersOn (d : Dev) (k : Nat) : List Nat := (List.range 16).filter fun j => j != k && (d.fout j).on

/-- An output is found fed from outside (R409, R411, R412, R415), and its correlation sequence begins. -/
def markFed (k : Nat) (d : Dev) : Dev :=
  let d := d.onFout k fun x => { x with correl := some (d.othersOn k, []), okSince := none }
  if d.isLamp k then (lampFail k 4 d).switchGroupOff k
  else
    let d := setOutFault k 2 d
    if d.isSafetyOut k then latchOut k d else d

/-- The correlation sequence of output k ends: the one output that pulled its pin down is its partner (R411). -/
def correlEnd (k : Nat) (hits : List Nat) (d : Dev) : Dev :=
  let d := d.onFout k fun x => { x with correl := none }
  match hits with
  | [h] =>
    let d := (setOutFault k 3 d).put (FLD_OUT_PARTNER k) h
    let d := (setOutFault h 3 d).put (FLD_OUT_PARTNER h) k
    if d.isSafetyOut k || d.isSafetyOut h then (latchOut k d).latchOut h else d
  | _ => d

/-- The fault of an output that was fed from outside is absent (R412). -/
def feedGone (k : Nat) (d : Dev) : Dev :=
  let d := if [2, 3].contains (d.get (FLD_OUT_FAULT k)) && !d.isLamp k then setOutFault k 0 d else d
  d.onFout k fun x => if x.okSince = none then { x with okSince := some d.up } else x

/-! ### Silence and frames -/

/-- The berm acts on silence (R400, R401); a silence that follows the release of an earlier one is an episode of its own.
-/
def actSilent (d : Dev) : Dev :=
  let was := d.berm.silent && d.flag FLD_STATUS_SILENCED
  let d := d.onBerm fun b => { b with silent := true, goodRun := 0 }
  if was then d else
  let d := (d.set FLD_STATUS_SILENCED).inc FLD_STATUS_SILCNT
  each (List.range 16) (fun k d =>
    driveOut k ((d.fout k).demand && !d.isSafetyOut k && d.flag (FLD_OUT_SILENT k)) d) d

/-- Supply state of the rails, apart from DROPOUT (R417). -/
def railState (d : Dev) : Nat := if d.berm.ovf then 2 else if d.berm.sag then 1 else 0

/-- The supply state changes; lamps become unproven outside NORMAL and restart their proof on the return (R416). -/
def setSupply (v : Nat) (d : Dev) : Dev :=
  if d.supply = v then d else
  let d := d.put FLD_STATUS_SUPPLY v
  each (List.range 16) (fun k d =>
    if d.isLamp k then
      (d.onFout k fun x => { x with litRun := 0, dimRun := 0, lowRun := 0, highRun := 0, late := false,
                                    skipLamp := if x.demand then 20 else 5 }).refreshLamp k
    else d) d

/-- The release requests of a frame (R412, R420, R436); SILENCED stands while the berm's self-check fails (R401). -/
def takeReleases (f : ToBerm) (d : Dev) : Dev :=
  let d := if f.relSil && d.berm.selfOk then d.clr FLD_STATUS_SILENCED else d
  let d := if f.relFault then
      let d := each (List.range 16) (fun k d => d.onFout k fun x =>
        match x.okSince with
        | some t => if x.latched ∧ t + 1000000000 ≤ d.up then { x with latched := false } else x
        | none => x) d
      if anyOut fun k => (d.fout k).latched then d else d.clr FLD_STATUS_SAFETY_FAULT
    else d
  let d := if f.relDrop && !d.flag FLD_STATUS_DROPLATCH then d.onBerm fun b => { b with dropHeld := false } else d
  if f.frel && d.flag FLD_STATUS_RELEASE_OK && d.flag FLD_STATUS_DROPLATCH then
    setSupply d.railState ((d.clr FLD_STATUS_DROPLATCH).clr FLD_STATUS_DECLARED)
  else d

/-- The output states of a valid frame (R399); during silence only safety outputs follow, once released, until 8 valid
frames have come in succession (R400). -/
def applyFrame (f : ToBerm) (d : Dev) : Dev :=
  each (List.range 16) (fun k d =>
    if d.berm.silent && !d.isSafetyOut k then d else driveOut k (f.outs.testBit k) d) d

/-- A frame from the terp island reaches the berm (R399, R400). -/
def bermReceive (crcOk : Bool) (d : Dev) : Dev :=
  match d.berm.toBerm with
  | none => d
  | some f =>
    let valid := crcOk && d.berm.bermSeq != some f.seq
    let d := d.onBerm fun b => { b with toBerm := none }
    if !d.berm.powered then d
    else if !valid then d.onBerm fun b => { b with goodRun := 0 }
    else
      let d := d.onBerm fun b =>
        { b with bermSeq := some f.seq, goodRun := if b.silent && b.selfOk then b.goodRun + 1 else b.goodRun }
      let d := if d.berm.silent && decide (8 ≤ d.berm.goodRun) then
          d.onBerm fun b => { b with silent := false, goodRun := 0 } else d
      (takeReleases f d).applyFrame f

/-! ### The words IW0 to IW5 (R401, R404, R409, R417, R419) -/

/-- Bits of a word from a condition on its positions. -/
def bitsOf (n : Nat) (p : Nat → Bool) : Nat := ((List.range n).map fun i => if p i then 2 ^ i else 0).foldl (· + ·) 0

def inputOn (d : Dev) (x : Nat) : Bool :=
  d.get (FLD_IN_TYPE x) != 0 && (d.fin x).deb == 2 && d.get (FLD_IN_FAULT x) == 0 &&
    !(d.supply == 3 && d.isSafetyIn x)

/-- FLD_STATUS[15:0] (R427). -/
def statusWord (d : Dev) : Nat :=
  d.get FLD_STATUS_SUPPLY + 4 * d.get FLD_STATUS_DROPLATCH + 8 * d.get FLD_STATUS_RELEASE_OK +
    16 * d.get FLD_STATUS_GRPA_OFF + 32 * d.get FLD_STATUS_GRPB_OFF + 64 * d.get FLD_STATUS_SAFETY_FAULT +
    128 * d.get FLD_STATUS_SILENCED + 256 * d.get FLD_STATUS_BERM_OK + 512 * d.get FLD_STATUS_DECLARED

def bermFrame (d : Dev) (seq : Nat) : ToTerp :=
  { seq := seq
    iw0 := bitsOf 24 d.inputOn
    iw1 := bitsOf 24 fun _ => !d.supplyOk
    iw2 := bitsOf 24 fun x => d.get (FLD_IN_FAULT x) != 0
    iw3 := bitsOf 16 (fun k => (d.fout k).pinHigh) + 65536 * bitsOf 16 fun k => d.get (FLD_OUT_FAULT k) != 0
    iw4 := ((List.range 16).map fun k => d.get (FLD_OUT_LSTATE k) * 4 ^ k).foldl (· + ·) 0
    iw5 := d.statusWord
    debs := bitsOf 24 fun x => d.get (FLD_IN_TYPE x) != 0 && (d.fin x).deb == 2
    selfOk := d.berm.selfOk }

/-- One frame in each direction (R399); the requests of an edge reset travel with it (R436). -/
def isoTransmit (d : Dev) : Dev :=
  let d := if d.berm.masterOff then d else
    let outs := d.outWord
    let seq := (d.berm.txSeq + 1) % 256
    let s := d.saf
    let d := d.onBerm fun b =>
      { b with txSeq := seq, lastOuts := outs,
               toBerm := some ⟨seq, outs, s.relSil, s.relFault, s.relDrop, s.frel⟩ }
    (d.onSaf fun s => { s with relSil := false, relFault := false, relDrop := false, frel := false }).send (.iso outs seq)
  if !d.berm.powered then d else
  let seq := (d.berm.rxSeq + 1) % 256
  let f := d.bermFrame seq
  d.onBerm fun b => { b with rxSeq := seq, toTerp := some f }

/-! ### The edge reset (R435 to R437) -/

/-- What remains latched after the releases of an edge reset, and the releases themselves. -/
def edgeRelease (d : Dev) : Dev :=
  let restart := d.wstop && d.flag DIKE_STATUS_ARMED
  let sil := d.flag FLD_STATUS_SILENCED
  let silOk := sil && !(d.berm.silent && d.berm.goodRun == 0)
  let absent (k : Nat) : Bool := match (d.fout k).okSince with
    | some t => decide (t + 1000000000 ≤ d.up)
    | none => false
  let flt := anyOut fun k => (d.fout k).latched
  let fltOk := (List.range 16).all fun k => !(d.fout k).latched || absent k
  let drop := d.berm.dropHeld
  let dropOk := drop && !d.flag FLD_STATUS_DROPLATCH
  let conOk (j : Nat) : Bool :=
    !d.conCommand j && d.supply != 3 && !d.conClosed j && !d.conFbFault j &&
      (d.conState j != 0xB || !(d.fout (d.get (SAF_CON_OUT j))).latched || absent (d.get (SAF_CON_OUT j)))
  let stop := d.flag SAF_STATUS_DSTOP
  let left := (d.wstop && !restart) || (sil && !silOk) || (flt && !fltOk) || (drop && !dropOk) ||
    ([0, 1, 2, 3].any fun j => decide (8 ≤ d.conState j) && !conOk j) || (stop && !d.saf.runp)
  let d := if restart then d.onDike fun k => { k with restart := true } else d
  let d := d.onSaf fun s =>
    { s with relSil := s.relSil || silOk, relFault := s.relFault || flt, relDrop := s.relDrop || dropOk }
  let d := each [0, 1, 2, 3] (fun j d =>
    if decide (8 ≤ d.conState j) && conOk j then (setConState j 0 d).putBit SAF_STATUS_CONFAULT j false else d) d
  let d := if stop && d.saf.runp then (d.clr SAF_STATUS_DSTOP).refreshAll else d
  ((d.put SAF_STATUS_RESULT (if left then 5 else 1)).inc SAF_STATUS_RESETS).event 183

/-- The reset input in a valid berm frame: a press is of its debounced state, whatever fault it carries (R435). -/
def edgeReset (d : Dev) : Dev :=
  if !d.flag SAF_RESET_EN then d else
  let x := d.get SAF_RESET_IN
  let on := d.berm.debs.testBit x
  let bad := (d.berm.image.getD 1 0).testBit x || (d.berm.image.getD 2 0).testBit x
  match d.saf.press with
  | none =>
    if on then d.onSaf fun s => { s with press := some d.up, pressBad := bad }
    else d.onSaf fun s => { s with sawOff := true }
  | some t =>
    if on then d.onSaf fun s => { s with pressBad := s.pressBad || bad }
    else
      let bad := d.saf.pressBad || bad
      let was := d.saf.sawOff
      let len := d.up - t
      let d := d.onSaf fun s => { s with press := none, pressBad := false, sawOff := true }
      if bad then d.put SAF_STATUS_RESULT 4
      else if len < d.get SAF_RESET_TMIN * 10000000 then d.put SAF_STATUS_RESULT 2
      else if d.get SAF_RESET_TMAX * 100000000 < len then d.put SAF_STATUS_RESULT 3
      else if was then d.edgeRelease else d

/-! ### The terp island's side of a frame -/

/-- The masked inputs prove isolation in the latest frame (R426). -/
def isolationSeen (d : Dev) : Bool :=
  (List.range 24).all fun x => !d.bit CAB_ISO_MASK x ||
    ((d.berm.image.getD 0 0).testBit x && !(d.berm.image.getD 1 0).testBit x && !(d.berm.image.getD 2 0).testBit x)

/-- What a frame reports of a dropout and of the berm's self-check: a dropout is counted with event 178 and source 40,
which stands until DROPLATCH clears (R419, R629); sources 38 and 39 (R401). -/
def countDropout (afterSilence everRx : Bool) (iw5 : Nat) (selfBad : Bool) (d : Dev) : Dev :=
  let counts := iw5 % 4 == 3 && !d.berm.counted && (iw5.testBit 9 || (afterSilence && everRx))
  let counted := iw5.testBit 2 && (d.berm.counted || counts)
  let d := d.onBerm fun b => { b with counted := counted }
  let d := if counted && counts then d.event 178 else d
  d.breachConds [(38, false, 0), (39, selfBad, 0), (40, counted, 3)]

/-- A frame from the berm reaches the terp island (R399, R401, R419, R425, R435, R440). -/
def terpReceive (crcOk : Bool) (d : Dev) : Dev :=
  match d.berm.toTerp with
  | none => d
  | some f =>
    let valid := crcOk && d.berm.terpSeq != some f.seq
    let afterSilence := d.berm.terpSilent
    let everRx := d.berm.everRx
    let d := d.onBerm fun b => { b with toTerp := none }
    if !valid then d else
    let d := d.onBerm fun b =>
      { b with terpSeq := some f.seq, everRx := true, terpSilent := false,
               image := [f.iw0, f.iw1, f.iw2, f.iw3, f.iw4, f.iw5], debs := f.debs }
    let d := countDropout afterSilence everRx f.iw5 (!f.selfOk) (d.set GLB_ISLAND_BERM_LINK)
    let d := if d.isolationSeen then d else d.clr CAB_STATUS_ISO_OK
    (d.edgeReset).conStepAll.cabSelect

/-- The terp island has received no valid frame for SILENCE (R401); every input then carries QUESTIONABLE, also one that
is being pressed (R435). -/
def terpSilence (d : Dev) : Dev :=
  if d.berm.terpSilent then d else
  let d := d.onSaf fun s => { s with pressBad := s.press.isSome }
  let d := d.onBerm fun b =>
    { b with terpSilent := true,
             image := [(b.image.getD 0 0) &&& (0xFFFFFF ^^^ d.get DIKE_SAFEIN_MASK), 0xFFFFFF, b.image.getD 2 0,
                       b.image.getD 3 0, b.image.getD 4 0, b.image.getD 5 0] }
  (((d.clr GLB_ISLAND_BERM_LINK).clr CAB_STATUS_ISO_OK).breachCond 38 true 0).cabSelect

/-! ### Inputs -/

/-- The band of a sample in 0.05 mA by input type (R402): 0 BREAK, 1 OFF, 2 ON; nothing in a gap. -/
def band (ty i : Nat) : Option Nat :=
  match ty with
  | 1 => if i < 25 then some 1 else if 75 ≤ i then some 2 else none
  | 2 => if i < 25 then some 1 else if 55 ≤ i then some 2 else none
  | 3 => if i < 12 then some 0 else if 18 ≤ i ∧ i < 44 then some 1 else if 70 ≤ i then some 2 else none
  | _ => some 1

/-- The FAULT field of an input takes a value; each change raises event 176 (R565). -/
def setInFault (x code : Nat) (d : Dev) : Dev :=
  if d.get (FLD_IN_FAULT x) = code then d else (d.put (FLD_IN_FAULT x) code).event 176

/-- FAULT and PARTNER of an input (R403, R407, R428): the lowest code of the faults that stand. -/
def refreshIn (x : Nat) (d : Dev) : Dev :=
  let y := d.fin x
  let d := d.setInFault x
    (if d.get (FLD_IN_TYPE x) = 0 then 0 else if y.deb = 0 then 1 else if y.invalid then 2
     else if y.cross ≠ none then 3 else if y.feed then 4 else 0)
  match y.cross with
  | some k => d.put (FLD_IN_PARTNER x) k
  | none => d

/-- The test-pulse source of an input's group (R405, R427). -/
def sourceOfIn (d : Dev) (x : Nat) : Option Nat :=
  let c := d.get FLD_GRP_SRC / 2 ^ (3 * (x / 4)) % 8
  if 4 ≤ c then some (c - 4) else none

/-- Test-pulse sources that some group claims (R405). -/
def sourcesInUse (d : Dev) : List Nat := [0, 1, 2, 3].filter fun k => (List.range 24).any fun x => d.sourceOfIn x == some k

/-- One more sample in a count that stops at the longest debounce. -/
def oneMore (n : Nat) : Nat := min (n + 1) 65535

/-- An input sample of 1 µs (R402, R403, R406); `last` tells that it lies in the last 20 µs of a pulse.  The raw state
holds from the start of a pulse until 20 samples after it. -/
def inputSample (x i : Nat) (last : Bool) (d : Dev) : Dev :=
  let ty := d.get (FLD_IN_TYPE x)
  let pulsed := d.berm.pulse != none
  let d := d.put (FLD_IN_IIN x) i
  if ty = 0 then d
  else if pulsed || decide (0 < (d.fin x).hold) then
    d.onFin x fun y =>
      let y := { y with held := oneMore y.held, clear := if y.gap then 0 else oneMore y.clear,
                        hold := if pulsed then y.hold else y.hold - 1 }
      if pulsed && last then
        { y with sawOn := y.sawOn || band ty i == some 2, sawHigh := y.sawHigh || decide (12 ≤ i) }
      else y
  else
    match band ty i with
    | some b => d.onFin x fun y =>
      { y with raw := b, gap := false, held := if b = y.raw then oneMore y.held else 1,
               clear := if b = y.raw ∧ !y.gap then oneMore y.clear else 1 }
    | none => d.onFin x fun y => { y with gap := true, held := oneMore y.held, clear := 0 }

/-- The checks of an input against a pulse of source k (R407). -/
def pulseCheck (k x : Nat) (d : Dev) : Dev :=
  if d.get (FLD_IN_TYPE x) = 0 then d else
  let y := d.fin x
  let own := d.sourceOfIn x == some k
  let feed := own && y.sawOn
  let cross := !own && decide (18 ≤ y.before) && !y.sawHigh
  let pass := if own then !y.sawHigh else !cross
  let last := (d.sourcesInUse).getLast? == some k
  let okNow := y.okSoFar && pass
  let d := d.onFin x fun y =>
    let y := { y with feed := y.feed || feed, cross := if cross then some k else y.cross, okSoFar := okNow }
    if last then
      let clean := if okNow then y.clean + 1 else 0
      let y := { y with clean := clean, okSoFar := true }
      if 3 ≤ clean then { y with feed := false, cross := none } else y
    else if okNow then y else { y with clean := 0 }
  d.refreshIn x

/-! ### The supply -/

def bermMonitored (d : Dev) (rail : Nat) : Bool := rail == 0 || d.bit FLD_CFG_USE (rail - 1)

def railV (d : Dev) (rail : Nat) : Nat :=
  match rail with | 0 => d.get FLD_SUP_LPL | 1 => d.get FLD_SUP_LPA | _ => d.get FLD_SUP_LPB

/-- Samples in succession of a rail below 15.0 V, and at 19.2 V or more (R417, R420). -/
def railUnder (d : Dev) (rail : Nat) : Nat := Table.get 0 d.berm.under rail

def railGood (d : Dev) (rail : Nat) : Nat := Table.get 0 d.berm.good rail

/-- A rail sample in 0.05 V (R417, R420), of 50 µs. -/
def supplySample (rail v : Nat) (d : Dev) : Dev :=
  let d := d.onBerm fun b =>
    { b with under := Table.put 0 b.under rail (if v < 300 then min 22 (d.railUnder rail + 1) else 0),
             good := Table.put 0 b.good rail (if 384 ≤ v then min 2000 (d.railGood rail + 1) else 0) }
  let d := match rail with
    | 0 => d.put FLD_SUP_LPL v
    | 1 => d.put FLD_SUP_LPA v
    | _ => d.put FLD_SUP_LPB v
  let vs := ([0, 1, 2].filter d.bermMonitored).map d.railV
  let d := d.onBerm fun b =>
    { b with sag := vs.any (fun v => decide (v < 384)) || (b.sag && vs.any fun v => decide (v < 390)),
             ovf := vs.any (fun v => decide (600 < v)) || (b.ovf && vs.any fun v => decide (594 < v)) }
  let d := if vs.any (fun v => decide (v < 384)) then d.clr FLD_STATUS_RELEASE_OK else d
  if d.supply = 3 then d else setSupply d.railState d

/-- DROPOUT is declared (R417, R419). -/
def dropout (declared : Bool) (d : Dev) : Dev :=
  let d := ((d.putB FLD_STATUS_DECLARED declared).set FLD_STATUS_DROPLATCH).clr FLD_STATUS_RELEASE_OK
  ((setSupply 3 d).onBerm fun b => { b with dropHeld := true }).redrive

/-- A supply group is rearmed (R413, R525, R526). -/
def rearmGroup (lo code : Nat) (grp : Fld) (d : Dev) : Dev :=
  if d.get GLB_MODE_MODE ≠ 0xB then d.put FLD_CTRL_RESULT 4
  else
    let ks := (List.range 8).map (· + lo)
    if ks.any fun k => (d.fout k).pinHigh || d.flag (FLD_OUT_FAILED k) then d.put FLD_CTRL_RESULT 3
    else if d.logFull then d
    else
      let d := (d.stage 5 [BitVec.ofNat 8 code]).put FLD_CTRL_RESULT 1
      let d := d.clr grp
      let d := each ks (fun k d => if d.get (FLD_OUT_FAULT k) = 6 then setOutFault k 0 d else d) d
      d.redrive

end Dev

open Dev

def execIsoFrameTx (s : State) := s.next isoTransmit

def execBermFrameReceive (crcOk : Bool) (s : State) := s.nextAlways (bermReceive crcOk)

def execTerpFrameReceive (crcOk : Bool) (s : State) := s.next (terpReceive crcOk)

def execBermSilence (s : State) := s.nextAlways fun d => if d.berm.powered then d.actSilent else d

def execTerpSilence (s : State) := s.next terpSilence

/-- The berm reports the failure in its frames and acts as if silent (R401). -/
def execBermSelfcheckFail (s : State) := s.nextAlways fun d =>
  if d.berm.powered then ((d.onBerm fun b => { b with selfOk := false }).clr FLD_STATUS_BERM_OK).actSilent else d

def execInputSample (x : Fin 24) (i : Byte) (last : Bool) (s : State) := s.nextAlways (inputSample x.val i.toNat last)

/-- The debounced state takes the raw state, which has held in every sample for DEB; INVALID clears when those samples
have lain in one band (R403). -/
def execInputDebounce (x : Fin 24) (s : State) := s.nextAlways fun d =>
  let deb := d.get (FLD_IN_DEB x.val)
  if d.get (FLD_IN_TYPE x.val) = 0 ∨ (d.fin x.val).held < deb then d else
  (d.onFin x.val fun y => { y with deb := y.raw, invalid := y.invalid && decide (y.clear < deb) }).refreshIn x.val

/-- INVALID is set while the samples are in a gap and the supply is NORMAL (R403). -/
def execInputInvalidTimeout (x : Fin 24) (s : State) := s.nextAlways fun d =>
  if (d.fin x.val).gap && d.supplyOk && d.get (FLD_IN_TYPE x.val) != 0 then
    (d.onFin x.val fun y => { y with invalid := true }).refreshIn x.val
  else d

/-- A source that a group claims is driven low (R405, R406). -/
def execTestPulseStart (k : Fin 4) (s : State) := s.nextAlways fun d =>
  if d.berm.powered && d.sourcesInUse.contains k.val && d.berm.pulse == none then
    let d := d.onBerm fun b => { b with pulse := some k.val }
    each (List.range 24) (fun x d => d.onFin x fun y =>
      { y with before := d.get (FLD_IN_IIN x), sawOn := false, sawHigh := false }) d
  else d

def execTestPulseEnd (s : State) := s.nextAlways fun d =>
  match d.berm.pulse with
  | some k =>
    let d := d.onBerm fun b => { b with pulse := none }
    each (List.range 24) (fun x d => pulseCheck k x (d.onFin x fun y => { y with hold := 20 })) d
  | none => d

def execInrushWindowEnd (k : Fin 16) (s : State) := s.nextAlways fun d => d.onFout k.val fun x => { x with inrush := false }

/-- An output in limitation is switched off until its demand goes OFF and ON (R408). -/
def execOutputOverload (k : Fin 16) (s : State) := s.nextAlways fun d =>
  if (d.fout k.val).on then
    driveOut k.val true (setOutFault k.val 1 (d.onFout k.val fun x => { x with overload := true }))
  else d

/-- A pin sample (R409): `pin` is 0 below 5 V, 1 from 5 V to below 12 V, 2 at 12 V or more. -/
def execOutputSample (k : Fin 16) (pin : Fin 3) (s : State) := s.nextAlways fun d =>
  let x := d.fout k.val
  let high := pin.val == 2
  let d := d.onFout k.val fun x => { x with pinHigh := high, skipOff := x.skipOff - 1 }
  -- R416: outside NORMAL no sample of a lamp counts
  if x.on || x.testing || (d.isLamp k.val && !d.supplyOk) then d
  else if 0 < x.skipOff then d
  else if !high then feedGone k.val (d.onFout k.val fun x => { x with highRun := 0 })
  else
    let d := d.onFout k.val fun y => { y with highRun := y.highRun + 1, okSince := none }
    if x.highRun + 1 = 3 then markFed k.val d else d

/-- A dark test switches an ON output off, one output at a time (R410). -/
def execDarkTestStart (k : Fin 16) (s : State) := s.nextAlways fun d =>
  if (d.fout k.val).on && d.flag (FLD_OUT_DTEST k.val) && !anyOut (fun j => (d.fout j).testing) then
    d.onFout k.val fun x => { x with testing := true }
  else d

/-- The verdict of a dark test (R410, R411); an abandoned test has none, nor has that of a lamp outside NORMAL (R416). -/
def execDarkTestEnd (k : Fin 16) (pin : Fin 3) (s : State) := s.nextAlways fun d =>
  if (d.fout k.val).testing then
    let d := d.onFout k.val fun x => { x with testing := false, skipLamp := max x.skipLamp 1 }
    if d.isLamp k.val && !d.supplyOk then d
    else if pin.val = 0 then feedGone k.val d else markFed k.val d
  else d

/-- A pulse of the correlation sequence of output k on the next other output that is ON; the sequence ends with the last
one (R411). -/
def execCorrelationPulse (k : Fin 16) (pin : Fin 3) (s : State) := s.nextAlways fun d =>
  match (d.fout k.val).correl with
  | none => d
  | some (todo, hits) =>
    match todo.filter fun j => (d.fout j).on with
    | [] => correlEnd k.val hits d
    | j :: rest =>
      let hits := if pin.val = 0 then hits ++ [j] else hits
      if rest ≠ [] then d.onFout k.val fun x => { x with correl := some (rest, hits) }
      else correlEnd k.val hits d

/-- A lamp sample (R415, R416): the current in 4 mA and the pin. -/
def execLampProofSample (k : Fin 16) (iout : Byte) (pin : Fin 3) (s : State) := s.nextAlways fun d =>
  let k := k.val
  let d := d.put (FLD_OUT_IOUT k) iout.toNat
  if !d.isLamp k then d else
  let x := d.fout k
  if !d.supplyOk || d.groupOff k || x.testing || x.await then d
  else if 0 < x.skipLamp then d.onFout k fun x => { x with skipLamp := x.skipLamp - 1 }
  else if x.demand then
    let lit := decide (d.get (FLD_OUT_LMIN k) * 2 ≤ iout.toNat * 4)
    let d := d.onFout k fun x =>
      { x with litRun := if lit then x.litRun + 1 else 0, dimRun := if lit then 0 else x.dimRun + 1 }
    if (d.fout k).dimRun = 3 then lampFail k 5 d else d.refreshLamp k
  else
    let d := d.onFout k fun x =>
      { x with lowRun := if pin.val = 0 then x.lowRun + 1 else 0, dimRun := if pin.val = 2 then x.dimRun + 1 else 0 }
    if (d.fout k).dimRun = 3 then markFed k d else d.refreshLamp k

/-- A lamp is unproven at its deadline (R424). -/
def execLampDeadline (k : Fin 16) (s : State) := s.next fun d =>
  if d.isLamp k.val && d.get (FLD_OUT_LSTATE k.val) == 0 && d.supplyOk && !(d.fout k.val).await then
    (d.onFout k.val fun x => { x with late := true }).cabSelect
  else d

/-- Flashing lamps change phase (R424); the next frame carries the new lamp commands. -/
def execLampFlashToggle (s : State) := s.nextAlways fun d => d.onBerm fun b => { b with flash := !b.flash }

/-- The host clears a latched lamp failure; the lamp is proven afresh the next time it is commanded, and is unproven until
then (R415). -/
def execLampFailedClear (k : Fin 16) (s : State) := s.next fun d =>
  if d.flag (FLD_OUT_FAILED k.val) then
    let d := setOutFault k.val (if d.groupOff k.val then 6 else 0) (d.clr (FLD_OUT_FAILED k.val))
    let d := d.onFout k.val fun x => { x with litRun := 0, dimRun := 0, lowRun := 0, highRun := 0, await := true }
    (d.refreshLamp k.val).refresh51
  else d

/-- Every masked input has held for DWELL (R426). -/
def execIsoOkDwell (s : State) := s.next fun d =>
  if d.isolationSeen && !d.berm.terpSilent then d.set CAB_STATUS_ISO_OK else d

def execGrpaRearm (path : Path) (s : State) := s.next (keyedAct path 0xA0014 (rearmGroup 0 0 FLD_STATUS_GRPA_OFF))

def execGrpbRearm (path : Path) (s : State) := s.next (keyedAct path 0xA0014 (rearmGroup 8 1 FLD_STATUS_GRPB_OFF))

/-- A rail sample: 0 LPL, 1 LPA, 2 LPB; the value in 0.05 V (R417). -/
def execSupplySample (rail : Fin 3) (v : BitVec 10) (s : State) := s.nextAlways fun d =>
  if d.berm.powered then supplySample rail.val v.toNat d else d

/-- A monitored rail has read below 15.0 V in 22 samples in succession (R417). -/
def execSupplyDropout (s : State) := s.nextAlways fun d =>
  if d.berm.powered && d.supply != 3 && ([0, 1, 2].filter d.bermMonitored).any (fun r => decide (22 ≤ d.railUnder r)) then
    dropout true d
  else d

/-- RELEASE_OK (R420): every monitored rail has read 19.2 V or more in every sample for 100 ms. -/
def execReleaseOkCount (s : State) := s.nextAlways fun d =>
  if d.berm.powered && ([0, 1, 2].filter d.bermMonitored).all (fun r => decide (2000 ≤ d.railGood r)) then
    d.set FLD_STATUS_RELEASE_OK
  else d

/-- The berm resets with every output off (R417). -/
def execBermReset (s : State) := s.nextAlways fun d =>
  let d := each (List.range 16) (fun k d => d.onFout k fun x =>
    { latched := x.latched, okSince := none }) d
  (d.onBerm fun b => { b with powered := false, ins := [], toTerp := none, bermSeq := none, pulse := none,
                              under := [], good := [], dropHeld := true }).clr FLD_STATUS_BERM_OK

/-- The berm starts with DROPLATCH set and supply state DROPOUT (R417, R419). -/
def execBermStart (s : State) := s.nextAlways fun d =>
  if d.berm.powered then d else
  let d := d.onBerm fun b => { b with powered := true, selfOk := true, silent := false, goodRun := 0, sag := true,
                                      ovf := false }
  (dropout false d).set FLD_STATUS_BERM_OK

end Sys2Proof.Machine
end

