-- ==== Sys2Proof/Machine/Sha.lean ====
section
/-! DEFINITION. SHA-256 (FIPS 180-4), HMAC-SHA256 and PBKDF2-HMAC-SHA256 over bytes, as the watermark (R507), the change
log (R524) and the password check (R517) use them. -/

namespace Sys2Proof.Machine.Sha

/-- The first 64 primes: those below 312. -/
def primes : List Nat := (List.range 312).filter fun n => decide (2 ≤ n) && (List.range n).all fun k => decide (k < 2) || n % k != 0

/-- The integer part of the `k`-th root of a number below 2^(36 k), bit by bit. -/
def rootFloor (k n : Nat) : Nat :=
  (List.range 36).foldr (fun i r => if (r + 2 ^ i) ^ k ≤ n then r + 2 ^ i else r) 0

/-- The first 32 bits of the fraction of the `k`-th root of `p`. -/
def rootBits (k p : Nat) : Word := BitVec.ofNat 32 (rootFloor k (p * 2 ^ (32 * k)))

/-- The constant of each round: from the cube root of its prime. -/
def roundK : List Word := primes.map (rootBits 3)

/-- The eight working words. -/
structure H8 where
  a : Word
  b : Word
  c : Word
  d : Word
  e : Word
  f : Word
  g : Word
  h : Word
  deriving DecidableEq, Repr

/-- The words before the first block: from the square roots of the first eight primes. -/
def start : H8 :=
  match (primes.take 8).map (rootBits 2) with
  | [a, b, c, d, e, f, g, h] => ⟨a, b, c, d, e, f, g, h⟩
  | _ => ⟨0, 0, 0, 0, 0, 0, 0, 0⟩

def rot (x : Word) (n : Nat) : Word := (x >>> n) ||| (x <<< (32 - n))

/-- One round with its constant plus message word. -/
def round (s : H8) (kw : Word) : H8 :=
  let t1 := s.h + (rot s.e 6 ^^^ rot s.e 11 ^^^ rot s.e 25) + ((s.e &&& s.f) ^^^ (~~~s.e &&& s.g)) + kw
  let t2 := (rot s.a 2 ^^^ rot s.a 13 ^^^ rot s.a 22) + ((s.a &&& s.b) ^^^ (s.a &&& s.c) ^^^ (s.b &&& s.c))
  ⟨t1 + t2, s.a, s.b, s.c, s.d + t1, s.e, s.f, s.g⟩

/-- The next word of the message schedule, from the words so far, newest first. -/
def nextWord (ws : List Word) : Word :=
  let x := ws.getD 1 0
  let y := ws.getD 14 0
  (rot x 17 ^^^ rot x 19 ^^^ (x >>> 10)) + ws.getD 6 0 + (rot y 7 ^^^ rot y 18 ^^^ (y >>> 3)) + ws.getD 15 0

/-- The message schedule of a block of 16 words. -/
def schedule (block : List Word) : List Word :=
  ((List.range 48).foldl (fun ws _ => nextWord ws :: ws) block.reverse).reverse

/-- A block goes into the hash. -/
def compress (s : H8) (block : List Word) : H8 :=
  let t := (List.zipWith (· + ·) roundK (schedule block)).foldl round s
  ⟨s.a + t.a, s.b + t.b, s.c + t.c, s.d + t.d, s.e + t.e, s.f + t.f, s.g + t.g, s.h + t.h⟩

/-- A word from 4 bytes, the most significant first, and back. -/
def wordBE (bs : List Byte) : Word := BitVec.ofNat 32 (bs.foldl (fun a b => a * 256 + b.toNat) 0)

def bytesBE (w : Word) : List Byte := [24, 16, 8, 0].map fun i => (w >>> i).setWidth 8

/-- The words of a list of bytes; `n` bounds their number. -/
def words : Nat → List Byte → List Word
  | 0, _ => []
  | n + 1, bs => wordBE (bs.take 4) :: words n (bs.drop 4)

/-- The padded message. -/
def pad (bs : List Byte) : List Byte :=
  let n := bs.length
  bs ++ [0x80] ++ List.replicate ((119 - n % 64) % 64) 0 ++
    [56, 48, 40, 32, 24, 16, 8, 0].map fun i => BitVec.ofNat 8 (8 * n / 2 ^ i)

/-- `n` blocks of a padded message go into the hash. -/
def blocks : Nat → H8 → List Byte → H8
  | 0, s, _ => s
  | n + 1, s, bs => blocks n (compress s (words 16 (bs.take 64))) (bs.drop 64)

/-- The SHA-256 digest, 32 bytes. -/
def sha256 (bs : List Byte) : List Byte :=
  let p := pad bs
  let s := blocks (p.length / 64) start p
  ([s.a, s.b, s.c, s.d, s.e, s.f, s.g, s.h].map bytesBE).flatten

/-- HMAC-SHA256 of a message under a key of at most 64 bytes. -/
def hmac (key msg : List Byte) : List Byte :=
  let k := key ++ List.replicate (64 - key.length) 0
  sha256 (k.map (· ^^^ 0x5C) ++ sha256 (k.map (· ^^^ 0x36) ++ msg))

/-- The sum of `n` further iterates after `u`. -/
def pbkdfLoop (key : List Byte) : Nat → List Byte → List Byte → List Byte
  | 0, _, t => t
  | n + 1, u, t =>
    let u := hmac key u
    pbkdfLoop key n u (List.zipWith (· ^^^ ·) t u)

/-- PBKDF2-HMAC-SHA256 with 10,000 iterations and a derived length of 32 bytes (R517). -/
def pbkdf2 (pwd salt : List Byte) : List Byte :=
  let u := hmac pwd (salt ++ [0, 0, 0, 1])
  pbkdfLoop pwd 9999 u u

end Sys2Proof.Machine.Sha
end

