-- ==== Sys2Proof/Machine/Image.lean ====
section
/-! DEFINITION. The QSPI flash and the Watermark image: directory, header and sections (R502 to R511), the checks at
LOAD in their order (R512), the resource claims (R513) and the FIC programs' check (R541). -/

namespace Sys2Proof.Machine

open Reg

/-! ### Flash (R502, R504) -/

def blankPage : List Byte := List.replicate 256 0xFF

namespace Dev

def flashPage (d : Dev) (p : Nat) : List Byte := Table.get blankPage d.mgmt.flash p

def setPage (p : Nat) (bs : List Byte) (d : Dev) : Dev :=
  d.onMgmt fun m => { m with flash := Table.put blankPage m.flash p bs }

/-- `n` bytes from a flash address on. -/
def flashRead (d : Dev) (a n : Nat) : List Byte :=
  (((List.range ((a % 256 + n + 255) / 256)).map fun i => d.flashPage (a / 256 + i)).flatten.drop (a % 256)).take n

/-- Bytes placed in the flash from an address on. -/
def flashPut (a : Nat) (bs : List Byte) (d : Dev) : Dev :=
  each (List.range ((a % 256 + bs.length + 255) / 256)) (fun i d =>
    let lo := if i = 0 then a % 256 else 0
    let part := (bs.drop (256 * i - a % 256)).take (256 - lo)
    let old := d.flashPage (a / 256 + i)
    setPage (a / 256 + i) (old.take lo ++ part ++ old.drop (lo + part.length)) d) d

/-- An erase of whole sectors. -/
def flashErase (a n : Nat) (d : Dev) : Dev :=
  d.onMgmt fun m => { m with flash := m.flash.filter fun e => !(decide (a / 256 ≤ e.1) && decide (e.1 < (a + n) / 256)) }

/-! ### Directory (R505) -/

def dirMagic : List Byte := [0x57, 0x44, 0x49, 0x52]

/-- The generation and slot that a directory copy names, when the copy is valid. -/
def dirAt (d : Dev) (k : Nat) : Option (Nat × Nat) :=
  let b := d.flashRead (0x1000 * k) 32
  if b.take 4 = dirMagic ∧ crc32 (b.take 28) = nat (b.drop 28) then
    some (nat ((b.drop 4).take 4), (b.getD 8 0).toNat % 2)
  else none

/-- Generation `g1` is later than `g0`. -/
def later (g0 g1 : Nat) : Bool :=
  let x := (g1 + 2 ^ 32 - g0 % 2 ^ 32) % 2 ^ 32
  decide (1 ≤ x) && decide (x < 2 ^ 31)

/-- The directory in force: its copy, generation and slot. -/
def directory (d : Dev) : Option (Nat × Nat × Nat) :=
  match d.dirAt 0, d.dirAt 1 with
  | none, none => none
  | some e, none => some (0, e)
  | none, some e => some (1, e)
  | some e0, some e1 => if later e0.1 e1.1 then some (1, e1) else some (0, e0)

/-- A new directory goes into the sector of the copy that is not in force, which it then is (R505). -/
def writeDirectory (slot : Nat) (d : Dev) : Dev :=
  let k := 1 - d.mgmt.dirCopy
  let gen := (d.get WMK_GEN_GEN + 1) % 2 ^ 32
  let body := dirMagic ++ le 4 gen ++ [BitVec.ofNat 8 slot] ++ List.replicate 19 0
  let bs := body ++ le 4 (crc32 body)
  let d := flashPut (0x1000 * k) bs (flashErase (0x1000 * k) 0x1000 d)
  ((d.onMgmt fun m => { m with dirCopy := k }).put WMK_GEN_GEN gen).send (.flash (0x1000 * k) bs)

end Dev

/-! ### Header and sections (R506, R508) -/

def slotBase (slot : Nat) : Nat := if slot = 0 then 0x100000 else 0x300000

/-- A section table entry. -/
structure Section where
  ty  : Nat
  off : Nat
  len : Nat
  crc : Nat
  deriving DecidableEq, Repr

/-- An image as it is read from its slot. -/
structure Image where
  slot  : Nat
  bytes : List Byte
  deriving DecidableEq, Repr

namespace Image

def field (g : Image) (a n : Nat) : Nat := Dev.nat ((g.bytes.drop a).take n)

def nsec (g : Image) : Nat := g.field 6 2
def ilen (g : Image) : Nat := g.field 8 4
def mark (g : Image) : List Byte := (g.bytes.drop 32).take 32
def lcsMask (g : Image) : Nat := g.field 16 1
def serial (g : Image) : Nat := g.field 24 4

/-- The image of a slot: as many bytes as its ILEN gives, within the slot, and the header at least. -/
def read (d : Dev) (slot : Nat) : Image :=
  let ilen := Dev.nat ((d.flashRead (slotBase slot) 128).drop 8 |>.take 4)
  ⟨slot, d.flashRead (slotBase slot) (max 128 (min ilen 2097152))⟩

def secAt (g : Image) (i : Nat) : Section :=
  let a := 128 + 16 * i
  ⟨g.field a 1, g.field (a + 4) 4, g.field (a + 8) 4, g.field (a + 12) 4⟩

def sections (g : Image) : List Section := (List.range g.nsec).map g.secAt

def content (g : Image) (s : Section) : List Byte := (g.bytes.drop s.off).take s.len

/-- The table index of the section of a type. -/
def indexOf (g : Image) (ty : Nat) : Option Nat := (List.range g.nsec).find? fun i => (g.secAt i).ty == ty

/-- The content of the section of a type; empty where there is none. -/
def sectionOf (g : Image) (ty : Nat) : List Byte :=
  match g.indexOf ty with
  | some i => g.content (g.secAt i)
  | none => []

/-- The watermark (R507). -/
def digest (g : Image) : List Byte :=
  Sha.sha256 (g.bytes.take 32 ++ List.replicate 32 0 ++ g.bytes.drop 64)

/-! ### Checks 3 to 8 (R512): a failing check answers its code and DETAIL -/

def knownType (ty : Nat) : Bool :=
  ty == 1 || (decide (0x10 ≤ ty) && decide (ty < 0x18)) || ty == 0x20 || ty == 0x30 || ty == 0x40

def apart (s t : Section) : Bool := decide (s.off + s.len ≤ t.off) || decide (t.off + t.len ≤ s.off)

/-- Entry i of the section table holds to R508 against the header and the entries before it. -/
def entryOk (g : Image) (i : Nat) : Bool :=
  let s := g.secAt i
  knownType s.ty && s.off % 16 == 0 && decide (128 + 16 * g.nsec ≤ s.off) && decide (s.off + s.len ≤ g.ilen) &&
    (List.range i).all fun j => (g.secAt j).ty != s.ty && apart (g.secAt j) s

/-- A check that names a section: the first index that fails it. -/
def firstBad (n code : Nat) (ok : Nat → Bool) : Option (Nat × Nat) :=
  ((List.range n).find? fun i => !ok i).map fun i => (code, i)

def failUnless (ok : Bool) (code : Nat) (detail : Nat := 0xFF) : Option (Nat × Nat) :=
  if ok then none else some (code, detail)

def required : List Nat := [0x01, 0x20, 0x30, 0x40]

def checkForm (g : Image) : Option (Nat × Nat) :=
  failUnless (g.field 4 2 == 0x0100 && decide (1 ≤ g.nsec) && decide (g.nsec ≤ 64) && decide (g.ilen ≤ 2097152) &&
    decide (128 + 16 * g.nsec ≤ g.ilen)) 3 <|>
  firstBad g.nsec 3 g.entryOk <|>
  failUnless (required.all fun ty => (g.indexOf ty).isSome) 3 <|>
  firstBad g.nsec 3 fun i => (g.secAt i).ty != 0x40 || decide (64 ≤ (g.secAt i).len)

/-- Checks 3 to 8. -/
def checkSeal (d : Dev) (g : Image) : Option (Nat × Nat) :=
  failUnless (g.bytes.take 4 == [0x57, 0x4D, 0x4B, 0x31]) 2 <|>
  g.checkForm <|>
  failUnless (g.field 12 2 == 0x8128 && g.field 14 1 == 8 && decide (g.field 15 1 % 16 ≤ d.get GLB_ID_STEP) &&
    decide (g.field 15 1 / 16 ≤ d.get GLB_ID_BERM_STEP)) 4 <|>
  failUnless (d.lcs != 3 && g.lcsMask.testBit d.lcs) 5 <|>
  failUnless (g.digest == g.mark) 6 <|>
  firstBad g.nsec 7 fun i => crc32 (g.content (g.secAt i)) == (g.secAt i).crc

end Image

/-! ### Contents of the sections -/

/-- Pieces of `size` bytes, `n` of them. -/
def pieces (size : Nat) : Nat → List Byte → List (List Byte)
  | 0, _ => []
  | n + 1, bs => bs.take size :: pieces size n (bs.drop size)

/-- A block that starts with a 4-byte count of items of `size` bytes, and what follows it; nothing where the bytes do
not suffice. -/
def block (size : Nat) (bs : List Byte) : Option (List (List Byte) × List Byte) :=
  let n := Dev.nat (bs.take 4)
  let rest := bs.drop 4
  if 4 ≤ bs.length ∧ n * size ≤ rest.length then some (pieces size n rest, rest.drop (n * size)) else none

/-- A load record (R509): offset word and value. -/
def recordOf (bs : List Byte) : Nat × Nat := (Dev.nat (bs.take 4), Dev.nat (bs.drop 4))

/-- The SAFETY section (R511). -/
structure SafetySec where
  recs   : List (Nat × Nat) := []
  bank   : Bank := {}
  timers : List (Nat × Nat) := []
  counts : List Nat := []
  words  : List (Nat × Nat) := []
  deriving DecidableEq, Repr, Inhabited

/-- A table from a list of words. -/
def tableOf (ws : List Nat) : Table Word :=
  ws.zipIdx.foldl (fun m x => Table.put 0 m x.2 (BitVec.ofNat 32 x.1)) []

def SafetySec.ofBlocks (recs code syms timers counts words : List (List Byte)) : SafetySec :=
  let code := code.map Dev.nat
  let bank : Bank := { code := tableOf code, plen := code.length, syms := syms.map Dev.nat }
  { recs := recs.map recordOf
    bank := { bank with crc := Dev.bankCrc bank }
    timers := timers.map fun t => (Dev.nat t % 65536, Dev.nat t / 65536 % 4)
    counts := counts.map Dev.nat
    words := words.map fun w => (Dev.nat (w.take 2), Dev.nat (w.drop 2)) }

def SafetySec.parse (bs : List Byte) : Option SafetySec :=
  (block 8 bs).bind fun x1 => (block 4 x1.2).bind fun x2 => (block 4 x2.2).bind fun x3 => (block 4 x3.2).bind fun x4 =>
    (block 2 x4.2).bind fun x5 => (block 6 x5.2).bind fun x6 =>
      some (SafetySec.ofBlocks x1.1 x2.1 x3.1 x4.1 x5.1 x6.1)

/-- What R511 says of the counts and values of the blocks. -/
def SafetySec.formOk (s : SafetySec) : Bool :=
  s.timers.length == 128 && s.timers.all (fun t => decide (t.2 < 3)) && s.counts.length == 64 &&
    s.words.all (fun w => decide (w.1 < 2048)) && decide (s.bank.syms.length ≤ 4096)

/-- A polder section (R510). -/
structure PolderSec where
  imem  : List Nat := []
  data  : List Byte := []
  progs : List Prog := []
  deriving DecidableEq, Repr, Inhabited

def progOf (bs : List Byte) : Prog :=
  { ctx := Dev.nat (bs.take 1), kind := Dev.nat ((bs.drop 1).take 1), entry := Dev.nat ((bs.drop 2).take 2)
    budget := Dev.nat ((bs.drop 4).take 2), bmbx := (Dev.nat ((bs.drop 6).take 1)).testBit 0 }

def PolderSec.parse (bs : List Byte) : Option PolderSec :=
  let nw := Dev.nat (bs.take 4)
  let nd := Dev.nat ((bs.drop 4).take 4)
  let np := Dev.nat ((bs.drop 8).take 2)
  let rest := bs.drop 16
  if 16 ≤ bs.length ∧ nw ≤ 4096 ∧ nd ≤ 8192 ∧ 4 * nw + nd + 8 * np ≤ rest.length then
    some { imem := (pieces 4 nw rest).map Dev.nat
           data := (rest.drop (4 * nw)).take nd
           progs := (pieces 8 np (rest.drop (4 * nw + nd))).map progOf }
  else none

/-- Budget of a context in a polder's table, in units of 4 cycles (R343). -/
def PolderSec.budget (s : PolderSec) (c : Nat) : Nat :=
  ((s.progs.filter (·.ctx = c)).map (·.budget)).foldl (· + ·) 0

/-- R324, R349 and R510 on one polder's program table. -/
def PolderSec.ok (s : PolderSec) : Bool :=
  s.progs.all (fun x => decide (x.ctx < 128) && decide (1 ≤ x.kind) && decide (x.kind ≤ 4) && decide (x.entry < 4096) &&
    decide (1 ≤ x.budget) && decide (x.budget ≤ 16383)) &&
  (s.progs.map fun x => (x.ctx, if x.kind = 3 then 2 else x.kind)).Nodup &&
  (List.range 128).all fun c => decide (s.budget c ≤ 16383)

/-- The FIC section (R537). -/
structure FicSec where
  start : List Word := []
  test  : List Word := []
  slim  : Nat := 0
  tlim  : Nat := 0
  deriving DecidableEq, Repr, Inhabited

def FicSec.parse (bs : List Byte) : Option FicSec :=
  let sl := Dev.nat (bs.take 4)
  let tl := Dev.nat ((bs.drop 4).take 4)
  let slim := Dev.nat ((bs.drop 8).take 2)
  let tlim := Dev.nat ((bs.drop 10).take 2)
  let ws (n : Nat) (bs : List Byte) : List Word := (pieces 4 n bs).map fun w => BitVec.ofNat 32 (Dev.nat w)
  if 16 ≤ bs.length ∧ 1 ≤ sl ∧ sl ≤ 4096 ∧ tl ≤ 4096 ∧ 1 ≤ slim ∧ slim ≤ 60000 ∧ 1 ≤ tlim ∧ tlim ≤ 6000 ∧
      16 + 4 * (sl + tl) ≤ bs.length then
    some { start := ws sl (bs.drop 16), test := ws tl (bs.drop (16 + 4 * sl)), slim := slim, tlim := tlim }
  else none

/-! ### FIC programs (R541) -/

/-- The formats of R538. -/
inductive FicForm where
  | A | AB | J | O | P
  deriving DecidableEq, Repr

def ficForm (op : Nat) : Option FicForm :=
  if op = 0 then some .J
  else if op = 1 ∨ op = 2 ∨ op = 9 ∨ op = 0xA ∨ op = 0x1B then some .A
  else if (3 ≤ op ∧ op ≤ 8) ∨ (0xB ≤ op ∧ op ≤ 0xD) then some .AB
  else if op = 0x10 ∨ op = 0x11 then some .O
  else if op = 0x12 then some .P
  else if (0x18 ≤ op ∧ op ≤ 0x1A) ∨ (0x20 ≤ op ∧ op ≤ 0x23) ∨ op = 0x3F then some .J
  else none

/-- Word offsets that FIC reaches (R539). -/
def ficOffOk (w : Nat) : Bool := decide (w / 2 ^ 18 = 0) && decide (w < 0x3C000)

/-- One word of a program of `n` words; `w1` is the word after it. -/
def ficWordOk (isTest : Bool) (n w w1 : Nat) : Bool :=
  let op := w / 2 ^ 24
  let target := decide (w % 4096 < n)
  match ficForm op with
  | none => false
  | some .A => w / 2 ^ 16 % 16 == 0 && (op != 0x1B || target)
  | some .AB => w % 2 ^ 16 == 0
  | some .J => w / 2 ^ 16 % 256 == 0 && (!(decide (0x18 ≤ op) && decide (op ≤ 0x1A)) || target) &&
      (op != 0x23 || isTest) && (op != 0x3F || decide (w % 4 < 2) || (w % 4 == 2 && !isTest))
  | some .O => ficOffOk (w % 2 ^ 20)
  | some .P => w % 2 ^ 16 != 0 && ficOffOk w1

/-- A program from some word on: every instruction passes, and its last word is an END. -/
def ficProgOk (isTest : Bool) (n : Nat) : List Word → Bool
  | [] => false
  | [w] => ficWordOk isTest n w.toNat 0 && w.toNat / 2 ^ 24 == 0x3F
  | w :: w1 :: ws =>
    ficWordOk isTest n w.toNat w1.toNat &&
      (if w.toNat / 2 ^ 24 = 0x12 then ficProgOk isTest n ws else ficProgOk isTest n (w1 :: ws))

/-- END 2 among the instructions of a program (R541). -/
def ficEnds2 : List Word → Bool
  | [] => false
  | [w] => w.toNat / 2 ^ 24 == 0x3F && w.toNat % 4 == 2
  | w :: w1 :: ws =>
    if w.toNat / 2 ^ 24 = 0x12 then ficEnds2 ws
    else (w.toNat / 2 ^ 24 == 0x3F && w.toNat % 4 == 2) || ficEnds2 (w1 :: ws)

def FicSec.ok (s : FicSec) : Bool :=
  ficProgOk false s.start.length s.start && (s.test == [] || ficProgOk true s.test.length s.test) &&
    (!ficEnds2 s.start || s.test != [])

/-! ### Load records (R509) and the candidate register file -/

/-- What loads a field of the register at an offset: the levels of sources 34 to 43 are safety parameters (R452). -/
def loadAt (off : Nat) (f : FieldAt) : LoadBy :=
  if f.load = .none then .none else if off = 0x20050 ∨ off = 0x20054 then .safety else f.load

/-- A value lies within the stated range of a field. -/
def inRange (f : FieldAt) (v : Nat) : Bool :=
  if 0x80000 ≤ f.fld.off ∧ f.fld.off < 0x88000 ∧ f.fld.off % 0x100 = 0x10 ∧ f.fld.lsb = 0 then
    decide (v < 144) || v == 0xFF
  else if f.fld.off = 0xA0008 then
    (List.range 6).all fun g => v / 2 ^ (3 * g) % 8 == 0 || decide (4 ≤ v / 2 ^ (3 * g) % 8)
  else decide (f.lo ≤ v) && decide (v ≤ f.hi)

/-- The value of a field in a word. -/
def fieldIn (f : Fld) (v : Nat) : Nat := v / 2 ^ f.lsb % 2 ^ f.w

/-- A load record is valid in the LOADLIST (`by` image) or in the SAFETY section (R509). -/
def recordOk (by' : LoadBy) (r : Nat × Nat) : Bool :=
  let fs := (fieldsAt r.1).filter fun f => loadAt r.1 f = by'
  decide (r.1 < 2 ^ 24) && r.1 % 4 == 0 && fs != [] &&
    (fs.map fun f => fieldIn f.fld r.2 * 2 ^ f.fld.lsb).foldl (· + ·) 0 == r.2 &&
    fs.all fun f => inRange f (fieldIn f.fld r.2)

/-- A key of the register file belongs to a field that an image loads. -/
def isLoaded (key : Nat) : Bool := (fieldsAt (key / 32)).any fun f => f.fld.key == key && f.load != .none

namespace Dev

/-- A load record applied. -/
def applyRecord (r : Nat × Nat) (d : Dev) : Dev :=
  each ((fieldsAt r.1).filter fun f => f.load ≠ .none) (fun f d => d.put f.fld (fieldIn f.fld r.2)) d

/-- The register file that an image gives: every field that an image loads starts from its reset value (R509). -/
def loadedBy (rs : List (Nat × Nat)) (d : Dev) : Dev :=
  each rs applyRecord { d with regs := d.regs.filter fun e => !isLoaded e.1 }

end Dev

/-- Everything that an image sets. -/
structure Setup where
  recs    : List (Nat × Nat) := []
  safety  : SafetySec := {}
  polders : List (Nat × PolderSec) := []
  fic     : FicSec := {}
  /-- The device with the register file of the image. -/
  cand    : Dev := {}
  deriving DecidableEq, Repr

namespace Setup

/-- Checks 9 to 17 as conditions of the candidate (R512). -/
def nomExact (s : Setup) : Nat := s.cand.nominal * (1000000 - s.cand.get TIDE_NCO_CFG_WINDOW)

/-- The sum of the LED set currents in quarter milliamperes (R140, R610). -/
def ledSum (s : Setup) : Nat := (Dev.allLanes.map fun L => 20 + s.cand.get (LANE_CFG_ION L)).foldl (· + ·) 0

/-- A field whose range excludes its reset value 0, without a record (R509). -/
def missing (s : Setup) : Bool := (List.range 24).any fun x => !(s.safety.recs.any fun r => r.1 == (FLD_IN_DEB x).off)

/-- The limit of R345 in cycles; P_min in 2^-16 ns and 10^-6. -/
def budgetLimit (s : Setup) (p : Nat) : Nat :=
  let u := 65536 * 1000000
  min (9 * s.nomExact / (40 * u)) ((s.nomExact - (10 * s.cand.get (PLD_SCHED_START p) + 832) * u) / (4 * u))

/-- Put into falling order. -/
def insertDown (x : Nat) : List Nat → List Nat
  | [] => [x]
  | y :: ys => if y ≤ x then x :: y :: ys else y :: insertDown x ys

def budgetOk (s : Setup) (p : Nat × PolderSec) : Bool :=
  let bs := ((List.range 128).map p.2.budget).foldl (fun m b => insertDown b m) []
  decide (4 * (bs.take 16).foldl (· + ·) 0 ≤ s.budgetLimit p.1)

/-- Symbols per deckle of classes A and B on a lane: a sheet frame, a time mark, a RANGE frame and a resume (R28). -/
def laneLoad : Nat := 24 + 4 + 16 + 1

/-- R28: the load of a lane, in 8 ns symbols, is at most 80 % of the shortest deckle. -/
def laneLoadOk (s : Setup) : Bool := decide (10 * (laneLoad * 8) * 65536 * 1000000 ≤ 8 * s.nomExact)

/-- R246: the transmit load of the sluice port in symbols of 1.6 ns. -/
def sluiceLoadOk (s : Setup) : Bool :=
  let n := if s.cand.get GLB_MODE_CFG_RUN_MODEL = 4 then 48 else 128
  let e := 4 * n
  let u := 54 + 36 * n + 8 * e + 16 * ((n + 7) / 8 + (e + 15) / 16 + 2)
  decide (u * 16 * 65536 * 1000000 ≤ 8 * s.nomExact * (if s.cand.sluSplit then 2 else 1))

def lockstep (s : Setup) : Bool := s.cand.get GLB_MODE_CFG_RUN_MODEL == 4

/-- The LOCKSTEP rule of R66. -/
def periodOk (s : Setup) : Bool := !s.lockstep || decide (1310720000 * 1000000 ≤ s.nomExact)

def listed (s : Setup) : Nat := (Dev.allCtx.filter fun c => s.cand.flag (CTX_STATE_LISTED c)).length

/-- R52 for an image. -/
def lockstepOk (s : Setup) : Bool :=
  !s.lockstep || (decide (s.listed ≤ 48) && decide (1310720000 ≤ s.cand.nominal) && s.cand.get TIDE_SYNC_ROLE == 0)

/-- An input is pulsed, or of type WB. -/
def sensed (d : Dev) (x : Nat) : Bool :=
  d.get (FLD_IN_TYPE x) == 3 || d.get FLD_GRP_SRC / 2 ^ (3 * (x / 4)) % 8 != 0

/-- R422. -/
def cabinetOk (d : Dev) : Bool :=
  let lamp (k : Nat) := d.isLamp k
  let lit (a : Nat) := d.get (CAB_ASP_LIT a)
  let flash (a : Nat) := d.get (CAB_ASP_FLASH a)
  (List.range 8).all (fun a => (List.range 16).all fun k =>
    (!(lit a).testBit k || lamp k) && (!(flash a).testBit k || (lit a).testBit k)) &&
  (List.range 8).all (fun a => a == 0 || decide (Dev.cabRank a < Dev.cabRank (d.get CAB_FALLBACK_FB / 2 ^ (3 * a) % 8))) &&
  (List.range 2).all (fun g => !d.bit FLD_CFG_USE g ||
    (List.range 8).any fun i => (lit 0).testBit (8 * g + i)) &&
  (List.range 16).all (fun k => !(lit 7).testBit k || !d.flag (FLD_OUT_SILENT k)) &&
  (lit 7 == 0 || d.get CAB_ISO_MASK != 0) &&
  (List.range 24).all fun x => !d.bit CAB_ISO_MASK x || (d.isSafetyIn x && sensed d x)

/-- R435. -/
def resetOk (d : Dev) : Bool :=
  !d.flag SAF_RESET_EN ||
    (!d.isSafetyIn (d.get SAF_RESET_IN) && sensed d (d.get SAF_RESET_IN) &&
      decide (10 * d.get SAF_RESET_TMIN < 100 * d.get SAF_RESET_TMAX))

/-- R438. -/
def contactorsOk (d : Dev) : Bool :=
  let on := (List.range 4).filter fun j => d.flag (SAF_CON_EN j)
  on.all (fun j => d.isSafetyOut (d.get (SAF_CON_OUT j)) && !d.isLamp (d.get (SAF_CON_OUT j)) &&
    d.isSafetyIn (d.get (SAF_CON_FB j))) &&
  (on.map fun j => d.get (SAF_CON_OUT j)).Nodup && (on.map fun j => d.get (SAF_CON_FB j)).Nodup

/-- The permitted levels of a source (R457, R88). -/
def levelRange (d : Dev) (s : Nat) : Nat × Nat :=
  if s < 8 then (2, 4) else if s < 16 then (1, 4) else if s < 24 then (0, 4) else if s = 24 then (3, 4)
  else if s < 28 then (0, 4) else if s = 28 then (if d.get TIDE_SYNC_ROLE = 2 then (2, 4) else (0, 4))
  else if s = 29 then (1, 4) else if s = 30 then (2, 4) else if s = 31 then (1, 4) else if s < 34 then (2, 4)
  else if s < 38 then (3, 4) else if s < 40 then (2, 4) else if s < 44 then (1, 4) else if s = 44 then (4, 4)
  else if s < 53 then (0, 4) else if s = 53 then (1, 4) else (0, 0)

def levelsOk (d : Dev) : Bool :=
  (List.range 64).all fun s => decide ((levelRange d s).1 ≤ d.level s) && decide (d.level s ≤ (levelRange d s).2)

def safetyOk (d : Dev) : Bool :=
  cabinetOk d && resetOk d && contactorsOk d && levelsOk d && decide (d.get TWIN_TIME_PAIRW < 10 * d.get TWIN_TIME_WDOG)

/-- The home lane of a context in the image. -/
def homeOf (d : Dev) (c : Nat) : Option Nat := if d.get (CTX_BIND_LANE c) < 144 then some (d.get (CTX_BIND_LANE c)) else none

/-- R83: the home lanes of a gang lie in one polder. -/
def gangsOk (d : Dev) : Bool :=
  (List.range 16).all fun g =>
    let ps := (Dev.allCtx.filter fun c => d.gangOf c == some g).filterMap fun c => (homeOf d c).map (· / 18)
    ps.all fun p => p == ps.headD 0

/-! ### Resource claims (R513) -/

/-- The claimants of a resource: kind and instance, in rising order. -/
def claimants (s : Setup) (kind idx : Nat) : List (Nat × Nat) :=
  let d := s.cand
  let uses (lo hi : Nat) := ((List.range s.safety.bank.plen).filter fun w =>
      let v := (Dev.codeWord s.safety.bank w).toNat
      decide (lo ≤ v / 2 ^ 24) && decide (v / 2 ^ 24 ≤ hi) && v % 65536 == idx).map fun w => (8, w)
  match kind with
  | 1 => ((List.range 4).filter fun j => d.flag (SAF_CON_EN j) && d.get (SAF_CON_OUT j) == idx).map (fun j => (5, j)) ++
      (if d.isLamp idx then [(7, idx)] else [])
  | 2 => ((List.range 4).filter fun j => d.flag (SAF_CON_EN j) && d.get (SAF_CON_FB j) == idx).map (fun j => (5, j)) ++
      (if d.flag SAF_RESET_EN && d.get SAF_RESET_IN == idx then [(6, 0)] else [])
  | 3 => ((List.range 6).filter fun g => d.get FLD_GRP_SRC / 2 ^ (3 * g) % 8 == 4 + idx).map fun g => (4, g)
  | 4 => (Dev.allCtx.filter fun c => homeOf d c == some idx).map (fun c => (1, c)) ++
      (if d.get (LANE_CFG_ROLE idx) = 1 then [(2, idx)] else [])
  | 5 => uses 0x18 0x1A
  | 6 => uses 0x0F 0x10
  | _ => ((List.range 6).filter fun i =>
      let v := d.get GLB_GPIO_FN_F1 + 16 * d.get GLB_GPIO_FN_F2 + 256 * d.get GLB_GPIO_FN_F3 +
        4096 * d.get GLB_GPIO_FN_F4 + 65536 * d.get GLB_GPIO_FN_F5 + 1048576 * d.get GLB_GPIO_FN_F6
      v / 16 ^ i % 16 == 8 + idx).map fun i => (9, i + 1)

/-- Number of resources of a kind. -/
def resources (kind : Nat) : Nat :=
  match kind with
  | 1 => 16 | 2 => 24 | 3 => 4 | 4 => 144 | 5 => 128 | 6 => 2048 | _ => 8

/-- The conflict of the lowest kind and index: kind, index and its two lowest claimants. -/
def conflict (s : Setup) : Option (Nat × Nat × (Nat × Nat) × (Nat × Nat)) :=
  ([1, 2, 3, 4, 5, 6, 7].map fun kind => (List.range (resources kind)).map fun i => (kind, i)).flatten.findSome? fun r =>
    match s.claimants r.1 r.2 with
    | a :: b :: _ => some (r.1, r.2, a, b)
    | _ => none

/-- R374 with R371: check 11 leaves a timer that two instructions use to check 16. -/
def dikeOk (s : Setup) : Bool :=
  Dev.bankForm (s.cand.get DIKE_CFG_CYCLE) s.safety.bank && Dev.usedOnce s.safety.bank 0x0F 0x10 &&
    Dev.symsOk s.safety.bank.syms

end Setup

namespace Image

/-- The setup that an image spells, as far as its sections have the form of R510, R511 and R537. -/
def setup (d : Dev) (g : Image) : Setup :=
  let safety := (SafetySec.parse (g.sectionOf 0x20)).getD {}
  let list := g.sectionOf 1
  let recs := (pieces 8 (list.length / 8) list).map recordOf
  { recs := recs
    safety := safety
    polders := (List.range 8).filterMap fun p =>
      (g.indexOf (0x10 + p)).map fun i => (p, (PolderSec.parse (g.content (g.secAt i))).getD {})
    fic := (FicSec.parse (g.sectionOf 0x30)).getD {}
    cand := Dev.loadedBy (recs ++ safety.recs) d }

/-- DETAIL of a section type. -/
def detail (g : Image) (ty : Nat) : Nat := (g.indexOf ty).getD 0xFF

/-- Check 9. -/
def checkFields (g : Image) (s : Setup) : Option (Nat × Nat) :=
  failUnless ((g.sectionOf 1).length % 8 == 0 && s.recs.all (recordOk .image) && (s.recs.map (·.1)).Nodup) 9 (g.detail 1) <|>
  failUnless (((block 8 (g.sectionOf 0x20)).map fun x => (x.1.map recordOf)).any fun rs =>
    rs.all (recordOk .safety) && (rs.map (·.1)).Nodup) 9 (g.detail 0x20) <|>
  failUnless (!s.missing && decide (s.ledSum ≤ 19040)) 9

/-- Check 10. -/
def checkPolders (g : Image) (s : Setup) : Option (Nat × Nat) :=
  (List.range 8).findSome? (fun p => (g.indexOf (0x10 + p)).bind fun i =>
    failUnless ((PolderSec.parse (g.content (g.secAt i))).any (·.ok)) 0xA i) <|>
  s.polders.findSome? fun x => failUnless (s.budgetOk x) 0xA (g.detail (0x10 + x.1))

/-- Checks 9 to 17. -/
def checkContent (g : Image) (s : Setup) : Option (Nat × Nat) :=
  g.checkFields s <|>
  g.checkPolders s <|>
  failUnless ((SafetySec.parse (g.sectionOf 0x20)).any (·.formOk) && s.dikeOk) 0xB (g.detail 0x20) <|>
  failUnless (s.laneLoadOk && s.sluiceLoadOk && s.periodOk) 0xC <|>
  failUnless s.lockstepOk 0xD <|>
  failUnless (Setup.safetyOk s.cand) 0xE <|>
  failUnless (Setup.gangsOk s.cand) 0xF <|>
  failUnless (s.conflict == none) 0x10 <|>
  failUnless ((FicSec.parse (g.sectionOf 0x30)).any (·.ok)) 0x11 (g.detail 0x30)

/-- Checks 3 to 17. -/
def check (d : Dev) (g : Image) : Option (Nat × Nat) := checkSeal d g <|> g.checkContent (g.setup d)

/-- Salt and derived key of the SECURITY section (R508). -/
def password (g : Image) : List Byte × List Byte :=
  ((g.sectionOf 0x40).take 16, ((g.sectionOf 0x40).drop 16).take 32)

end Image

end Sys2Proof.Machine
end

