-- ==== Sys2Proof/Machine/SafetyFn.lean ====
section
/-! DEFINITION. The safety function (chapter 13): the safe-demand word in the polders, the limits of the contactor
channels, and the twin telegrams.  The edge reset stands with the frames of the berm that carry its input. -/

namespace Sys2Proof.Machine

open Reg

namespace Dev

/-! ### The safe-demand word (R431 to R434) -/

/-- The safe-demand word for a polder: ALL, the toggle bit, one bit for each context bound to a lane of the polder, and the
CRC-8 over them (R431).  DESIGN CHOICE (log 98): the spec gives the word no layout; the model takes ALL in bit 0 and the
toggle in bit 1 of the first byte, and the demand bits by context in 16 bytes. -/
def demandWord (d : Dev) (p : Nat) (toggle : Bool) : List Byte :=
  let mine (c : Nat) : Bool := d.isBound c && match d.laneOf c with | some L => L / 18 == p | none => false
  let all := d.flag SAF_STATUS_ALL
  let body := BitVec.ofNat 8 (all.toNat + 2 * toggle.toNat) ::
    ctxBytes fun c => mine c && (all || d.demandBits.testBit c)
  body ++ [BitVec.ofNat 8 (crc8 body)]

/-- A polder takes a demand: contexts whose demand rises are made safe at once, those whose demand falls enter SAFEHOLD
in LOCKSTEP, TIDE, COUCH and HOLD; the end of the initial ALL is no fall (R432, R434). -/
def takeDemand (p : Nat) (all : Bool) (bits : Nat) (d : Dev) : Dev :=
  let mine := allCtx.filter fun c => d.isBound c && match d.laneOf c with | some L => L / 18 == p | none => false
  let was := d.polder p
  let old (c : Nat) : Bool := was.demandAll || was.demand.testBit c
  let fell (c : Nat) : Bool := !was.initial && old c
  let new (c : Nat) : Bool := all || bits.testBit c
  let d := d.setPolder p { was with demandAll := all, demand := bits, initial := was.initial && all }
  let d := each (mine.filter fun c => !old c && new c) safeNow d
  if [4, 5, 6, 7].contains d.effMode then each (mine.filter fun c => fell c && !new c) (setSafeHold · true) d else d

/-- A polder receives a safe-demand word: one that fails its CRC demands the safe aspect of all its contexts, and one
without a new toggle value counts for nothing (R431). -/
def receiveDemand (p : Nat) (word : List Byte) (d : Dev) : Dev :=
  let x := d.polder p
  let head := (word.getD 0 0)
  if crc8 (word.take 17) ≠ (word.getD 17 0).toNat then takeDemand p true x.demand d
  else if head.getLsbD 1 = x.toggle then d
  else takeDemand p (head.getLsbD 0) (nat ((word.drop 1).take 16)) (d.setPolder p { x with toggle := head.getLsbD 1 })

/-! ### Twin telegrams (R441 to R448) -/

/-- The CRC-32C of R442. -/
def crc32c (bs : List Byte) : Nat := bs.foldl (crcLsbByte 0x82F63B78) 0xFFFFFFFF ^^^ 0xFFFFFFFF

/-- Sources 41 and 42 (R629). -/
def refreshTwin (d : Dev) : Dev :=
  d.breachConds ([0, 1].map fun k => (41 + k,
    decide (d.get TWIN_CFG_LOSSLIM ≤ d.get (TWIN_PORT_CONSEC k)) || d.saf.tstate == 6, d.get (TWIN_PORT_CONSEC k)))

/-- A change of TSTATE raises event 182 (R455). -/
def setTstate (v : Nat) (d : Dev) : Dev :=
  if d.saf.tstate = v then d else (d.onSaf fun s => { s with tstate := v }).event 182

/-- The run permit; its fall latches the direct stop when DIRECT = 1 (R447). -/
def setRunp (v : Bool) (d : Dev) : Dev :=
  let fall := d.saf.runp && !v
  let d := d.onSaf fun s => { s with runp := v }
  if fall && d.flag TWIN_CFG_DIRECT then ((d.set SAF_STATUS_DSTOP).refreshAll).conStepAll else d

/-- A telegram is accepted (R445). -/
def twinAccept (c : Copy) (state : Nat) (d : Dev) : Dev :=
  let data := c.body.drop 9
  let d := d.onSaf fun s => { s with seqOk := true, lastSeq := c.tseq, acceptAt := some d.up, data := data, copy := none }
  (setTstate state (setRunp ((data.getD 0 0).getLsbD 0) (d.put TWIN_SEQ_TSEQ c.tseq))).refreshTwin

/-- The open window ends with one copy (R445): a single loss on the other port. -/
def twinSingle (c : Copy) (d : Dev) : Dev :=
  let other := 1 - c.port
  let d := ((d.inc (TWIN_PORT_SLOSS other)).inc (TWIN_PORT_CONSEC other)).onSaf fun s => { s with copy := none }
  if d.flag TWIN_CFG_SINGLE then twinAccept c (2 + c.port) d else (setTstate (2 + c.port) d).refreshTwin

/-- A valid copy with RUN_PERMIT = 0 acts at once (R446). -/
def twinStop (c : Copy) (d : Dev) : Dev :=
  setRunp false (d.onSaf fun s => { s with data := c.body.drop 9 })

/-- A copy that meets R441 is decided (R444 to R446). -/
def twinCopy (k : Nat) (bs : List Byte) (d : Dev) : Dev :=
  let tseq := nat ((bs.drop 6).take 4)
  let body := bs.take 1 ++ (bs.drop 2).take 40
  let win := d.saf.copy
  let ahead (a b : Nat) : Bool := decide (1 ≤ (a + (2 ^ 32 - b)) % 2 ^ 32) && decide ((a + (2 ^ 32 - b)) % 2 ^ 32 < 2 ^ 31)
  let older : Bool := match win with
    | some w => w.tseq != tseq && !ahead tseq w.tseq
    | none => false
  if crc32c (bs.take 42) ≠ nat ((bs.drop 42).take 4) then d.inc (TWIN_PORT_CRCERR k)
  else if bs.getD 0 0 ≠ 1 ∨ bs.getD 1 0 ≠ BitVec.ofNat 8 (0x0A + k) ∨ nat ((bs.drop 2).take 2) ≠ d.get TWIN_ID_SRC ∨
      nat ((bs.drop 4).take 2) ≠ d.get TWIN_ID_DST ∨ (d.saf.seqOk && !ahead tseq d.saf.lastSeq) ∨ older = true ∨
      Table.get 0 d.saf.portSeq k = tseq + 1 then
    d.inc (TWIN_PORT_REJECT k)
  else
    let d := d.onSaf fun s =>
      { s with portSeq := Table.put 0 s.portSeq k (tseq + 1), freshAt := Table.insert (Table.erase s.freshAt k) k d.up }
    let c : Copy := ⟨k, tseq, body⟩
    let stop := !((body.drop 9).getD 0 0).getLsbD 0
    match win with
    | some w =>
      if w.tseq = tseq then
        if w.body = body then
          twinAccept c 1 (((d.clr (TWIN_PORT_CONSEC 0)).clr (TWIN_PORT_CONSEC 1)))
        else
          let d := (d.onSaf fun s => { s with copy := none }).inc TWIN_CMP_MISMATCH
          let d := if stop then twinStop c d else d
          ((setTstate 5 d).refreshTwin).breach 43 0
      else
        let d := (twinSingle w d).onSaf fun s => { s with copy := some c }
        if stop then (setTstate 4 (twinStop c d)).refreshTwin else d
    | none =>
      let d := d.onSaf fun s => { s with copy := some c }
      if stop then (setTstate 4 (twinStop c d)).refreshTwin else d

end Dev

open Dev

/-- The terp island sends a polder its word of the terp cycle, with the toggle bit inverted, and the polder receives it;
`flips` names the bits that change on the way (R431). -/
def execSafeDemandWord (p : Fin 8) (flips : BitVec 144) (s : State) := s.next fun d =>
  let t := !Table.get false d.saf.toggle p.val
  let word := d.demandWord p.val t
  let d := (d.onSaf fun s => { s with toggle := Table.put false s.toggle p.val t }).send (.safeDemand p.val word)
  receiveDemand p.val (word.zipWith (· ^^^ ·) (le 18 flips.toNat)) d

def execSafeDemandTimeout (p : Fin 8) (s : State) := s.next fun d => takeDemand p.val true (d.polder p.val).demand d

/-- CLOSING at TON (R440). -/
def execContactorTonExpiry (j : Fin 4) (s : State) := s.next fun d =>
  if d.flag (SAF_CON_EN j.val) && d.conState j.val == 1 && d.supply != 3 then conFault j.val 8 d else d

/-- OPENING at TOFF; the timer stands still in DROPOUT (R440). -/
def execContactorToffExpiry (j : Fin 4) (s : State) := s.next fun d =>
  if d.flag (SAF_CON_EN j.val) && d.conState j.val == 3 && d.supply != 3 then conFault j.val 9 d else d

/-- A frame at a twin port (R441): its FCS, its EtherType behind an optional tag, its payload.  The ports receive from
RAISE on (R447). -/
def execTwinFrame (k : Fin 2) (fcsOk : Bool) (etype : BitVec 16) (bs : List Byte) (s : State) := s.next fun d =>
  if fcsOk && etype.toNat == d.get TWIN_CFG_ETYPE && decide (46 ≤ bs.length) && d.get GLB_MODE_MODE != 0 then
    twinCopy k.val bs d
  else d

def execTwinPairingTimeout (s : State) := s.next fun d =>
  match d.saf.copy with
  | some c => twinSingle c d
  | none => d

/-- No telegram has been accepted for WDOG (R447). -/
def execTwinWatchdog (s : State) := s.next fun d =>
  if d.get GLB_MODE_MODE = 0 ∨ d.saf.tstate = 6 then d else
  let d := (d.inc TWIN_CMP_WDOGEXP).onSaf fun s => { s with data := [] }
  (setTstate 6 (setRunp false d)).refreshTwin

end Sys2Proof.Machine
end

