-- ==== Sys2Proof/Machine/Ream.lean ====
section
/-! DEFINITION. From reams to sheets: map versions (R195, R196), the sheets that sources supply and their use (R234, R237,
R238), the couch's tests and ends (R263 to R274), the work of a cut-off, and what goes toward the engine (R236 to R244).

A supplied sheet has source 0 A, 1 B, 2 S, or 3 for the sheet of a FILL program. -/

namespace Sys2Proof.Machine

open Reg

namespace Dev

/-! ### Map versions (R195, R196, R203) -/

/-- A membership change waits for the next version. -/
def mapChange (c : Nat) (want : Bool) (d : Dev) : Dev :=
  (d.onCell c fun x => { x with changed := true, want := want, inPend := false }).set CTX_MAPVER_WAITING

/-- At a boundary, waiting changes are published as PEND = CUR + 1 when none stands. -/
def publishMap (d : Dev) : Dev :=
  if d.flag CTX_MAPVER_PVALID || !d.flag CTX_MAPVER_WAITING then d else
  let d := each allCtx (fun c d =>
    let x := d.cell c
    if x.changed then
      (d.putB (CTX_MEMBER_PEND c) x.want).onCell c fun x => { x with changed := false, inPend := true }
    else d.put (CTX_MEMBER_PEND c) (d.get (CTX_MEMBER c))) d
  ((d.put CTX_MAPVER_PEND (d.get CTX_MAPVER_CUR + 1)).set CTX_MAPVER_PVALID).clr CTX_MAPVER_WAITING

/-- A context gives up its binding or reservation; a listed context goes back to RESERVED (R182, R203). -/
def freeContext (c : Nat) (d : Dev) : Dev :=
  let x := d.cell c
  let d := setSafeHold c false d
  let d := if d.flag (CTX_STATE_LISTED c) then
      let d := match x.home with
        | some L => (d.put (CTX_BIND_LANE c) L).set (CTX_BIND_VALID c)
        | none => (d.put (CTX_BIND_LANE c) 0xFF).clr (CTX_BIND_VALID c)
      setCtxState c St.reserved d
    else setCtxState c St.free ((d.put (CTX_BIND_LANE c) 0xFF).clr (CTX_BIND_VALID c))
  d.onCell c fun x =>
    { x with buf := [], supply := [], wins := [], sched := [], boundAt := none, hc := 0, resumeAt := none, ret := none,
             fails := [], failDue := false, missed := 0 }

/-- A RETIRING context is released when the version that excludes it commits (R203). -/
def releaseRetired (c : Nat) (d : Dev) : Dev :=
  let d := match d.laneOf c with
    | some L => laneDark L d
    | none => d
  freeContext c ((d.clr (CTX_ID_LO c)).clr (CTX_ID_HI c))

/-- The context is RETIRING, and a version that excludes it is in force for target m (R196, R203). -/
def leaving (d : Dev) (c m : Nat) : Bool :=
  d.ctxState c == St.retiring && (d.cell c).inPend && !d.flag (CTX_MEMBER_PEND c) &&
    (match d.survey.commitAt with
     | some t => decide (t ≤ m)
     | none => false)

/-- An accepted ream of target m that carries PEND commits it from m on (R196): its JOINING contexts are BOUND from
there. -/
def commitFrom (m : Nat) (d : Dev) : Dev :=
  let t := match d.survey.commitAt with
    | some k => min k m
    | none => m
  each allCtx (fun c d =>
    if (d.cell c).inPend && d.ctxState c == St.joining && d.flag (CTX_MEMBER_PEND c) then
      d.onCell c fun x => { x with boundAt := some t }
    else d) (d.onSurvey fun s => { s with commitAt := some t })

/-- At the boundary of the target deckle that commits PEND, PEND becomes CUR (R196): the contexts that it excludes are
released (R203). -/
def commitMap (d : Dev) : Dev :=
  let now := match d.survey.commitAt with
    | some t => decide (t ≤ d.tide.n)
    | none => false
  if !now || !d.flag CTX_MAPVER_PVALID then d else
  let d := each allCtx (fun c d =>
    let gone := d.leaving c d.tide.n
    let d := (d.putB (CTX_MEMBER c) (d.flag (CTX_MEMBER_PEND c))).clr (CTX_MEMBER_PEND c)
    let d := d.onCell c fun x => { x with inPend := false }
    if gone then releaseRetired c d else d) d
  ((d.put CTX_MAPVER_CUR (d.get CTX_MAPVER_PEND)).clr CTX_MAPVER_PVALID).onSurvey fun s => { s with commitAt := none }

/-! ### Whether a context takes a source's sheet for a target -/

/-- The context is BOUND for target m (R193, R196). -/
def boundFor (d : Dev) (c m : Nat) : Bool :=
  d.ctxState c == St.bound || (d.ctxState c == St.joining && match (d.cell c).boundAt with
    | some t => decide (t ≤ m)
    | none => false)

/-- The context has its sheet for target m. -/
def done (d : Dev) (c m : Nat) : Bool :=
  match (d.cell c).doneM with
  | some k => decide (m ≤ k)
  | none => false

/-- Sheets of the sources are applied for target m: in LOCKSTEP, TIDE and COUCH, and in an imposed HOLD before its first
deckle (R50, R234). -/
def appliesFor (d : Dev) (m : Nat) : Bool := d.applies || (d.effMode == 7 && decide (m < d.mode.holdM))

/-- The source in force for a context and a target (R258, R266 to R270). -/
def srcFor (d : Dev) (c m : Nat) : Nat :=
  if d.flag COUCH_STATUS_ACTIVE then
    match d.couch.ending with
    | some (a, code) => if a ≤ m then (if code = 7 then d.get COUCH_STATUS_OUT else d.get COUCH_STATUS_IN) else d.srcOf c
    | none => d.srcOf c
  else d.srcOf c

def supplyFor (d : Dev) (c src m : Nat) : Option Supplied :=
  (d.cell c).supply.find? fun u => u.src == src && u.sheet.tgt == m

/-- A supplied sheet is used (R237 to R239): it ends a SAFEHOLD when it carries the release, and is discarded in a
SAFEHOLD otherwise. -/
def useSupply (c : Nat) (u : Supplied) (ref : Nat) (d : Dev) : Dev :=
  let m := u.sheet.tgt
  let d := d.onCell c fun x => { x with supply := x.supply.filter (· ≠ u) }
  let sheet := { u.sheet with mapv := u.mapv, ref := if u.src < 2 then some ref else none }
  if (d.cell c).safeHold then
    let release := if u.src = 2 then
        (match (d.cell c).resumeAt with
         | some t => decide ((t + ns 1000 : Int) ≤ d.cutoff m)
         | none => false)
      else u.resume
    if release then
      dispatch c sheet ((setSafeHold c false d).onCell c fun x => { x with hc := 0, resumeAt := none })
    else if u.src = 2 then d else d.inc SLU_HOLD_NORESUME
  else
    dispatch c sheet (if d.demanded c then d else d.onCell c fun x => { x with hc := 0 })

/-! ### The couch (R263 to R274) -/

/-- The context is tested for target m: a couch runs, the context is BOUND, not in SAFEHOLD, not moved, and no end of
the couch covers the target (R263). -/
def tested (d : Dev) (c m : Nat) : Bool :=
  d.flag COUCH_STATUS_ACTIVE && decide (d.couch.m1 ≤ m) && d.ctxState c == St.bound && !(d.cell c).safeHold &&
    !d.flag (COUCH_MAP c) && decide (m < d.couch.m1 + d.couch.timeout) && match d.couch.ending with
      | some (a, _) => decide (m < a)
      | none => true

/-- Target m lies beyond the timeout of a couch whose policy has still to be applied (R267). -/
def couchDue (d : Dev) (m : Nat) : Bool :=
  d.flag COUCH_STATUS_ACTIVE && d.couch.ending == none && d.get COUCH_PROG_REMAIN != 0 &&
    decide (d.couch.m1 + d.couch.timeout ≤ m)

/-- Largest difference of corresponding instants in 250 ps. -/
def instDiff (xs ys : List Entry) : Nat :=
  ((xs.zip ys).map fun e => if e.1.inst ≤ e.2.inst then e.2.inst - e.1.inst else e.1.inst - e.2.inst).foldl max 0

def dabDiff (a b : Nat) : Nat := ((sgn 16 a) - (sgn 16 b)).natAbs

/-- The first condition of R264 that two sheets fail, as a REASON of R281 with its DIFF; nothing when they agree. -/
def disagree (d : Dev) (c : Nat) (o i : Sheet) : Option (Nat × Nat) :=
  let xs := o.nonKeep
  let ys := i.nonKeep
  if !d.sheetOk c o || !d.sheetOk c i then some (3, 0)
  else if xs.map (·.asp) ≠ ys.map (·.asp) then some (4, 0)
  else if d.couch.tol * 4 < instDiff xs ys then some (5, min (instDiff xs ys / 4) 0xFFFF)
  else if o.dabv ≠ i.dabv ∨ (o.dabv ∧ d.couch.dabtol * 32 < dabDiff o.dabph i.dabph) then
    some (6, min (dabDiff o.dabph i.dabph) 0xFFFF)
  else none

def recordDis (c reason diff : Nat) (d : Dev) : Dev :=
  ((d.put COUCH_DIS_CTX c).put COUCH_DIS_REASON reason).put COUCH_DIS_DIFF diff

/-- The couch ends (R274): every context is on the incoming or on the outgoing source, and COUCH is left for BASE at the
boundary (R47). -/
def couchEnd (code : Nat) (toIn : Bool) (d : Dev) : Dev :=
  if !d.flag COUCH_STATUS_ACTIVE then d else
  let src := if toIn then d.get COUCH_STATUS_IN else d.get COUCH_STATUS_OUT
  let d := each allCtx (fun c d => if toIn then d.putB (COUCH_MAP c) (d.isMember c) else d.clr (COUCH_MAP c)) d
  let d := ((d.clr COUCH_STATUS_ACTIVE).put COUCH_STATUS_END code).put SLU_SRC_ACTIVE src
  let d := (if toIn then d.clr COUCH_PROG_REMAIN else d).onCouch fun x => { x with ending := none }
  let d := d.event 187
  if d.get GLB_MODE_MODE = 6 ∧ d.get GLB_MODE_PENDING = 0xF then
    (d.put GLB_MODE_PENDING (d.get GLB_MODE_BASE)).onMode fun x => { x with pendAt := d.now, pendCause := 8, pendPark := false }
  else d

/-- The sluice lane of a source is UP (R271, R219). -/
def srcUp (d : Dev) (src : Nat) : Bool :=
  if src = 0 then d.get (SLU_LINK_STATE 0) == 2 || (d.sluSplit && d.get (SLU_LINK_STATE 1) == 2)
  else d.get (SLU_LINK_STATE 1) == 2

/-- A source A or B fails at a cut-off (R271); S fails with its engine (`couchSFail`). -/
def srcFails (d : Dev) (src : Nat) : Bool :=
  decide (src < 2) && (!d.srcUp src || ((d.source src).heard.take 2 == [false, false]))

/-- A failed source ends the couch after a cut-off (R271 to R273). -/
def couchFailures (d : Dev) : Dev :=
  if !d.flag COUCH_STATUS_ACTIVE then d
  else if d.srcFails (d.get COUCH_STATUS_IN) then (couchEnd 5 false d).breach 48 5
  else if d.srcFails (d.get COUCH_STATUS_OUT) then couchEnd 4 true d
  else d

/-- Source S fails: a polder engine raises source 8 + p during a couch that involves S (R271 to R273). -/
def couchSFail (d : Dev) : Dev :=
  if !d.flag COUCH_STATUS_ACTIVE then d
  else if d.get COUCH_STATUS_IN = 2 then (couchEnd 5 false d).breach 48 5
  else if d.get COUCH_STATUS_OUT = 2 then couchEnd 4 true d
  else d

/-! ### Using what the sources supply -/

/-- A context takes its sheet for target m as soon as the sources allow it (R231, R265); sheets of S outside a couch wait
for the cut-off (R326). -/
def offer (m c : Nat) (ref : Nat) (d : Dev) : Dev :=
  if !d.boundFor c m || decide (m < (d.cell c).nb) || d.done c m || !d.appliesFor m || d.couchDue m then d
  else if d.tested c m then
    match d.supplyFor c (d.get COUCH_STATUS_OUT) m, d.supplyFor c (d.get COUCH_STATUS_IN) m with
    | some o, some i =>
      match d.disagree c o.sheet i.sheet with
      | none => (couchPlace c d |> useSupply c i ref)
      | some (r, diff) => recordDis c r diff d |> useSupply c o ref
    | _, _ => d
  else if d.srcFor c m = 2 then d
  else match d.supplyFor c (d.srcFor c m) m with
    | some u => useSupply c u ref d
    | none => d

/-- A context enters SAFEHOLD and takes the safe aspect for target m (R238). -/
def enterHold (c m : Nat) (d : Dev) : Dev :=
  dispatch c { d.safeSheet c m with mapv := d.mapvFor m } (setSafeHold c true d)

/-- A context repeats (R237): HC rises, and its first repeat raises event 186 (R235). -/
def repeatNow (c m : Nat) (count : Bool) (d : Dev) : Dev :=
  let d := if count && !d.demanded c then
      let hc := (d.cell c).hc + 1
      let d := (d.onCell c fun x => { x with hc := hc }).peak SLU_HOLD_REPMAX hc
      if hc = 1 then d.event 186 else d
    else d
  dispatch c (d.repeatSheet c m) d

/-- At C(m) a BOUND context of a run mode that still has no sheet for m gets one (R237, R238, R265); the answer tells
whether it entered SAFEHOLD. -/
def closeRun (m c ref : Nat) (d : Dev) : Bool × Dev :=
  let o := d.supplyFor c (d.get COUCH_STATUS_OUT) m
  let (u, d) := if d.tested c m then
      (o, recordDis c (if o = none then 1 else 2) 0 d)
    else (d.supplyFor c (d.srcFor c m) m, d)
  let d := match u with
    | some u => useSupply c u ref d
    | none => d
  if d.done c m then (false, d)
  else if (d.cell c).safeHold || d.demanded c then
    (false, dispatch c { d.safeSheet c m with mapv := d.mapvFor m } d)
  else if d.get SLU_HOLD_LIMIT ≤ (d.cell c).hc then (true, enterHold c m d)
  else (false, repeatNow c m true d)

/-- At C(m) a bound context gets its sheet for m, as its mode and its state have it; the answer tells whether it entered
SAFEHOLD. -/
def closeCell (m c : Nat) (d : Dev) : Bool × Dev :=
  let ref := (d.cutoff m / 65536).toNat
  let cur := d.mapvFor m
  let safe := { d.safeSheet c m with mapv := cur }
  let holding := d.holdingSheet c m
  let mode := d.effMode
  if !d.isBound c || decide (m < (d.cell c).nb) || d.done c m || !d.lanesLit || d.leaving c m then (false, d)
  else if mode = 8 || (mode = 3 && (d.cell c).safeHold) then (false, dispatch c safe d)
  else if mode = 2 || !d.boundFor c m then (false, dispatch c holding d)
  else if mode = 3 then
    match d.supplyFor c 3 m with
    | some u =>
      let (s, d) := fillSubst c u.sheet d
      (false, dispatch c { s with mapv := cur } (d.onCell c fun x => { x with supply := x.supply.filter (· ≠ u) }))
    | none => (false, dispatch c holding d)
  else if mode = 7 && decide (d.mode.holdM ≤ m) then
    if d.mode.parked || (d.cell c).safeHold || decide (d.get SLU_HOLD_LIMIT ≤ m - d.mode.holdM) then (false, dispatch c safe d)
    else (false, repeatNow c m false d)
  else closeRun m c ref d

/-- What each source delivered for target m (R630, R271). -/
def noteSources (m : Nat) (d : Dev) : Dev :=
  each [0, 1] (fun k d =>
    let acc := (d.source k).accepted.filter fun e => e.1 = m
    let heard := decide (acc ≠ [])
    let full := allCtx.all fun c => d.ctxState c != St.bound || acc.any fun e => e.2.1.testBit c
    d.onSource k fun s =>
      { s with valid := ((heard && full) :: s.valid).take 16, heard := (heard :: s.heard).take 4,
               accepted := s.accepted.filter fun e => decide (m < e.1) }) d

/-- Before the sheets of target m: a couch that was to end there ends, and contexts that need no test are on the
incoming source (R263, R268 to R270). -/
def couchBefore (m : Nat) (d : Dev) : Dev :=
  let d := match d.couch.ending with
    | some (a, code) => if a ≤ m then couchEnd code (code == 2) d else d
    | none => d
  if d.flag COUCH_STATUS_ACTIVE then
    each allCtx (fun c d =>
      if d.isMember c && (d.ctxState c != St.bound || (d.cell c).safeHold) then couchPlace c d else d) d
  else d

/-- A target deckle is tested in the couch (R267): not the one of the device-built sheets, and none after a cancel. -/
def testsFor (d : Dev) (m : Nat) : Bool :=
  match d.couch.ending with
  | some (a, code) => decide (m + (code == 2).toNat < a)
  | none => true

/-- After the sheets of target m: progress, completion and failures of the couch (R271, R274, R279). -/
def couchAfter (m : Nat) (d : Dev) : Dev :=
  if !d.flag COUCH_STATUS_ACTIVE || decide (m < d.couch.m1) then d else
  let d := if d.testsFor m then d.put COUCH_PROG_ELAPSED (min (d.get COUCH_PROG_ELAPSED + 1) 1024) else d
  let d := d.put COUCH_PROG_REMAIN d.couchRemain
  if d.couchRemain = 0 ∧ d.couch.ending = none then couchEnd 1 true d else d.couchFailures

/-- Every context gets its sheet for m; the answer tells whether one entered SAFEHOLD. -/
def closeAll (m : Nat) (d : Dev) : Bool × Dev :=
  allCtx.foldl (fun r c => let (e, d) := closeCell m c r.2; (r.1 || e, d)) (false, d)

/-- Held sheets of the target after m are dispatched, and what was supplied up to m is given up (R231). -/
def serveHeld (m : Nat) (d : Dev) : Dev :=
  let ref := (d.cutoff m / 65536).toNat
  let d := each allCtx (fun c d => offer (m + 1) c ref d) d
  each allCtx (fun c d => d.onCell c fun x => { x with supply := x.supply.filter fun u => decide (m < u.sheet.tgt) }) d

/-- The work of the cut-off of target m (R43, R230, R231, R237, R238, R263 to R274). -/
def cutOff (m : Nat) (d : Dev) : Dev :=
  let d := (noteSources m (d.onTide fun t => { t with cut := m })).couchBefore m
  let (entered, d) := closeAll m d
  let d := if entered then d.breach 49 0 else d
  -- R43: source 49 once, at HOLD deckle LIMIT + 1
  let d := if d.effMode = 7 ∧ !d.mode.parked ∧ m = d.mode.holdM + d.get SLU_HOLD_LIMIT then d.breach 49 0 else d
  (d.couchAfter m).serveHeld m

end Dev

end Sys2Proof.Machine
end

