-- ==== Sys2Proof/Machine/Lanes.lean ====
section
/-! DEFINITION. What a lane's ranging does to its launch delay (R76 to R83, R194), how a lane binds and leaves its
context (R193, R199), and the vat's records (R305).

Delays are in 1/32 ps, so that the mean of 16 samples, halved, is exact (R79, R80). -/

namespace Sys2Proof.Machine

open Reg

namespace Dev

/-! ### Ranging -/

/-- One update moves the applied delay by at most 250 ps toward the filtered one (R80). -/
def stepDout (cur tgt : Int) : Int := cur + max (-8000) (min 8000 (tgt - cur))

/-- LANE_DOUT shows the applied delay: DOUT, OOR and SETTLING (R77, R80, R81). -/
def showDout (L : Nat) (d : Dev) : Dev :=
  let v := (d.lane L).dout
  let d := (d.put (LANE_DOUT_DOUT L) (v / 32).toNat).putB (LANE_DOUT_OOR L) (d.outOfRange v)
  d.putB (LANE_DOUT_SETTLING L)
    (d.flag (LANE_DOUT_VALID L) && (decide (8000 < d.filteredDout L - v) || decide (8000 < v - d.filteredDout L)))

/-- The applied delay takes a value; a bound lane that exceeds its range loses its context (R194). -/
def applyDout (L : Nat) (v : Int) (d : Dev) : Dev :=
  let d := (d.onLane L fun x => { x with dout := v }).showDout L
  match d.ctxOfLane L with
  | some c => if d.outOfRange v then lose 4 c d else d
  | none => d

/-- The fine delay follows the applied delay (R75, R76). -/
def applyFd (L : Nat) (d : Dev) : Dev := d.put (LANE_DOUT_FD L) (fineDelay (d.lane L).dout)

/-- The update that an accepted sample makes (R80): none for a member of a gang, a step of at most 250 ps on a bound
lane, the filtered value at once on another lane. -/
def updateDout (L : Nat) (d : Dev) : Dev :=
  if !d.flag (LANE_DOUT_VALID L) then d.showDout L
  else match d.ctxOfLane L with
    | some c => if d.gangOf c = none then applyDout L (stepDout (d.lane L).dout (d.filteredDout L)) d else d.showDout L
    | none => (applyDout L (d.filteredDout L) d).applyFd L

/-- The lanes of a gang's members that hold a binding (R83). -/
def gangLanes (d : Dev) (g : Nat) : List Nat :=
  (d.gangMembers g).filterMap fun c => if d.isBound c then d.laneOf c else none

/-- The gang update of deckle n (R83), made in the first deckle that meets one of its conditions: each member's step
takes effect after its time mark of deckle n + 1. -/
def gangUpdate (g : Nat) (d : Dev) : Dev :=
  let ls := d.gangLanes g
  let n := d.tide.n
  let due := decide (Table.get 0 d.tide.gangAt g + 2 * d.get TIDE_ALIGN_RINT ≤ n)
  if ls ≠ [] && ((ls.all fun L => (d.lane L).fresh) || due) then
    let d := each ls (fun L d => d.onLane L fun x =>
      { x with fresh := false,
               fdAt := if d.flag (LANE_DOUT_VALID L) then some (n + 1, stepDout x.dout (d.filteredDout L)) else none }) d
    d.onTide fun t => { t with gangAt := Table.put 0 t.gangAt g n }
  else d

/-- The gang of a lane's bound context makes its update once every member has a new sample (R83). -/
def gangSample (L : Nat) (d : Dev) : Dev :=
  match d.ctxOfLane L with
  | some c => match d.gangOf c with
    | some g => if d.running then gangUpdate g d else d
    | none => d
  | none => d

/-- A ranging sample RTT_f in ps (R80): one more than 4 ns off the filtered value is discarded, and 16 discards in
succession restart the lane's ranging; any other is accepted.  R100 gives the length that the link supports and no
reaction to a longer one: DESIGN CHOICE (log 92), its sample is taken like any other. -/
def takeSample (L : Nat) (rtt : Int) (d : Dev) : Dev :=
  let x := d.lane L
  if d.flag (LANE_DOUT_VALID L) && (decide (64000 < 16 * rtt - x.rtt) || decide (64000 < x.rtt - 16 * rtt)) then
    if x.disc + 1 = 16 then (d.emptyFilter L).event 184
    else d.onLane L fun x => { x with disc := x.disc + 1 }
  else
    let ss := (rtt :: x.samples).take 16
    let full := decide (16 ≤ ss.length)
    let d := d.onLane L fun x =>
      { x with samples := ss, disc := 0, fresh := true, rtt := if full then ss.foldl (· + ·) 0 else x.rtt }
    let d := if full then d.set (LANE_DOUT_VALID L) else d
    gangSample L (updateDout L d)

/-! ### Binding (R193) -/

/-- Context c is LOST or RESERVED, and its reservation lies on lane L (R182). -/
def reservedOn (d : Dev) (c L : Nat) : Bool :=
  (d.ctxState c == St.lost || d.ctxState c == St.reserved) && d.laneOf c == some L

/-- A lane is reserved. -/
def reserved (d : Dev) (L : Nat) : Bool := allCtx.any fun c => d.reservedOn c L

/-- After its dark interval a lane is a survey lane again (R199, R203). -/
def toSurvey (L : Nat) (d : Dev) : Dev :=
  -- R489: a rolling check of the lane is abandoned
  let d := if d.bist.roll = some L then { d.put BIST_ROLL_RESULT 3 with bist := { d.bist with roll := none } } else d
  (d.put (LANE_CFG_ROLE L) 1).onLane L fun x => { x with darkIv := false }

/-! ### The vat (R305) -/

/-- Size of the vat. -/
def vatSize : Nat := 4194304

/-- The record of the deckle that ends (R305): n, B(n), the latest accepted RETURNs of the members. -/
def vatBytes (d : Dev) : List Byte :=
  let ms := d.members
  le 4 d.tide.n ++ le 8 ((d.tide.bs.headD 0) / 65536) ++
    [BitVec.ofNat 8 ms.length, BitVec.ofNat 8 (d.mode' + 16 * (d.vat.trig && d.vat.since == 0).toNat), 0, 0] ++
    (ms.map fun c => d.returnEntry c (d.cell c).gotN).flatten

/-- Bytes written into the ring from an offset on. -/
def ringPoke (m : Table Byte) (a : Nat) : List Byte → Table Byte
  | [] => m
  | b :: bs => ringPoke (Table.put 0 m (a % vatSize) b) (a + 1) bs

/-- The records that stay when a new one of a given length is written: the oldest ones give way. -/
def vatKeep (len : Nat) : List Nat → List Nat
  | [] => []
  | l :: ls => if vatSize < (l :: ls).foldl (· + ·) 0 + len then vatKeep len ls else l :: ls

/-- FILL and OLDEST show what the ring holds (R321, R322). -/
def showVat (d : Dev) : Dev :=
  let fill := d.vat.lens.foldl (· + ·) 0
  (d.put RACE_VAT_FILL_FILL fill).put RACE_VAT_STAT_OLDEST ((d.vat.next + vatSize - fill) % vatSize)

/-- The capture is complete: POST records stand after the trigger record, or the next record, of `len` bytes, would
overwrite the trigger record (R305). -/
def vatComplete (d : Dev) (len : Nat) : Bool :=
  d.vat.trig && decide (0 < d.vat.since) &&
    (decide (vatSize < d.vat.since + len) || decide (d.get RACE_VAT_CTRL_POST ≤ d.vat.after))

/-- At a boundary the vat takes the record of the deckle that ends, while ARMED and after the trigger (R305). -/
def vatRecord (d : Dev) : Dev :=
  let b := d.vatBytes
  if (d.get RACE_VAT_STAT_STATE ≠ 1 ∧ d.get RACE_VAT_STAT_STATE ≠ 2) ∨ d.vatComplete b.length then d else
  let v := d.vat
  { d with vat :=
    { v with mem := ringPoke v.mem v.next b, lens := vatKeep b.length v.lens ++ [b.length],
             next := (v.next + b.length) % vatSize,
             after := if v.trig ∧ 0 < v.since then v.after + 1 else v.after,
             since := if v.trig then v.since + b.length else 0 } }.showVat

end Dev

end Sys2Proof.Machine
end

