-- ==== Sys2Proof/Machine/Clock.lean ====
section
/-! DEFINITION. The tideline, the deckle and the clocks (chapters 1 and 3, R20 to R23, R57 to R96), and the mode
commands (R39 to R51).

An instant operand is the instant as the rule takes it.  The commands of the tide link carry their timestamps in ps. -/

namespace Sys2Proof.Machine

open Reg

namespace Dev

/-! ### Strobes and clock monitors -/

/-- The phase that each polder measures at a strobe: six bits of 62.5 ps for each polder (R59). -/
def setPhases (w : BitVec 48) (d : Dev) : Dev :=
  each allPolders (fun p d => d.onPolder p fun x => { x with phase := w.toNat / 2 ^ (6 * p) % 64 }) d

/-- GLB_ISLAND's place of an island, as bit of the set of failing clocks. -/
def islandBit : Island → Nat
  | .polder p => p.val
  | .hub => 8
  | .mgmt => 9

/-- The status bit of an island follows its monitor (R21, R23); source 30 is active while one fails (R629). -/
def islandClock (isl : Island) (ok : Bool) (d : Dev) : Dev :=
  let d := match isl with
    | .polder p => d.putBit GLB_ISLAND_POLDER_OK p.val (ok && !d.inBist p.val)
    | .hub => d.putB GLB_ISLAND_HUB_OK ok
    | .mgmt => d.putB GLB_ISLAND_MGMT_OK ok
  let i := islandBit isl
  let d := d.onBrch fun b =>
    { b with clk := if ok then (if b.clk.testBit i then b.clk - 2 ^ i else b.clk) else b.clk ||| 2 ^ i }
  d.breachCond 30 (d.brch.clk != 0) i

/-! ### The deckle boundary -/

/-- The grid-phase counter and accumulator step at a boundary after B(0) (R70); new N and INC act when k wraps. -/
def gridPhase (d : Dev) : Dev :=
  let t := d.tide
  let (g, k) := gphStep t.gN t.gInc t.gAcc t.gK
  let d := d.onTide fun t =>
    { t with gAcc := g, gK := k, gN := if k = 0 then d.get TIDE_GPH_N else t.gN,
             gInc := if k = 0 then d.get TIDE_GPH_INC else t.gInc }
  d.put TIDE_GPH_INDEX (g / 65536)

/-- The NCO at a boundary `b` (R60, R61, R69): deckle number, period and next boundary; on a slave the period that the
latest TIME frame gave stands (R87). -/
def ncoStep (b : Nat) (d : Dev) : Dev :=
  let t := d.tide
  let first := decide (t.bs = [])
  let jump := t.jump && !first
  let p := if first || d.slave then t.p else if jump then d.target else d.nextPeriod t.p
  let d := d.onTide fun t =>
    { t with bs := (b :: t.bs).take 6, n := if first then t.n else t.n + 1, p := p, nextB := some (b + p),
             jump := t.jump && first }
  let d := (d.put TIDE_DECKLE d.tide.n).put2 TIDE_PERIOD_LO TIDE_PERIOD_HI_HI p
  let d := d.putB TIDE_STATUS_SLEWING (p != d.target)
  if jump then d.set TIDE_STATUS_JUMPED else d

/-- A JOINING context becomes BOUND at the target deckle of the ream that committed its version (R193, R196). -/
def boundNow (c : Nat) (d : Dev) : Dev :=
  match (d.cell c).boundAt with
  | some m => if d.ctxState c = St.joining ∧ m ≤ d.tide.n then
      setCtxState c St.bound (d.onCell c fun x => { x with boundAt := none })
    else d
  | none => d

/-- What the end of a deckle means for a context: its AGE rises, a deckle of its binding without a RETURN is missed, and
its lane reads UP or DOWN (R141, R198, R206). -/
def ageContext (c : Nat) (d : Dev) : Dev :=
  let x := d.cell c
  let d := if d.isBound c || d.ctxState c == St.lost then d.inc (CTX_STATE_AGE c) else d
  if d.isBound c then
    let d := match d.laneOf c with
      | some L => d.put (LANE_LINK_STATE L) (if x.gotAny && !d.flag (LANE_LINK_LOS L) then 4 else 5)
      | none => d
    d.onCell c fun x =>
      { x with missed := if x.gotAny then 0 else if x.nb < d.tide.n then x.missed + 1 else x.missed, gotAny := false,
               gotN := false }
  else d

/-- The waiting transition takes effect at a boundary at least 2 µs after its cause (R47).  LOCKSTEP is entered only
while R52 holds: DESIGN CHOICE (log 93), a transition to it whose condition has failed meanwhile is given up. -/
def takePending (d : Dev) : Dev :=
  if d.get GLB_MODE_PENDING ≠ 0xF ∧ d.mode.pendAt + ns 2000 ≤ d.tide.bs.headD 0 then
    if d.get GLB_MODE_PENDING = 4 ∧ !d.lockstepStays ∧ !d.lockstepGuard then d.put GLB_MODE_PENDING 0xF
    else enter (d.get GLB_MODE_PENDING) d.mode.pendCause d.mode.pendPark d
  else d

/-- The SNAPSHOT of a deckle: at its boundary, or in LOCKSTEP once its RETURNs have come (R241, R242). -/
def openSnapshot (d : Dev) : Dev :=
  if !d.snapshots then d
  else if d.runModel = 4 ∧ d.effMode ≠ 9 then
    let d := d.onSlu fun s => { s with snap := some d.tide.n }
    if d.snapshotReady then d.snapshot else d
  else d.snapshot

/-- A boundary counts for a DECK of the FIC interpreter (R538). -/
def ficBoundary (d : Dev) : Dev :=
  match d.fic.wait with
  | .deck (k + 1) => { d with fic := { d.fic with wait := .deck k } }
  | _ => d

/-- The tideline reaches an instant that lies beyond the latest strobe: the strobes up to it have passed (R20, R57). -/
def reach (b : Nat) (d : Dev) : Dev :=
  let step := 64 * d.tide.inc
  { d with now := max d.now b }.onTide fun t => { t with strobe := t.strobe + (b - t.strobe) / step * step }

/-- The boundary B(n + 1) (R60). -/
def boundary (d : Dev) : Dev :=
  match d.tide.nextB with
  | none => d
  | some b =>
    let started := d.running
    let d := if started then d.vatRecord else d
    let d := ((d.reach b).ficBoundary).advance
    let d := ncoStep b d
    let d := if started && !d.slave then d.gridPhase else d
    let d := each allCtx ageContext d
    let d := d.takePending.commitMap.publishMap
    let d := each allCtx boundNow d
    let d := each (List.range 16) gangUpdate d
    d.openSnapshot

/-! ### Targets and jumps -/

/-- The range check of R64. -/
def targetInRange (d : Dev) (t : Nat) : Bool :=
  let lock := d.effMode == 4 || (d.effMode == 7 && d.heldBase == 4)
  decide ((if lock then 1310720000 else 655360000) ≤ t) && decide (t ≤ 13107200000)

/-- The window check of R64. -/
def targetInWindow (d : Dev) (t : Nat) : Bool :=
  let nom := d.nominal
  let diff := if t ≤ nom then nom - t else t - nom
  decide (diff * 1000000 ≤ d.get TIDE_NCO_CFG_WINDOW * nom)

/-- The decision on a target by the codes of TIDE_STATUS.RESULT (R64, R65, R87); `allowed` is HOST_TGT or ENG_TGT. -/
def decideTarget (d : Dev) (allowed : Bool) (t : Nat) : Nat :=
  if !allowed then 7
  else if d.slave then 6
  else if !d.targetInRange t then 3
  else if !d.targetInWindow t then 4
  else 1

/-- A target comes into force. -/
def takeTarget (t : Nat) (d : Dev) : Dev :=
  let d := (d.put2 TIDE_TGT_LO TIDE_TGT_HI_HI t).onTide fun x => { x with tgtLo := t % 2 ^ 32 }
  if d.running then d.putB TIDE_STATUS_SLEWING (d.tide.p != t) else d

/-- A host write of the high word of TIDE_TGT (R64); `same` tells that it becomes visible in the tideline cycle of the
target command before it, and the target of the control engine is then taken (R66). -/
def writeTarget (hi : Nat) (same : Bool) (d : Dev) : Dev :=
  let t := d.tide.tgtLo + 2 ^ 32 * hi
  let r := d.decideTarget (d.flag TIDE_NCO_CFG_HOST_TGT) t
  let r := if r = 1 ∧ same ∧ d.tide.engTaken then 2 else r
  let d := (d.put TIDE_STATUS_RESULT r).onTide fun x => { x with engTaken := false }
  if r = 1 then takeTarget t d else d

/-- A JUMP request (R69). -/
def requestJump (d : Dev) : Dev :=
  let r :=
    if d.slave then 6
    else if !(d.effMode == 7 && d.mode.parked) then 5
    else if !d.targetInRange d.target then 3
    else if !d.targetInWindow d.target then 4
    else 1
  let d := d.put TIDE_STATUS_RESULT r
  if r = 1 then d.onTide fun t => { t with jump := true } else d

/-! ### Tide link (R85 to R90) -/

def peer (d : Dev) (k : Nat) : Peer := Table.get {} d.tide.peers k
def setPeer (k : Nat) (x : Peer) (d : Dev) : Dev := d.onTide fun t => { t with peers := Table.put {} t.peers k x }

/-- Ranging of all slaves starts again (R67, R85). -/
def rerange (d : Dev) : Dev :=
  if d.master then
    each [1, 2, 3] (fun k d => (setPeer k { d.peer k with echoes := [] } d).clr (TIDE_PEER_VALID (k - 1))) d
  else d

/-- The TIME frame (R86). -/
def timeFrame (d : Dev) : List Byte :=
  let nb := d.tide.nextB.getD 0
  tideFrame ([1] ++ le 8 (d.now / 65536) ++ le 2 (d.now % 65536) ++ le 4 d.tide.n ++ le 8 (nb / 65536) ++
    le 2 (nb % 65536) ++ le 2 (d.tide.gAcc / 65536))

/-- A MASTER drives TIDE_OUT from RAISE entry on (R96). -/
def masterRuns (d : Dev) : Bool := d.master && d.tide.nextB.isSome

/-- The slave whose turn it is (R85). -/
def nextSlave (d : Dev) : Nat := if d.tide.lastPoll < d.get TIDE_SYNC_COUNT then d.tide.lastPoll + 1 else 1

/-- A MASTER takes an ECHO's delay sample in half ps: D_k is the mean of the last 16 (R87, R90).  The spec does not say
how the mean becomes whole ps: DESIGN CHOICE (log 92), it is rounded down, and a negative mean reads 0. -/
def takeEcho (k : Nat) (t : Int) (turn : Nat) (d : Dev) : Dev :=
  let sample := t - d.tide.tPoll - turn + sgn 16 (d.get TIDE_SYNC_ASYM)
  let es := (sample :: (d.peer k).echoes).take 16
  let d := (setPeer k { echoes := es, fails := 0 } d).onTide fun t => { t with awaiting := none }
  let d := if 16 ≤ es.length then
      (d.set (TIDE_PEER_VALID (k - 1))).put (TIDE_PEER_DK (k - 1)) (es.foldl (· + ·) 0 / 32).toNat
    else d
  d.refresh28

/-- An awaited ECHO fails (R88). -/
def failEcho (d : Dev) : Dev :=
  match d.tide.awaiting with
  | some k => ((setPeer k { d.peer k with fails := (d.peer k).fails + 1 } d).onTide fun t => { t with awaiting := none }).refresh28
  | none => d

/-- A TIME frame is missing or fails its CRC; from the fourth on, a LOCKED slave freewheels on its own REFCLK (R88). -/
def missTime (d : Dev) : Dev :=
  let d := d.onTide fun t => { t with missRun := t.missRun + 1, goodRun := 0 }
  if d.get TIDE_STATUS_SYNC = 3 ∧ 4 ≤ d.tide.missRun then setSync 4 (d.onTide fun t => { t with inc := 65536 }) else d

/-- A valid TIME frame, by its fields; `t` is the slave's tideline at the arrival of its reference edge (R87, R88). -/
def takeTime (t : Nat) (body : List Byte) (d : Dev) : Dev :=
  let f (a len : Nat) := nat ((body.drop a).take len)
  let sent := f 1 8 * 65536 + f 9 2
  let nb := f 15 8 * 65536 + f 23 2
  let dk := d.get (TIDE_PEER_DK (d.get TIDE_SYNC_ID - 1))
  -- phase error in 2^-16 ps
  let err : Int := (sent : Int) * 1000 + (dk : Int) * 65536 - (t : Int) * 1000
  let sync := d.get TIDE_STATUS_SYNC
  let small := decide (err.natAbs < 65536000)
  let direct := (sync == 1 || sync == 2) && allCtx.all fun c => !d.isBound c
  let d := d.onTide fun x => { x with missRun := 0, goodRun := if small then min (x.goodRun + 1) 16 else 0 }
  let d := if direct then
      let now := ((d.now : Int) + err / 1000).toNat
      { d with now := now }.onTide fun x => { x with inc := 65536, strobe := now }
    else d.onTide fun x => { x with inc := if err = 0 then 65536 else if 0 < err then 65537 else 65535 }
  -- n, B(n + 1) and the grid-phase index are the master's
  let d := if d.now < nb ∧ d.tide.nextB.isSome then
      -- before its first boundary the slave has no deckle; the one that B(n + 1) opens is n + 1
      let n := if d.running then d.fullDeckle (f 11 4) else f 11 4 + 1
      let d := d.onTide fun x =>
        { x with n := n, nextB := some nb, gAcc := f 25 2 * 65536,
                 p := match x.bs with | b :: _ => nb - b | [] => x.p }
      let d := d.put TIDE_GPH_INDEX (f 25 2)
      if d.running then
        ((d.put TIDE_DECKLE n).put2 TIDE_PERIOD_LO TIDE_PERIOD_HI_HI d.tide.p).putB TIDE_STATUS_SLEWING
          (d.tide.p != d.target)
      else d
    else d
  if 16 ≤ d.tide.goodRun ∧ sync ≠ 0 then setSync 3 d
  else if sync = 3 ∧ 131072000 < err.natAbs then setSync 4 (d.onTide fun x => { x with goodRun := 0 })
  else if sync = 1 then setSync 2 d
  else d

/-! ### Holdover (R91 to R93, R579) -/

/-- The device enters holdover. -/
def enterHoldover (d : Dev) : Dev :=
  if d.flag TIDE_STATUS_HOLDOVER && !d.tide.pullBack then d else
  let d := ((d.set TIDE_STATUS_HOLDOVER).clr GLB_ISLAND_TIDE_OK).inc TIDE_HOLD_ENTRIES
  let d := d.onTide fun t => { t with pullBack := false }
  (breachCond 29 true 0 d).event 184

end Dev

open Dev

/-- Every 64 ns: the tideline has advanced by 64 increments since the previous strobe, and the polders measure their
phases (R20, R57, R59); in LOAD the islands show their clocks (R23). -/
def execTidelineStrobe (phases : BitVec 48) (s : State) := s.next fun d =>
  let t := d.tide.strobe + 64 * d.tide.inc
  let d := { setPhases phases d with now := max d.now t, up := d.up + 64 }.onTide fun x => { x with strobe := t }
  (if d.get GLB_MODE_MODE = 0 then d.clocksUp else d).advance

/-- A monitored clock deviates or stops (R21); a polder in BIST is not monitored (R629). -/
def execClockMonitorFault (isl : Island) (s : State) := s.next fun d =>
  match isl with
  | .polder p => if d.inBist p.val then d else islandClock isl false d
  | _ => islandClock isl false d

/-- The monitor passes again. -/
def execIslandClockRecover (isl : Island) (s : State) := s.next (islandClock isl true)

/-- The 1 ms comparison of the terp oscillator (R22), suspended while LOCKSENSE is unlocked. -/
def execTerpClockCompare (deviates : Bool) (s : State) := s.next fun d =>
  if !d.flag TIDE_STATUS_LOCKSENSE then d.set GLB_ISLAND_TERP_OK
  else breachCond 37 deviates 0 (d.putB GLB_ISLAND_TERP_OK (!deviates))

/-- A write of GLB_MODE_REQ (R39, R45, R51). -/
def execHostModeRequest (park : Bool) (target : BitVec 4) (same : Bool) (s : State) := s.next fun d =>
  let (r, d) := request 1 target.toNat park same d
  d.put GLB_MODE_RESULT r

/-- SURVEY is left for FILL by itself (R40, R47, R48). -/
def execAutoFill (s : State) := s.next fun d =>
  if d.get GLB_MODE_MODE = 2 ∧ d.flag GLB_MODE_CFG_AUTO_FILL ∧ d.get GLB_MODE_PENDING = 0xF ∧
      d.row 1 3 = some (false, true) then accept 3 0xD false false d
  else d

/-- FILL is left for the run model by itself (R40, R47, R48). -/
def execAutoRun (s : State) := s.next fun d =>
  let m := d.get GLB_MODE_CFG_RUN_MODEL
  if d.get GLB_MODE_MODE = 3 ∧ d.flag GLB_MODE_CFG_AUTO_RUN ∧ d.get GLB_MODE_PENDING = 0xF ∧
      d.row 1 m = some (false, true) then accept m 0xD false false d
  else d

/-- The cut-off of HOLD deckle LIMIT + 1 (R43): every context takes its safe aspect, and source 49 is raised. -/
def execHoldLimit (s : State) := s.next fun d =>
  let m := d.mode.holdM + d.get SLU_HOLD_LIMIT
  if d.effMode = 7 ∧ !d.mode.parked ∧ d.running ∧ d.tide.cut < m ∧ m = d.tide.n + 1 then cutOff m d else d

/-- The deckle NCO reaches the next boundary (R60). -/
def execDeckleBoundary (s : State) := s.next boundary

/-- The high word of TIDE_TGT is written (R64, R66). -/
def execTideTgtWrite (hi : BitVec 16) (same : Bool) (s : State) := s.next (writeTarget hi.toNat same)

/-- TIDE_CTRL.JUMP (R69). -/
def execJump (s : State) := s.next requestJump

/-- TIDE_CTRL.RERANGE (R67). -/
def execRerange (s : State) := s.next rerange

/-- The time mark of the current deckle on a bound lane (R74 to R76, R118, R138), and the delay change that waits for
it. -/
def execTimeMarkLaunch (L : Fin 144) (s : State) := s.next fun d =>
  match d.ctxOfLane L.val with
  | none => d
  | some _ =>
    let n := d.tide.n
    if !d.lanesLit || !d.running || decide (n < (d.lane L.val).markFrom) then d else
    let o := (d.gridOf n).1
    let body := [BitVec.ofNat 8 n, BitVec.ofNat 8 (n / 256 % 8 * 32 + o)]
    let d := d.send (.mark L.val (d.fineLine L.val) (body ++ [BitVec.ofNat 8 (crc8 body)]))
    let d := match (d.lane L.val).fdAt with
      | some (m, v) => if m ≤ n then applyDout L.val v (d.onLane L.val fun x => { x with fdAt := none }) else d
      | none => d
    applyFd L.val d

/-- Every 2,000 ns a MASTER sends a TIME frame (R85, R86). -/
def execTideTimeSend (s : State) := s.next fun d =>
  if d.masterRuns then (d.send (.tide d.timeFrame)).onTide fun t => { t with timeCnt := t.timeCnt + 1 } else d

/-- After 64 TIME frames a MASTER polls the next slave (R85); `t` is the pin instant in ps. -/
def execTidePollSend (t : BitVec 64) (s : State) := s.next fun d =>
  if d.masterRuns && decide (64 ≤ d.tide.timeCnt) then
    let k := d.nextSlave
    let dk := d.get (TIDE_PEER_DK (k - 1))
    (d.send (.tide (tideFrame ([2, BitVec.ofNat 8 k] ++ le 4 dk)))).onTide fun x =>
      { x with timeCnt := 0, lastPoll := k, awaiting := some k, tPoll := t.toNat }
  else d

/-- A SLAVE receives a TIME frame; `t` is its tideline at the frame's reference edge (R87, R88). -/
def execTideTimeReceive (t : BitVec 80) (bs : List Byte) (s : State) := s.next fun d =>
  if d.slave && d.tide.nextB.isSome then
    match tideParse 1 29 bs with
    | some body => takeTime t.toNat body d
    | none => d.missTime
  else d

/-- A TIME frame does not come (R88). -/
def execTideTimeMissing (s : State) := s.next fun d => if d.slave then d.missTime else d

/-- A SLAVE receives a POLL (R85, R90). -/
def execTidePollReceive (bs : List Byte) (s : State) := s.next fun d =>
  match tideParse 2 8 bs with
  | some body =>
    let k := (body.getD 1 0).toNat
    if d.slave && k == d.get TIDE_SYNC_ID && decide (1 ≤ k) then
      (d.put (TIDE_PEER_DK (k - 1)) (nat ((body.drop 2).take 4))).onTide fun t => { t with polled := some k }
    else d
  | none => d

/-- The polled SLAVE answers (R85, R86); TURN is in ps. -/
def execTideEchoSend (turn : Word) (s : State) := s.next fun d =>
  match d.tide.polled with
  | some k => (d.send (.tide (tideFrame ([3, BitVec.ofNat 8 k] ++ le 4 turn.toNat)))).onTide fun t => { t with polled := none }
  | none => d

/-- The MASTER receives an ECHO; `t` is the pin instant in ps (R87, R88). -/
def execTideEcho (t : BitVec 64) (bs : List Byte) (s : State) := s.next fun d =>
  match d.tide.awaiting with
  | none => d
  | some k =>
    match tideParse 3 8 bs with
    | some body => if (body.getD 1 0).toNat = k then takeEcho k t.toNat (nat ((body.drop 2).take 4)) d else d.failEcho
    | none => d.failEcho

/-- The awaited ECHO does not come. -/
def execTideEchoTimeout (s : State) := s.next failEcho

/-- The qualified state of LOCKSENSE changes (R580); while it is low, the comparison of the terp oscillator is
suspended (R22, R23). -/
def execLocksenseQualify (high : Bool) (s : State) := s.next fun d =>
  let d := ((d.putB TIDE_STATUS_LOCKSENSE high).putB PWR_STATUS_LSQUAL high).putB PWR_STATUS_LSRAW high
  if high then d else d.set GLB_ISLAND_TERP_OK

/-- LOCKSENSE has stayed low for 10 µs (R91). -/
def execHoldoverEntry (s : State) := s.next fun d => if d.flag TIDE_STATUS_LOCKSENSE then d else d.enterHoldover

/-- No REFCLK edge for 200 ns (R579). -/
def execRefclkLoss (s : State) := s.next fun d =>
  ((d.clr PWR_STATUS_REFCLK).onTide fun t => { t with refLost := true }).enterHoldover

/-- REFCLK edges return (R579, R582). -/
def execRefclkRestore (s : State) := s.nextAlways fun d =>
  (d.set PWR_STATUS_REFCLK).onTide fun t => { t with refLost := false }

/-- RELOCK_MS has passed with LOCKSENSE high and REFCLK present: the device switches back (R92). -/
def execHoldoverRelock (s : State) := s.next fun d =>
  if d.flag TIDE_STATUS_HOLDOVER && d.flag TIDE_STATUS_LOCKSENSE && !d.tide.refLost then
    d.onTide fun t => { t with pullBack := true }
  else d

/-- The pull-back is complete (R92). -/
def execHoldoverExit (s : State) := s.next fun d =>
  if d.flag TIDE_STATUS_HOLDOVER && d.tide.pullBack then
    let d := ((d.clr TIDE_STATUS_HOLDOVER).set GLB_ISLAND_TIDE_OK).onTide fun t => { t with pullBack := false }
    (breachCond 29 false 0 d).event 184
  else d

/-- A write of TIDE_CLKOUT (R94, R95). -/
def execClkoutConfig (en : Bool) (sel : BitVec 3) (s : State) := s.next fun d =>
  ((d.putB TIDE_CLKOUT_EN en).put TIDE_CLKOUT_SEL sel.toNat).putB TIDE_CLKOUT_ACTIVE
    (en && decide (1 ≤ sel.toNat) && decide (sel.toNat ≤ 5))

end Sys2Proof.Machine
end

