-- ==== Sys2Proof/Machine/Survey.lean ====
section
/-! DEFINITION. Lanes and cells (chapters 4 and 6): the receiver, ranging, RETURNs, survey, admission, retirement and
relocation, and the LED latches (R169 to R172).

A lane's commands bring the symbols that its receiver has taken since the command before; instants are in 250 ps, as
the TDC has them (R127). -/

namespace Sys2Proof.Machine

open Reg

namespace Dev

end Dev

/-! ### Received symbols (R103, R105, R121 to R123) -/

/-- A frame whose header names class A: SHEET or RETURN (R107). -/
def classA : List Byte → Bool
  | b :: _ => b.toNat % 16 == 1 || b.toNat % 16 == 2
  | [] => false

/-- What a run of symbols has led to: the receiver, code errors, framing errors, and the frames completed, in order. -/
structure Heard where
  rx      : Rx
  codes   : Nat := 0
  framing : Nat := 0
  done    : List (List Byte) := []

/-- A framing error (R123): every open and suspended frame is discarded. -/
def Heard.misframed (h : Heard) : Heard := { h with rx := {}, framing := h.framing + 1 }

/-- One symbol (R103, R123).  A third frame beside two is one more than the stack takes: DEDUCED (log 100), a framing
error, as K28.0 within an open frame is.  K28.5, a K29.7 with no frame open, and data with nothing open or waiting change
nothing; an invalid code group takes the place of a symbol of its frame, which then fails R109. -/
def Heard.sym (h : Heard) : Sym → Heard
  | .data b =>
    match h.rx.cur with
    | some bs =>
      if bs = [] ∧ h.rx.wait ≠ [] ∧ !classA [b] then h.misframed
      else { h with rx := { h.rx with cur := some (bs ++ [b]) } }
    | none => if h.rx.wait = [] then h else h.misframed
  | .start =>
    let fs := h.rx.cur.toList ++ h.rx.wait
    if fs.any classA || decide (2 ≤ fs.length) then h.misframed else { h with rx := ⟨some [], fs⟩ }
  | .stop =>
    match h.rx.cur with
    | some bs => { h with rx := { h.rx with cur := none }, done := h.done ++ [bs] }
    | none => h
  | .resume =>
    match h.rx.cur, h.rx.wait with
    | none, f :: fs => { h with rx := ⟨some f, fs⟩ }
    | _, _ => h.misframed
  | .idle => h
  | .bad => { h with codes := h.codes + 1 }

/-- A run of symbols (R123). -/
def Rx.hear (x : Rx) (ss : List Sym) : Heard := ss.foldl Heard.sym { rx := x }

/-- An inserted group interrupts the open frame, which then waits for K28.0 (R121, R123). -/
def Rx.group (x : Rx) : Rx := ⟨none, x.cur.toList ++ x.wait⟩

/-- The symbols of a frame that nothing interrupts (R105). -/
def frameSyms (bs : List Byte) : List Sym := .start :: bs.map .data ++ [.stop]

namespace Dev

/-- The receiver of a lane takes a run of symbols: invalid code groups and framing errors are counted (R142). -/
def hearLane (L : Nat) (ss : List Sym) (d : Dev) : Dev :=
  let h := (d.lane L).rx.hear ss
  ((d.add (LANE_ERR_CODE L) h.codes).add (LANE_ERR_FRAMING L) h.framing).onLane L fun x => { x with rx := h.rx }

/-- A frame that K29.7 has completed (R109): one that is discarded is counted, one of type `ty` takes effect, and a frame
of another type is for another command to bring. -/
def takeFrame (L ty : Nat) (f : Nat → List Byte → Dev → Dev) (bs : List Byte) (d : Dev) : Dev :=
  match nymParse bs with
  | none => d.inc (LANE_ERR_CRC L)
  | some (t, chan, pl) => if t = ty then f chan pl d else d

/-- Symbols on a lane in sync, with what its frames of type `ty` do. -/
def laneFrame (L : Nat) (ss : List Sym) (ty : Nat) (f : Nat → List Byte → Dev → Dev) (d : Dev) : Dev :=
  if !d.flag (LANE_LINK_SYNC L) then d else
  each ((d.lane L).rx.hear ss).done (takeFrame L ty f) (hearLane L ss d)

/-- Symbols on a lane none of whose frames takes effect. -/
def laneSyms (L : Nat) (ss : List Sym) (d : Dev) : Dev := laneFrame L ss 0 (fun _ _ d => d) d

/-- Every frame that is open or suspended when sync or light is lost is discarded (R109). -/
def cutFrames (L : Nat) (d : Dev) : Dev :=
  let x := (d.lane L).rx
  (d.add (LANE_ERR_CRC L) (x.cur.toList ++ x.wait).length).onLane L fun y => { y with rx := {} }

/-- RSSI of an average photocurrent in nA (R101): the greatest k up to 255 with 80·log10(I / 1 nA) − 160 ≥ k − 1/2. -/
def rssiOf (i : Nat) : Nat := ((List.range 255).filter fun k => decide (10 ^ (2 * k + 321) ≤ i ^ 160)).length

/-- LANE_LINK.RSSI follows the received current while the receiver is on (R41, R141). -/
def receive (L : Nat) (i : BitVec 20) (d : Dev) : Dev :=
  if d.get GLB_MODE_MODE = 0 then d else d.put (LANE_LINK_RSSI L) (rssiOf i.toNat)

/-- A class A buffer of a context's path is full: the newest item is discarded and counted, source 53 raised (R29). -/
def overflowed (c : Nat) (d : Dev) : Dev := (d.inc (CTX_PAUX_OVFL c)).breach 53 0

/-- A byte of a payload, and a number of several bytes. -/
def byteAt (bs : List Byte) (i : Nat) : Nat := (bs.getD i 0).toNat
def numAt (bs : List Byte) (i n : Nat) : Nat := nat ((bs.drop i).take n)

/-! ### The receiver (R80, R102, R139) -/

/-- A lane that is not bound loses its samples and its place in the host queue when it leaves sync (R80, R191). -/
def dropCell (L : Nat) (d : Dev) : Dev := (d.emptyFilter L).dequeueLane L

/-- The receiver leaves sync. -/
def loseSync (L : Nat) (d : Dev) : Dev :=
  if !d.flag (LANE_LINK_SYNC L) then d else
  let d := (d.clr (LANE_LINK_SYNC L)).cutFrames L
  if d.ctxOfLane L = none then (d.dropCell L).showLink L else d

/-- Loss of light is declared (R139, R198): the event of the lane's context, and its loss. -/
def loseLight (L : Nat) (d : Dev) : Dev :=
  if d.flag (LANE_LINK_LOS L) then d else
  let d := (((d.set (LANE_LINK_LOS L)).inc (LANE_ERR_LOSCNT L)).count (0x4000 + 128 * L + 12) 4 1).cutFrames L
  match d.ctxOfLane L with
  | some c => lose 1 c (d.event c)
  | none => d.dropCell L

/-! ### RETURN (R129 to R131, R159) -/

/-- A RETURN of context c on lane L. -/
def takeReturn (c L : Nat) (pl : List Byte) (d : Dev) : Dev :=
  let x := d.lane L
  let gap := (byteAt pl 0 + 256 - d.get (LANE_SEQ_RSEQ L)) % 256
  if x.gotRet && (gap == 0 || decide (128 ≤ gap)) then d else
  let d := if x.gotRet then d.add (LANE_SEQ_RGAP L) (gap - 1) else d
  let ack := byteAt pl 1
  let d := (d.put (LANE_SEQ_RSEQ L) (byteAt pl 0)).put (LANE_SEQ_ACKSEQ L) ack
  let d := match (d.cell c).sentMap.find? fun e => e.1 = ack with
    | some e => if e.2 ≠ byteAt pl 2 / 16 % 2 then d.inc (CTX_PAUX_MAPERR c) else d
    | none => d
  let d := (d.onLane L fun x => { x with gotRet := true }).clr (CTX_STATE_AGE c)
  let n := d.tide.n
  let d := d.onCell c fun x =>
    { x with ret := some pl, retN := n, missed := 0, gotAny := true, gotN := x.gotN || byteAt pl 19 == n % 256 }
  let d := if d.flag (LANE_LINK_LOS L) then d else d.put (LANE_LINK_STATE L) 4
  let d := if d.runModel = 5 then d.sluQueue (.piece (d.returnEntry c true)) else d
  if d.snapshotReady then d.snapshot else d

/-! ### Survey (R187, R188) -/

/-- The device accepts ADMIT requests on a survey lane (R188). -/
def admitOpen (d : Dev) (L : Nat) : Bool := d.get CTX_ADMIT_CFG_POLICY != 0 || d.reserved L

/-- A lane of the survey, while survey runs; the lanes of a polder in BIST are dark (R482). -/
def surveyed (d : Dev) (L : Nat) : Bool :=
  d.get (LANE_CFG_ROLE L) == 1 && d.surveyRuns && !d.flag (LANE_LED_DRIVE_OFF L) && !d.inBist (L / 18)

/-- A RANGE request is due (R80, R187): in every deckle until the lane's filter is valid, and then, as on a bound lane,
every RINT deckles. -/
def rangeDue (d : Dev) (L : Nat) : Bool :=
  match (d.lane L).rangeAt with
  | none => true
  | some m => decide (m + (if (d.ctxOfLane L).isSome || d.flag (LANE_DOUT_VALID L) then d.get TIDE_ALIGN_RINT else 1) ≤ d.tide.n)

/-! ### Admission (R189 to R193) -/

/-- The request of R113. -/
def Applicant.ofBytes (L : Nat) (pl : List Byte) : Applicant :=
  { id := numAt pl 0 8, lane := L, cap := numAt pl 10 2, tcrx := numAt pl 12 4, nsl := byteAt pl 16,
    tloss := byteAt pl 17, cred := byteAt pl 18 }

/-- N_sl, T_loss, the credits and the reserved fields keep to R113. -/
def requestOk (a : Applicant) (reserved : Nat) : Bool :=
  decide (2 ≤ a.nsl) && decide (a.nsl ≤ 16) && decide (4 ≤ a.tloss) && decide (a.tloss ≤ 40) &&
  (if a.cap.testBit 1 then decide (1 ≤ a.cred) && decide (a.cred ≤ 64) else a.cred == 0) &&
  reserved == 0 && decide (a.cap < 256) && decide (a.cap / 16 ≤ 6)

def ctxId (d : Dev) (c : Nat) : Nat := d.get2 (CTX_ID_LO c) (CTX_ID_HI c)

/-- The ID that a reservation waits for: of the cell that was LOST, or the listed ID. -/
def awaitedId (d : Dev) (c : Nat) : Nat := if d.ctxState c = St.lost then d.ctxId c else (d.cell c).listed

/-- The context that lists a cell ID. -/
def listedCtx (d : Dev) (id : Nat) : Option Nat :=
  allCtx.find? fun c => d.flag (CTX_STATE_LISTED c) && (d.cell c).listed == id

/-- The lanes of a gang stay in one polder when context c is bound to lane L (R83). -/
def gangOk (d : Dev) (c L : Nat) : Bool :=
  d.gangOf c == none || allCtx.all fun j => j == c || d.gangOf j != d.gangOf c ||
    (match d.laneOf j with
     | some M => M / 18 == L / 18
     | none => true)

/-- Lanes of a polder that contexts hold, by a binding or a reservation (R15, R189). -/
def heldLanes (d : Dev) (p : Nat) : List Nat :=
  ((List.range 18).map (18 * p + ·)).filter fun L => allCtx.any fun c => d.laneOf c == some L

/-- A binding to lane L would exceed the 16 lanes of its polder; the lane that context c holds there is free for it. -/
def polderFull (d : Dev) (c : Option Nat) (L : Nat) : Bool :=
  let held := d.heldLanes (L / 18)
  !held.contains L && decide (16 ≤ held.length) &&
    !(match c with
      | some c => (match d.laneOf c with | some M => M / 18 == L / 18 | none => false)
      | none => false)

/-- A binding would make a 49th member in LOCKSTEP (R53). -/
def lockstepFull (d : Dev) (c : Option Nat) : Bool :=
  d.runModel == 4 && decide (48 ≤ d.members.length) && !(match c with | some c => d.isMember c | none => false)

/-- A frame of class B, C or D leaves a lane; its symbols are counted with K27.7 and K29.7 (R105, R122). -/
def laneSend (L : Nat) (frame : List Byte) (d : Dev) : Dev :=
  (d.send (.lane L frame)).onLane L fun x => { x with tx := frame.length + 2 }

/-- A lane transmitter serves class A before the other classes (R26): none of their frames starts while a sheet of the
lane's context waits. -/
def laneFree (d : Dev) (L : Nat) : Bool :=
  match d.ctxOfLane L with
  | some c => (d.cell c).buf.isEmpty
  | none => true

/-- An ADMIT decision (R114) on a lane that is lit (R41, R187); the context, T_ret and n are 0 in a decision that admits
no one. -/
def decision (L id result c tret n : Nat) (d : Dev) : Dev :=
  if !(d.surveyed L || ((d.ctxOfLane L).isSome && d.lanesLit)) then d else
  d.laneSend L (nymFrame 8 (le 8 id ++ [BitVec.ofNat 8 result, BitVec.ofNat 8 c] ++ le 2 L ++ le 2 tret ++
    [BitVec.ofNat 8 (d.get CTX_ADMIT_CFG_CRED), 0] ++ le 4 n))

/-- A decision is recorded (R189, R217). -/
def refuseLog (L reason : Nat) (d : Dev) : Dev :=
  (((d.inc CTX_REFUSE_LOG_COUNT).put CTX_REFUSE_LOG_REASON reason).put CTX_REFUSE_LOG_LANE L).event 190

/-- The cell's first PENDING comes anew after a decision that ends its wait. -/
def forgetCell (id : Nat) (d : Dev) : Dev :=
  d.onSurvey fun s => { s with pended := s.pended.filter fun e => e.1 ≠ id }

def refuse (L id reason : Nat) (d : Dev) : Dev :=
  (((d.refuseLog L reason).forgetCell id).decision L id 2 0 0 0)

/-- A PENDING under rows 9, 10 or 13; the first one of a cell is recorded. -/
def pend (L id reason : Nat) (d : Dev) : Dev :=
  let d := if d.survey.pended.contains (id, reason) then d
    else (d.refuseLog L reason).onSurvey fun s => { s with pended := s.pended ++ [(id, reason)] }
  d.decision L id 3 0 0 0

/-- What the polder programs mean for a context at its binding (R329, R355): budget, bulk mailbox and kinds. -/
def bindPrograms (c L : Nat) (d : Dev) : Dev :=
  let ps := (d.polder (L / 18)).progs.filter (·.ctx = c)
  let has (k : Nat) : Bool := ps.any (·.kind = k)
  let d := (d.put (CTX_PROG_BUDGET c) ((ps.map (·.budget)).foldl (· + ·) 0)).putB (CTX_PROG_BMBX c) (ps.any (·.bmbx))
  let d := (d.putB (CTX_PROG_SLACK c) (has 4)).putB (CTX_PROG_ASPECT c) (has 1)
  d.put (CTX_PROG_FILL c) (if has 2 then 1 else if has 3 then 2 else 0)

/-- A cell is admitted to context c (R183, R193, R208): the context is JOINING, its lane is bound, and the membership
changes. -/
def admitCell (c : Nat) (a : Applicant) (d : Dev) : Dev :=
  let L := a.lane
  let n := d.tide.n
  let nb := n + d.get CTX_ADMIT_CFG_BINDLEAD
  let asp := if d.effMode = 2 then Asp.block else d.safeAspect c
  let d := ((d.forgetCell a.id).dequeueLane L).put2 (CTX_ID_LO c) (CTX_ID_HI c) a.id
  let d := (((d.put (CTX_CAP_TLOSS c) a.tloss).put (CTX_CAP_NSL c) a.nsl).put (CTX_CAP_CRED c) a.cred).put (CTX_CAP_CAP c) a.cap
  let d := (d.put (CTX_ASPECT_UMAX c) (a.cap / 16 % 16)).put (CTX_ASPECT_CMD c) asp
  let d := ((d.put (CTX_BIND_LANE c) L).set (CTX_BIND_VALID c)).clr (CTX_STATE_AGE c)
  let d := (d.clr (CTX_PSTAT_SAFEREQ c)).clr (CTX_PSTAT_FILLDONE c)
  let d := d.onCell c fun x =>
    { x with admitted := asp, tcrx := a.tcrx, nb := nb, boundAt := none, last := none, sentMap := [], prevEv := none,
             buf := [], doneM := none, supply := [], hc := 0, safeHold := false, resumeAt := none, sched := [], wins := [],
             winLog := [], fails := [], failDue := false, ret := none, missed := 0, gotAny := false,
             gotN := false, onWire := [], tseq := [] }
  let d := d.onLane L fun x =>
    { x with tcrx := a.tcrx, gotRet := false, markFrom := n + 1, fdAt := none, cellC0 := a.cred, peerCack := 0,
             peerNext := 0, staged := [], unacked := [], cack := 0, inbound := [], owed := false, fresh := false }
  let d := (d.put (LANE_CFG_ROLE L) 2).put (LANE_LINK_STATE L) 5
  let d := ((d.put (LANE_BULK_CREDIT L) a.cred).clr (LANE_BULK_NEXT L)).clr (LANE_BULK_PSEQ L)
  let d := (bindPrograms c L d).onLdg fun l => { l with bound := Table.put false l.bound L true }
  (((setCtxState c St.joining d).mapChange c true).decision L a.id 1 c (d.get (CTX_BIND_TRET c)) nb)

/-- An entry joins the host queue when there is room and the cell is not in it (R191). -/
def enqueue (a : Applicant) (d : Dev) : Dev :=
  if d.survey.queue.any (fun x => x.lane = a.lane ∧ x.id = a.id) then d.decision a.lane a.id 3 0 0 0
  else if 8 ≤ d.survey.queue.length then d.decision a.lane a.id 3 0 0 0
  else pend a.lane a.id 0 ((d.onSurvey fun s => { s with queue := s.queue ++ [a] }).showQueue)

/-- An ADMIT request is decided by the first row of R189 that applies. -/
def decideAdmit (a : Applicant) (version reserved : Nat) (d : Dev) : Dev :=
  let L := a.lane
  let listed := d.listedCtx a.id
  if version / 256 ≠ 1 then refuse L a.id 3 d
  else if !requestOk a reserved then refuse L a.id 4 d
  else if allCtx.any (fun c => d.isBound c && d.ctxId c == a.id && d.laneOf c != some L) then refuse L a.id 2 d
  else if d.outOfRange (d.lane L).dout then refuse L a.id 8 d
  else if !d.flag (LANE_DOUT_VALID L) then d.decision L a.id 3 0 0 0
  else match allCtx.find? fun c => d.reservedOn c L && d.awaitedId c == a.id with
  | some c =>
    -- R53 keeps the 49th member out: DEDUCED (log 101), of a RESERVED context too, which row 6 would admit
    if d.lockstepFull (some c) then pend L a.id 7 d else admitCell c a d
  | none =>
    if (match listed with
        | some c => d.flag (CTX_BIND_LOCK c) && (match (d.cell c).home with | some H => H != L | none => false)
        | none => false) then refuse L a.id 0xA d
    else if (match listed with | some c => !d.gangOk c L | none => false) then refuse L a.id 0xB d
    else if d.polderFull listed L then pend L a.id 6 d
    else if d.lockstepFull listed then pend L a.id 7 d
    else match listed with
      | some c => if d.ctxState c = St.reserved then admitCell c a d else refuse L a.id 2 d
      | none => if d.reserved L || d.get CTX_ADMIT_CFG_POLICY == 2 then enqueue a d else refuse L a.id 1 d

/-- An ADMIT request on a survey lane: the cell's T_crx enters the lane's delay, and the request is decided. -/
def takeRequest (L : Nat) (pl : List Byte) (d : Dev) : Dev :=
  if !d.surveyed L then d else
  let a := Applicant.ofBytes L pl
  let d := d.onSurvey fun s => { s with deciding := some L, removed := false }
  let d := (d.onLane L fun x => { x with tcrx := a.tcrx }).put (LANE_LINK_STATE L) 3
  let d := if d.flag (LANE_DOUT_VALID L) then updateDout L d else d
  decideAdmit a (numAt pl 8 2) (byteAt pl 19) d

/-- The context that an approval names: CTX, or the lowest FREE one for 0xFF. -/
def approved (d : Dev) (ctx : Nat) : Option Nat :=
  if ctx = 0xFF then allCtx.find? fun c => d.ctxState c == St.free
  else if ctx < 128 then some ctx else none

/-- A write of APPROVE (R192, R216); `same` tells that it becomes visible in the hub cycle of the command before it that
changed the queue. -/
def approve (ctx : Nat) (same : Bool) (d : Dev) : Dev :=
  if same && d.survey.removed then d.put CTX_APPROVE_RESULT 3 else
  match d.survey.queue with
  | [] => d.put CTX_APPROVE_RESULT 5
  | a :: _ =>
    match d.approved ctx with
    | none => d.put CTX_APPROVE_RESULT 4
    | some c =>
      if !(d.ctxState c == St.free || d.reservedOn c a.lane) || !d.gangOk c a.lane then d.put CTX_APPROVE_RESULT 4
      else if d.polderFull (some c) a.lane || d.lockstepFull (some c) || !d.surveyed a.lane then d.put CTX_APPROVE_RESULT 2
      else ((admitCell c a d).onSurvey fun s => { s with deciding := some a.lane }).put CTX_APPROVE_RESULT 1

/-- A write of DENY (R192). -/
def deny (same : Bool) (d : Dev) : Dev :=
  if same && d.survey.removed then d.put CTX_APPROVE_RESULT 3 else
  match d.survey.queue with
  | [] => d.put CTX_APPROVE_RESULT 5
  | a :: q =>
    (refuse a.lane a.id 9 ((d.onSurvey fun s => { s with queue := q }).showQueue)).put CTX_APPROVE_RESULT 1

/-! ### Retiring and relocating (R203, R204) -/

/-- A write of RETIRE. -/
def retire (c : Nat) (d : Dev) : Dev :=
  let s := d.ctxState c
  if s = St.joining ∨ s = St.bound then
    (setSafeHold c false (setCtxState c St.retiring d)).mapChange c false
  else if s = St.lost ∨ s = St.reserved then
    let d := ((d.put (CTX_BIND_LANE c) 0xFF).clr (CTX_BIND_VALID c)).put2 (CTX_ID_LO c) (CTX_ID_HI c) 0
    let d := setCtxState c St.free d
    if s = St.lost then d.mapChange c false else d
  else d

/-- A write of RESUME (R239); the first one of a SAFEHOLD stands. -/
def resume (c : Nat) (d : Dev) : Dev :=
  if (d.cell c).safeHold && d.srcOf c == 2 then
    d.onCell c fun x => { x with resumeAt := some (x.resumeAt.getD d.now) } else d

/-- Results of R211; `claimed` tells that an admission claims the target lane, or decides a request of it, in the same hub
cycle (R205). -/
def relocResult (d : Dev) (c L : Nat) (claimed : Bool) : Nat :=
  let cmd := d.get (CTX_ASPECT_CMD c)
  if d.get GLB_MODE_MODE ≠ 0xB ∨ !(d.ctxState c == St.lost || (d.isBound c && (cmd == Asp.block || cmd == Asp.bypass))) then 3
  else if claimed ∨ d.get (LANE_CFG_ROLE L) = 3 then 2
  else if 144 ≤ L ∨ d.get (LANE_CFG_ROLE L) ≠ 0 ∨ d.flag (LANE_LED_DRIVE_OFF L) then 4
  else if d.polderFull (some c) L then 5
  else if !d.gangOk c L then 6
  else if d.logFull then 2
  else 1

/-- A relocation (R204): the context becomes LOST with cause RELOC, its lane spare, the target lane its reservation. -/
def relocate (c L : Nat) (same : Bool) (d : Dev) : Dev :=
  let claimed := same && d.survey.deciding == some L
  let r := d.relocResult c L claimed
  let d := d.put (CTX_RELOC_RESULT c) r
  if r = 2 ∧ claimed then d.arbBusy 4 L 1 1 0xA 3
  else if r = 2 ∧ d.get (LANE_CFG_ROLE L) = 3 then d.arbBusy 4 L 0xC 2 0xA 3
  else if r ≠ 1 then d
  else
    let old := d.get (CTX_BIND_LANE c)
    let d := d.stage 7 [BitVec.ofNat 8 c, BitVec.ofNat 8 old, BitVec.ofNat 8 L]
    let d := ((d.history 4 [c, old, L]).count (0x4000 + 128 * old + 22) 2 1).count (0x4000 + 128 * L + 22) 2 1
    let d := (lose 6 c d).put (CTX_STATE_LCAUSE c) 6
    let d := (d.put (LANE_CFG_ROLE old) 0).onLane old fun x => { x with darkIv := false }
    (d.put (CTX_BIND_LANE c) L).onLane L fun x => { x with darkIv := true }

/-! ### LED latches (R169 to R172) -/

/-- Source 16 + p stands while a lane of polder p is held off (R629). -/
def refreshLed (p : Nat) (d : Dev) : Dev :=
  d.breachCond (16 + p) ((List.range 18).any fun i => d.flag (LANE_LED_DRIVE_OFF (18 * p + i))) 0

/-- The driver of a lane is held off (R171, R198). -/
def driveOff (L : Nat) (d : Dev) : Dev :=
  let owner := d.ownerOfLane L
  let d := (d.set (LANE_LED_DRIVE_OFF L)).refreshLed (L / 18)
  let d := match owner with
    | some c => d.event c
    | none => d
  match d.ctxOfLane L with
  | some c => lose 3 c d
  | none => d

/-- LED_DARK latches (R170, R171). -/
def ledDark (L : Nat) (d : Dev) : Dev :=
  let d := (d.set (LANE_LED_LED_DARK L)).count (0x4000 + 128 * L + 16) 2 1
  if d.flag (LANE_LED_DARKACT L) then driveOff L d else d

/-- LED_LIT latches (R170, R171). -/
def ledLit (L : Nat) (d : Dev) : Dev :=
  driveOff L ((d.set (LANE_LED_LED_LIT L)).count (0x4000 + 128 * L + 18) 2 1)

/-- The device has a lane lit: a survey lane, a bound lane in the modes that light it, or a lane under test whose LED
drives the loop plug (R41, R187, R487). -/
def litLane (d : Dev) (L : Nat) : Bool :=
  d.surveyed L || ((d.ctxOfLane L).isSome && d.lanesLit) || (d.get (LANE_CFG_ROLE L) == 3 && d.flag BIST_CTRL_EXTLOOP)

/-- R169 evaluates the slots: VOPT is within its operating range. -/
def slotsSeen (d : Dev) : Bool := !d.flag PWR_STATUS_OPTOFF && !d.brch.rails.testBit 4

/-- A one-bit fails (R169): below 75 % of the set current of 5 mA + 0.25 mA × ION, or a forward voltage below 1.0 V. -/
def oneFails (d : Dev) (L : Nat) (b : LedBit) : Bool :=
  decide (b.cur.toNat < 3 * (20 + d.get (LANE_CFG_ION L))) || decide (b.volt.toNat < 100)

/-- A zero-bit fails (R169): more than 0.5 mA. -/
def zeroFails (b : LedBit) : Bool := decide (8 < b.cur.toNat)

/-- At least half of the bits fail; a slot that has none of them passes (DEDUCED, log 102). -/
def halfFail (bs : List LedBit) (f : LedBit → Bool) : Bool := bs != [] && decide (bs.length ≤ 2 * (bs.filter f).length)

/-- A counter of R170. -/
def slotCount (n : Nat) (fails : Bool) : Nat := if fails then min 30 (n + 1) else n - 1

/-- One symbol slot of a lane (R169, R170): its ten bits move the DARK and LIT counters, which latch at 30. -/
def ledSlot (L : Nat) (bs : List LedBit) (d : Dev) : Dev :=
  if !d.slotsSeen then d else
  let lit := d.litLane L
  let x := d.lane L
  let dark := slotCount x.dark (lit && halfFail (bs.filter (·.one)) (d.oneFails L))
  let litc := slotCount x.lit (halfFail (if lit then bs.filter (!·.one) else bs) zeroFails)
  let d := (d.onLane L fun x => { x with dark := dark, lit := litc }).putB (LANE_LED_DARK_NOW L) (dark == 30)
  let d := d.putB (LANE_LED_LIT_NOW L) (litc == 30)
  let d := if dark = 30 ∧ !d.flag (LANE_LED_LED_DARK L) then ledDark L d else d
  if litc = 30 ∧ !d.flag (LANE_LED_LED_LIT L) then ledLit L d else d

/-- ISENSE (R172): the mean one-bit sense current of the latest 125 slots, in 0.25 mA.  DESIGN CHOICE (log 102): rounded
down, and 0 where they hold no one-bit. -/
def senseMean (slots : List (List LedBit)) : Nat :=
  let cs := ((slots.drop (slots.length - 125)).flatten.filter (·.one)).map fun b => b.cur.toNat
  if cs = [] then 0 else min 255 (cs.foldl (· + ·) 0 / cs.length / 4)

/-- The symbol slots of a lane since its previous command, oldest first. -/
def ledSlots (L : Nat) (slots : List (List LedBit)) (d : Dev) : Dev :=
  let d := each slots (ledSlot L) d
  if d.slotsSeen && slots != [] then d.put (LANE_LED_ISENSE L) (senseMean slots) else d

/-- REARM (R172), recorded in the change log (R525, R526). -/
def ledRearm (L : Nat) (d : Dev) : Dev :=
  if d.get GLB_MODE_MODE ≠ 0xB ∨ d.logFull then d else
  let d := d.stage 6 [BitVec.ofNat 8 L]
  let d := (((d.clr (LANE_LED_LED_DARK L)).clr (LANE_LED_LED_LIT L)).clr (LANE_LED_DRIVE_OFF L))
  let d := ((d.clr (LANE_LED_DARK_NOW L)).clr (LANE_LED_LIT_NOW L)).onLane L fun x => { x with dark := 0, lit := 0 }
  d.refreshLed (L / 18)

end Dev

open Dev

/-- Four K28.5 at one alignment (R102); here and below `cur` is the average photocurrent in nA (R101).  A polder in BIST
takes no part. -/
def execLinkSyncAcquire (L : Fin 144) (cur : BitVec 20) (s : State) := s.next fun d =>
  if d.get GLB_MODE_MODE = 0 ∨ d.inBist (L.val / 18) then d else
  let d := receive L.val cur ((d.set (LANE_LINK_SYNC L.val)).clr (LANE_LINK_LOS L.val))
  if d.ctxOfLane L.val = none then d.showLink L.val else d

/-- Four invalid code groups within 16 (R102), the last of `syms`, which have come since the lane's previous command. -/
def execLinkSyncLoss (L : Fin 144) (cur : BitVec 20) (syms : List Sym) (s : State) := s.next fun d =>
  loseSync L.val (receive L.val cur (laneSyms L.val syms d))

/-- DLOS without a valid symbol (R139). -/
def execLossOfLight (L : Fin 144) (cur : BitVec 20) (syms : List Sym) (s : State) := s.next fun d =>
  loseLight L.val (receive L.val cur (laneSyms L.val syms d))

/-- RMISS deckles in succession without an accepted RETURN (R198). -/
def execReturnMiss (c : Fin 128) (s : State) := s.next fun d =>
  let x := d.cell c.val
  if d.isBound c.val && !x.gotAny && decide (x.nb ≤ d.tide.n) && decide (d.get CTX_ADMIT_CFG_RMISS ≤ x.missed + 1) then
    lose 2 c.val d
  else d

/-- The dark interval of a lane ends (R199, R203): it is a survey lane; one whose driver is held off stays off until
REARM (`surveyed`). -/
def execDarkIntervalEnd (L : Fin 144) (s : State) := s.next fun d =>
  if (d.lane L.val).darkIv then toSurvey L.val d else d

/-- A RETURN on a bound lane (R129 to R131, R159); `ovf` tells that it meets a full class A buffer (R29). -/
def execReturnFrame (L : Fin 144) (cur : BitVec 20) (syms : List Sym) (ovf : Bool) (s : State) := s.next fun d =>
  laneFrame L.val syms 2 (fun _ pl d => match d.ctxOfLane L.val with
    | some c => if ovf then overflowed c d else takeReturn c L.val pl d
    | none => d) (receive L.val cur d)

/-- The deadline B(n) + S of a LOCKSTEP SNAPSHOT (R242). -/
def execSnapshotDeadline (s : State) := s.next fun d => if d.slu.snap == none then d else d.snapshot

/-- A RANGE request leaves the LED pin at `t` (R111, R127, R128): on a bound lane or a survey lane with a cell in sync,
one at a time, in the deckles of R80 and R187. -/
def execRangeRequest (L : Fin 144) (t : BitVec 64) (s : State) := s.next fun d =>
  let lit := d.surveyed L.val || ((d.ctxOfLane L.val).isSome && d.lanesLit)
  if lit && d.flag (LANE_LINK_SYNC L.val) && (d.lane L.val).ttx == none && d.rangeDue L.val && d.laneFree L.val then
    let rid := (d.lane L.val).rid
    (d.laneSend L.val (nymFrame 4 [BitVec.ofNat 8 rid, 0])).onLane L.val fun x =>
      { x with rid := (rid + 1) % 256, ttx := some t.toNat, rangeAt := some d.tide.n }
  else d

/-- A RANGE reply at `t` (R79, R128): a reply in time, with the RID and a measured turn, gives a sample.  R128 does not say
whether a reply with TVALID 0 ends the exchange: DESIGN CHOICE (log 104), the request stays outstanding until its
timeout. -/
def execRangeReply (L : Fin 144) (t : BitVec 64) (cur : BitVec 20) (syms : List Sym) (s : State) := s.next fun d =>
  laneFrame L.val syms 4 (fun _ pl d =>
    match (d.lane L.val).ttx with
    | none => d
    | some t0 =>
      let trip : Int := ((t.toNat : Int) - t0) * 250
      if trip ≤ 20000000 ∧ byteAt pl 0 = ((d.lane L.val).rid + 255) % 256 ∧ byteAt pl 1 % 2 = 1 then
        takeSample L.val (trip - numAt pl 2 4 - txd L.val - rxd L.val)
          (d.onLane L.val fun x => { x with ttx := none })
      else d) (receive L.val cur d)

/-- 20 µs have passed since the request (R128). -/
def execRangeTimeout (L : Fin 144) (s : State) := s.next fun d => d.onLane L.val fun x => { x with ttx := none }

/-- The BEACON of a survey lane in its deckles (R112, R187, R188). -/
def execBeacon (L : Fin 144) (s : State) := s.next fun d =>
  if d.surveyed L.val && d.running && d.tide.n % 16 == L.val % 16 then
    d.laneSend L.val (nymFrame 7 (le 2 0x0100 ++ le 2 L.val ++ le 4 d.tide.n ++ le 6 d.tide.p ++
      [BitVec.ofNat 8 (d.admitOpen L.val).toNat, 0]))
  else d

/-- An ADMIT request (R189), and the others that become visible in its hub cycle: the lower lane comes first (R190). -/
def execAdmitRequest (L : Fin 144) (syms : List Sym) (also : List (Fin 144 × List Sym)) (s : State) := s.next fun d =>
  each allLanes (fun M d =>
    each (((L, syms) :: also).filter fun r => r.1.val = M)
      (fun r d => laneFrame M r.2 8 (fun _ pl d => takeRequest M pl d) d) d) d

/-- CTX_APPROVE.APPROVE (R192). -/
def execApprove (ctx : Byte) (same : Bool) (s : State) := s.next (approve ctx.toNat same)

/-- CTX_APPROVE.DENY (R192). -/
def execDeny (same : Bool) (s : State) := s.next (deny same)

/-- CTX_CMD.RETIRE (R203). -/
def execRetire (c : Fin 128) (s : State) := s.next (retire c.val)

/-- CTX_CMD.RESUME (R239). -/
def execResume (c : Fin 128) (s : State) := s.next (resume c.val)

/-- CTX_RELOC.GO with its TARGET (R204, R211). -/
def execRelocate (path : Path) (c : Fin 128) (L : Byte) (same : Bool) (s : State) :=
  s.next (keyedAct path (0x80018 + 0x100 * c.val) fun d =>
    relocate c.val L.toNat same (d.put (CTX_RELOC_TARGET c.val) L.toNat))

/-- The slots that bring the DARK counter to 30 (R169 to R171). -/
def execLedDarkLatch (L : Fin 144) (slots : List (List LedBit)) (s : State) := s.next (ledSlots L.val slots)

/-- The slots that bring the LIT counter to 30 (R169 to R171). -/
def execLedLitLatch (L : Fin 144) (slots : List (List LedBit)) (s : State) := s.next (ledSlots L.val slots)

/-- LANE_LED.REARM (R172). -/
def execLedRearm (path : Path) (L : Fin 144) (s : State) := s.next (keyedAct path (laneOff L.val + 0x14) (ledRearm L.val))

end Sys2Proof.Machine
end

