-- ==== Sys2Proof/Machine/Load.lean ====
section
/-! DEFINITION. LOAD (R532, R512, R544): the result of a read image, warm or cold restart, what is applied, the change
log's anchor (R527); RELOAD and COLD_REQUEST (R47, R551). -/

namespace Sys2Proof.Machine

open Reg

namespace Dev

/-! ### The change log in flash (R524, R527) -/

def logAddr (k : Nat) : Nat := 0x10000 + 64 * (k % 1024)

/-- The entry at a place of the ring, when it holds one: its index and its 64 bytes. -/
def logAt (d : Dev) (i : Nat) : Option (Nat × List Byte) :=
  let b := d.flashRead (logAddr i) 64
  let k := nat (b.take 4)
  if k < 2 ^ 32 - 1 ∧ k % 1024 = i then some (k, b) else none

/-- Index of the newest entry held. -/
def newestLog (es : List (Nat × List Byte)) : Nat := es.foldl (fun m e => max m e.1) 0

/-- The entries held, oldest first. -/
def heldLog (d : Dev) : List (Nat × List Byte) :=
  let es := (List.range 1024).filterMap d.logAt
  let n := newestLog es
  ((List.range 1024).map fun i => (n + 1 + i) % 1024).filterMap d.logAt

/-- Number of entries that are continuous from the oldest on. -/
def continuous : List (Nat × List Byte) → Nat
  | [] => 0
  | [_] => 1
  | a :: b :: es => if b.2.drop 32 = Sha.sha256 a.2 then 1 + continuous (b :: es) else 1

/-- The check of R527; a broken chain goes on from the newest entry in flash. -/
def checkAnchor (d : Dev) : Dev :=
  let es := d.heldLog
  let whole := continuous es == es.length
  match es.getLast? with
  | none =>
    if d.mgmt.logN = 0 then d.clr WMK_LOG_STAT_BROKEN
    else stage 0xE (le 4 0xFFFFFFFF) (d.set WMK_LOG_STAT_BROKEN)
  | some (k, b) =>
    if whole && k + 1 == d.mgmt.logN && Sha.sha256 b == d.mgmt.digest then d.clr WMK_LOG_STAT_BROKEN
    else
      let last := (es.take (continuous es)).getLast?.map (·.1) |>.getD 0xFFFFFFFF
      let d := d.onMgmt fun m => { m with logN := max m.logN (k + 1), digest := Sha.sha256 b }
      stage 0xE (le 4 last) ((d.set WMK_LOG_STAT_BROKEN).put WMK_LOG_NEXT_NEXT d.mgmt.logN)

/-! ### A rejected image (R512, R517, R528) -/

/-- An image that passes checks 3 to 8. -/
def sealOk (d : Dev) (slot : Nat) : Bool := (Image.checkSeal d (Image.read d slot)).isNone

/-- The conflict is recorded (R513). -/
def showConflict (x : Option (Nat × Nat × (Nat × Nat) × (Nat × Nat))) (d : Dev) : Dev :=
  match x with
  | none => d
  | some (kind, idx, a, b) =>
    let d := (d.put WMK_CONFLICT0_RKIND kind).put WMK_CONFLICT0_RIDX idx
    let d := (d.put WMK_CONFLICT1_KIND a.1).put WMK_CONFLICT1_INST a.2
    (d.put WMK_CONFLICT2_KIND b.1).put WMK_CONFLICT2_INST b.2

/-- The image is rejected: its code and detail, the password record of the other slot, DARK with cause 0xA, source 44. -/
def reject (code detail : Nat) (d : Dev) : Dev :=
  let d := ((d.put WMK_STATUS_CODE code).put WMK_STATUS_DETAIL detail).clr WMK_STATUS_LOADED
  let other := 1 - d.get WMK_STATUS_SLOT
  let pwd := if code ≠ 0x12 ∧ d.sealOk other then some (Image.read d other).password else none
  let d := d.onMgmt fun m => { m with pwd := pwd }
  (enter 9 0xA false d).breachCond 44 true code

/-! ### What a restart keeps (R185, R543 to R545) -/

/-- The choice of R544. -/
def warmChosen (d : Dev) (mark : List Byte) : Bool :=
  d.flag GLB_START_RETOK && d.flag GLB_START_WVALID && d.mgmt.retained.mark == mark && d.flag GLB_CTRL_WARMEN &&
    !d.flag GLB_CTRL_COLDREQ

def chooseKind (warm : Bool) (d : Dev) : Dev :=
  if warm then d.put GLB_START_KIND 2
  else
    (((d.put GLB_START_KIND 1).clr GLB_CTRL_COLDREQ).clr GLB_START_WVALID).onMgmt fun m =>
      { m with retained := { m.retained with wvalid := false } }

/-- Every lane starts anew, its sequence numbers with it (R185); its role is the image's (R187). -/
def freshLane (L : Nat) (d : Dev) : Dev :=
  let x := d.lane L
  let d := d.setLane L { survey := d.get (LANE_CFG_ROLE L) == 1, dark := x.dark, lit := x.lit, rid := x.rid }
  each [LANE_DOUT_VALID L, LANE_DOUT_OOR L, LANE_DOUT_SETTLING L, LANE_DOUT_FD L, LANE_DOUT_DOUT L, LANE_SEQ_ACKSEQ L,
    LANE_SEQ_RGAP L, LANE_SEQ_RSEQ L, LANE_SEQ_SSEQ L, LANE_BULK_CREDIT L, LANE_BULK_NEXT L, LANE_BULK_PSEQ L,
    LANE_BULK_RETX L] (fun f d => d.clear f) d

/-- A context as a cold restart leaves it (R184, R185, R545). -/
def coldCell (c : Nat) (d : Dev) : Dev :=
  let listed := d.flag (CTX_STATE_LISTED c)
  let home := if listed then Setup.homeOf d c else none
  let d := each [CTX_CAP_CAP c, CTX_CAP_CRED c, CTX_CAP_NSL c, CTX_CAP_TLOSS c, CTX_ASPECT_UMAX c, CTX_STATE_AGE c,
    CTX_STATE_LCAUSE c, CTX_STATE_PENDMAP c, CTX_PSTAT_SAFEREQ c, CTX_PSTAT_FILLDONE c, CTX_MBX_PCOUNT c,
    CTX_PROG_BUDGET c, CTX_PROG_BMBX c, CTX_PROG_SLACK c, CTX_PROG_FILL c, CTX_PROG_ASPECT c, CTX_ASPECT_FB c,
    CTX_MEMBER c, CTX_MEMBER_PEND c] (fun f d => d.clear f) d
  let d := each (proofFields c) (fun f d => d.clear f) d
  let d := d.setCell c { listed := d.get2 (CTX_ID_LO c) (CTX_ID_HI c), home := home }
  let d := d.put (CTX_ASPECT_CMD c) (d.safeAspect c)
  let d := match home with
    | some L => ((d.put (CTX_BIND_LANE c) L).set (CTX_BIND_VALID c)).put (LANE_CFG_ROLE L) 1
    | none => (d.put (CTX_BIND_LANE c) 0xFF).clr (CTX_BIND_VALID c)
  setCtxState c (if listed then St.reserved else St.free) d

/-- What a warm restart gives back to a context whose CRC passes (R185, R186, R195). -/
def warmCellBack (c : Nat) (d : Dev) : Dev :=
  let w := Table.get {} d.mgmt.retained.cells c
  let d := each (admissionFields c ++ proofFields c) (fun f d =>
    match w.regs.find? fun e => e.1 = f.key with
    | some e => d.put f e.2
    | none => d) d
  if !w.member then d else
  let d := (d.put (CTX_STATE_LCAUSE c) 7).set (CTX_MEMBER c)
  let d := d.onCell c fun x => { x with tcrx := w.tcrx, want := true }
  let d := match w.lane with
    | some L =>
      let d := d.onLane L fun x => { x with tcrx := w.tcrx, rtt := w.rtt, dout := w.dout }
      let d := (d.put (LANE_DOUT_DOUT L) (w.dout / 32).toNat).put (LANE_DOUT_FD L) (fineDelay w.dout)
      ((d.put (CTX_BIND_LANE c) L).set (CTX_BIND_VALID c)).put (LANE_CFG_ROLE L) 1
    | none => (d.put (CTX_BIND_LANE c) 0xFF).clr (CTX_BIND_VALID c)
  setCtxState c St.lost d

/-- The contexts, the lanes, survey and the map after a restart (R184 to R186, R195). -/
def restartCells (warm : Bool) (bad : Nat → Bool) (d : Dev) : Dev :=
  let lost := !d.flag GLB_START_RETOK
  let d := each allLanes freshLane d
  let d := each allCtx (fun c d =>
    let d := coldCell c d
    let d := if lost || (warm && bad c) then d.event c else d
    if warm && !bad c then warmCellBack c d else d) d
  let d := (((d.clr CTX_MAPVER_CUR).clr CTX_MAPVER_PEND).clr CTX_MAPVER_PVALID).clr CTX_MAPVER_WAITING
  let d := (((d.clr CTX_PEND_LO).clr CTX_PEND_HI).clr CTX_PEND_INFO_VALID).clr CTX_PEND_INFO_DEPTH
  ({ d with survey := {}, couch := {} }.clr SLU_HOLD_SAFEHOLD).put SLU_SRC_ACTIVE (d.get SLU_CFG_SRC0)

/-- The program state of the dike processor as the restart gives it (R380, R381); a double-bit error found by the scrub
makes it cold and raises source 34. -/
def restartDike (warm retEcc : Bool) (d : Dev) : Dev :=
  let r := d.mgmt.retained
  let d := d.onDike fun k =>
    if warm then { k with marks := r.marks, words := r.words, counts := r.counts, edges := r.edges, cold := retEcc }
    else { k with cold := false }
  if warm && retEcc then d.breach 34 0 else d

/-- The sections of the image take effect (R532, step 6). -/
def applySections (g : Image) (s : Setup) (d : Dev) : Dev :=
  let d := { d with regs := s.cand.regs }
  let d := d.put SAF_SCRC_SCRC (crc32 (g.sectionOf 0x20))
  let d := each allPolders (fun p d =>
    let x := ((s.polders.find? fun e => e.1 = p).map (·.2)).getD {}
    d.onPolder p fun y => { y with imem := tableOf x.imem, dmem := poke [] 0 x.data, progs := x.progs, run := none,
                                   scratch := [], regs := [], pc := 0, stack := [] }) d
  let base (b : Nat) : Nat := if b = 0 then 1000 else if b = 1 then 10000 else 100000
  let d := d.onDike fun k =>
    { k with bank0 := s.safety.bank
             image := s.safety.bank
             bank1 := { code := tableOf (s.fic.start.map BitVec.toNat), plen := s.fic.start.length }
             timers0 := s.safety.timers.zipIdx.foldl (fun m x => Table.put {} m x.2 { pt := x.1.1, base := base x.1.2 }) []
             counts0 := s.safety.counts.zipIdx.foldl (fun m x => Table.put {} m x.2 { preset := x.1 }) []
             words0 := s.safety.words.foldl (fun m x => Table.put 0 m x.1 x.2) [] }
  let d := ((d.putBit DIKE_STATUS_CHECKED 0 true).clr DIKE_STATUS_BANK).clr DIKE_STATUS_ONLINE
  { d with fic := { d.fic with start := s.fic.start, test := s.fic.test, slim := s.fic.slim, tlim := s.fic.tlim } }

/-- An input that is loaded as off reads 0 and has no fault (R404). -/
def freshInputs (d : Dev) : Dev :=
  each (List.range 24) (fun x d =>
    if d.get (FLD_IN_TYPE x) = 0 then
      ((d.onFin x fun _ => {}).setInFault x 0).clr (FLD_IN_PARTNER x)
    else d) d

/-- The pins that functions claim (R601, R602). -/
def claimedPins (d : Dev) : Nat :=
  [GLB_GPIO_FN_F1, GLB_GPIO_FN_F2, GLB_GPIO_FN_F3, GLB_GPIO_FN_F4, GLB_GPIO_FN_F5, GLB_GPIO_FN_F6].foldl
    (fun m f => if 8 ≤ d.get f then m ||| 2 ^ (d.get f - 8) else m) 0

/-- Values that follow from what was loaded: the period before the first deckle (R63), the low target word (R64), the
claimed pins, the breach levels (R457). -/
def followLoad (d : Dev) : Dev :=
  let d := (d.put2 TIDE_PERIOD_LO TIDE_PERIOD_HI_HI d.nominal).onTide fun t => { t with tgtLo := d.get TIDE_TGT_LO }
  d.put GLB_GPIO_CLAIMED d.claimedPins

/-- The image has passed: warm or cold restart, loads, anchor, LOAD entry, RAISE (R532, steps 5 to 7). -/
def applyImage (g : Image) (s : Setup) (bad : Nat → Bool) (retEcc : Bool) (d : Dev) : Dev :=
  let level := d.standing
  let iso := d.get2 CAB_ISO_MASK CAB_ISO_DWELL
  let d := freshInputs (applySections g s d)
  -- R426: other inputs, or another dwell, have not been held
  let d := if d.get2 CAB_ISO_MASK CAB_ISO_DWELL = iso then d else d.clr CAB_STATUS_ISO_OK
  let warm := d.warmChosen g.mark
  let d := (chooseKind warm d).followLoad
  let d := ((d.clr WMK_STATUS_CODE).put WMK_STATUS_DETAIL 0xFF).set WMK_STATUS_LOADED
  let d := each (List.range 8) (fun k d => d.put (WMK_HASH_HASH k) (nat ((g.mark.drop (4 * k)).take 4))) d
  let d := d.put WMK_SERIAL_SERIAL g.serial
  let d := (restartDike warm retEcc (restartCells warm bad d))
  let d := d.onMgmt fun m =>
    { m with lcsMask := g.lcsMask, pwd := some g.password, retained := { m.retained with mark := g.mark }, live := true }
  let d := (settleLevel level none (d.breachCond 44 false 0)).settleGrace
  let d := d.checkAnchor
  let d := stage 0xD (g.mark.take 8 ++ [BitVec.ofNat 8 g.slot]) d
  let d := d.put GLB_START_T_LOADT (min 0xFFFF ((d.up - d.mgmt.loadAt) / 100000))
  enter 1 0 false d

/-- A JEDEC ID that fails check 1 (R503). -/
def jedecBad (j : Nat) : Bool := j == 0 || j == 0xFFFFFF || decide (j % 256 < 0x17)

/-- The directory and the image are read, checked and applied (R532). -/
def readImage (bad : Nat → Bool) (retEcc : Bool) (d : Dev) : Dev :=
  let d := d.putB WMK_STATUS_BLANK (!d.sealOk 0 && !d.sealOk 1)
  match d.directory with
  | none => reject 1 0xFF d
  | some (copy, gen, slot) =>
    let d := ((d.onMgmt fun m => { m with dirCopy := copy }).put WMK_GEN_GEN gen).put WMK_STATUS_SLOT slot
    let g := Image.read d slot
    match Image.checkSeal d g with
    | some (code, detail) => reject code detail d
    | none =>
      let s := g.setup d
      match g.checkContent s with
      | some (code, detail) => reject code detail (if code = 0x10 then showConflict s.conflict d else d)
      | none => applyImage g s bad retEcc d

/-- LOAD ends: in the RETIRED state in DARK without an image (R47, R514), else by the image. -/
def loadComplete (jedec : Nat) (bad : Nat → Bool) (retEcc : Bool) (d : Dev) : Dev :=
  if d.mode' ≠ 0 then d else
  if d.lcs = 3 then enter 9 0 false d
  else
    let d := d.put WMK_QSPI_JEDEC jedec
    if jedecBad jedec then reject 0x12 0xFF (d.set WMK_STATUS_BLANK) else readImage bad retEcc d

end Dev

open Dev

/-- The operands: the JEDEC ID that the flash answers, the contexts whose warm part fails its CRC (R186), and whether the
scrub of the retentive ranges finds a double-bit error (R381).  The flash itself is state. -/
def execLoadComplete (jedec : BitVec 24) (bad : List (Fin 128)) (retEcc : Bool) (s : State) :=
  s.next (loadComplete jedec.toNat (fun c => bad.any fun b => b.val == c) retEcc)

/-- A write of GLB_CTRL.RELOAD in DARK (R47); elsewhere, and in the RETIRED state, it makes no transition. -/
def execReload (path : Path) (s : State) := s.next fun d =>
  if path ≠ .fic ∧ d.mode' = 9 ∧ d.lcs ≠ 3 then enter 0 1 false (d.put GLB_START_SRC 2) else d

/-- A write of GLB_CTRL.COLD (R551); a FIC access has no effect on GLB_CTRL (R539). -/
def execColdRequest (path : Path) (s : State) := s.next fun d => if path = .fic then d else d.set GLB_CTRL_COLDREQ

end Sys2Proof.Machine
end

