-- ==== Sys2Proof/Machine/Mgmt.lean ====
section
/-! DEFINITION. The management engine (R24), the password (R516 to R518), the image write (R519 to R523), the change
log (R526) and the life-cycle state (R515). -/

namespace Sys2Proof.Machine

open Reg

namespace Dev

/-- The number of a path, as the password check and the key sequence record it. -/
def pathNo : Path → Nat
  | .pcie => 0
  | .spi => 1
  | .fic => 2

/-- The ledger MRAM shows the anchor, FAILS and the lockout time (R556). -/
def showMgmt (d : Dev) : Dev :=
  let anchor := le 4 (d.mgmt.logN - 1) ++ (d.mgmt.digest ++ List.replicate 32 0).take 32
  let m := if d.mgmt.logN = 0 then d.ldg.mram else poke d.ldg.mram 24 anchor
  let m := poke m 60 (le 4 d.mgmt.fails ++ le 4 d.mgmt.lock)
  ((d.onLdg fun l => { l with mram := m }).put WMK_PWD_CTRL_FAILS d.mgmt.fails).put WMK_PWD_CTRL_LOCKREM d.mgmt.lock

/-! ### The engine stops and runs again (R24) -/

/-- What a stop ends: the counts since the latest commit, a password check, an image write. -/
def engineStop (code : Nat) (d : Dev) : Dev :=
  if d.mgmt.stopped then d else
  let d := d.onLdg fun l => { l with acc := [], charge := [] }
  let d := if d.mgmt.checking.isSome then d.put WMK_PWD_CTRL_RESULT 6 else d
  let d := (d.abortWrite).onMgmt fun m => { m with stopped := true, checking := none }
  d.breachCond 47 true code

/-- A stop whose cause has no stated code. -/
def engineStopOpen (d : Dev) : Dev := let (w, d) := d.draw; engineStop (w.toNat % 256) d

/-! ### Password -/

def candidate (d : Dev) (len : Nat) : List Byte :=
  (((List.range 16).map fun k => le 4 (Table.get 0 d.mgmt.cand k)).flatten).take len

/-- The first refusal of R518 that applies; 0 for none. -/
def checkRefusal (d : Dev) (len : Nat) : Nat :=
  if d.mgmt.stopped then 6
  else if d.mgmt.checking.isSome then 2
  else if 0 < d.mgmt.lock then 4
  else if len < 8 ∨ 64 < len then 7
  else if d.mgmt.pwd = none then 5
  else 0

def passwordCheck (path : Path) (len : Nat) (d : Dev) : Dev :=
  let r := d.checkRefusal len
  if r ≠ 0 then d.put WMK_PWD_CTRL_RESULT r
  else d.onMgmt fun m => { m with checking := some (d.candidate len), cand := [], chkPath := pathNo path }

/-- A MATCH is held for the first key word (R622), unless the sequence is open. -/
def holdMatch (d : Dev) : Dev :=
  if d.flag GLB_KEY_STAT_OPEN then d
  else { (d.put GLB_KEY_STAT_STEP 1).putB GLB_KEY_STAT_PATH (d.mgmt.chkPath == 1) with
         key := { d.key with owner := d.mgmt.chkPath } }

def mismatch (d : Dev) : Dev :=
  let n := d.mgmt.fails + 1
  let d := stage 9 [BitVec.ofNat 8 n] d
  if 5 ≤ n then (stage 0xA [] d).onMgmt fun m => { m with fails := 0, lock := 600 }
  else d.onMgmt fun m => { m with fails := n }

def passwordResult (d : Dev) : Dev :=
  match d.mgmt.checking, d.mgmt.pwd with
  | some cand, some (salt, key) =>
    let d := d.onMgmt fun m => { m with checking := none }
    if Sha.pbkdf2 cand salt = key then
      (((d.onMgmt fun m => { m with fails := 0 }).showMgmt).put WMK_PWD_CTRL_RESULT 1).holdMatch
    else (d.mismatch.showMgmt).put WMK_PWD_CTRL_RESULT 3
  | _, _ => d

/-! ### Image write -/

/-- The blank write of R523 needs no key sequence. -/
def blankWrite (d : Dev) : Bool := d.flag WMK_STATUS_BLANK && decide (d.lcs < 2) && d.mode' == 9

/-- A KRW write of the image write registers, with its value: on the open sequence's path, or as a blank write. -/
def writeAct (path : Path) (off v : Nat) (f : Dev → Dev) (d : Dev) : Dev :=
  if d.blankWrite && path != .fic && !d.keyed path then f d else keyedWrite path off v f d

/-- The device admits an image write now (R519, R523). -/
def writeMode (d : Dev) : Bool := d.lcs != 3 && (d.mode' == 0xB || d.blankWrite)

def writeSlot (d : Dev) : Nat := if d.flag WMK_STATUS_BLANK then 0 else 1 - d.get WMK_STATUS_SLOT

def writeBegin (d : Dev) : Dev :=
  if !d.writeMode then d.put WMK_WR_CTRL_RESULT 7
  else if d.mgmt.stopped || d.get WMK_WR_STAT_STATE != 0 then d.put WMK_WR_CTRL_RESULT 2
  else
    let slot := d.get WMK_STATUS_SLOT
    let d := match d.directory with
      | some (copy, _, s) =>
        let d := d.onMgmt fun m => { m with dirCopy := copy }
        if s ≠ slot ∧ !d.flag WMK_STATUS_BLANK then writeDirectory slot d else d
      | none => d
    let d := ((d.put WMK_WR_STAT_STATE 1).clr WMK_WR_STAT_OVERRUN).clr WMK_WR_STAT_CODE
    ((d.clr WMK_WR_STAT_SPACE).clr WMK_WR_COUNT_COUNT).onMgmt fun m => { m with write := { slot := d.writeSlot } }

def eraseDone (d : Dev) : Dev :=
  if d.get WMK_WR_STAT_STATE ≠ 1 then d else
  let base := slotBase d.mgmt.write.slot
  (((flashErase base 0x200000 d).send (.flash base [])).put WMK_WR_STAT_STATE 2).put WMK_WR_STAT_SPACE 512

/-- Four bytes arrive; none while SPACE is 0, as it is outside RECEIVING too (R519), or past the end of the slot. -/
def writeData (v : Word) (d : Dev) : Dev :=
  if d.get WMK_WR_STAT_STATE ≠ 2 ∨ d.get WMK_WR_STAT_SPACE < 4 ∨ 2097152 ≤ d.get WMK_WR_COUNT_COUNT then d.set WMK_WR_STAT_OVERRUN
  else
    let d := d.onMgmt fun m => { m with write := { m.write with buf := m.write.buf ++ le 4 v.toNat } }
    (d.put WMK_WR_STAT_SPACE (d.get WMK_WR_STAT_SPACE - 4)).add WMK_WR_COUNT_COUNT 4

/-- The next page of the buffer goes into the flash. -/
def programPage (d : Dev) : Dev :=
  let w := d.mgmt.write
  let a := slotBase w.slot + 256 * w.page
  let bs := w.buf.take 256
  let d := (flashPut a bs d).send (.flash a bs)
  d.onMgmt fun m => { m with write := { w with buf := w.buf.drop 256, page := w.page + 1 } }

def pageDone (d : Dev) : Dev :=
  if d.get WMK_WR_STAT_STATE ≠ 2 ∨ d.mgmt.write.buf.length < 256 then d
  else (programPage d).put WMK_WR_STAT_SPACE (d.get WMK_WR_STAT_SPACE + 256)

/-- COMMIT (R520): the rest of the buffer is programmed, and the checks begin. -/
def writeCommit (d : Dev) : Dev :=
  if !d.writeMode then d.put WMK_WR_CTRL_RESULT 7
  else if d.mgmt.stopped || d.logFull then d.put WMK_WR_CTRL_RESULT 2
  else if d.get WMK_WR_STAT_STATE ≠ 2 ∨ d.get WMK_WR_COUNT_COUNT ≠ d.get WMK_WR_LEN_LEN ∨ d.flag WMK_WR_STAT_OVERRUN then
    d.put WMK_WR_CTRL_RESULT 3
  else
    let left := (d.mgmt.write.buf.length + 255) / 256
    ((each (List.range left) (fun _ d => programPage d) d).put WMK_WR_STAT_STATE 3).clr WMK_WR_STAT_SPACE

/-- The checks of a commit end; while the staging area is full, the entry that R526 asks for is waited for. -/
def commitDone (d : Dev) : Dev :=
  if d.get WMK_WR_STAT_STATE ≠ 3 ∨ d.logFull then d else
  let slot := d.mgmt.write.slot
  let g := Image.read d slot
  let d := (d.clr WMK_WR_STAT_STATE).onMgmt fun m => { m with write := {} }
  match g.check d with
  | some (code, _) => (d.put WMK_WR_STAT_CODE code).put WMK_WR_CTRL_RESULT 4
  | none =>
    let d := stage 1 (g.mark.take 8 ++ [BitVec.ofNat 8 slot]) d
    ((writeDirectory slot d).clr WMK_STATUS_BLANK).put WMK_WR_CTRL_RESULT 1

/-! ### Change log -/

/-- The oldest staged entry goes into the flash, and the anchor follows (R524, R526, R527). -/
def writeLog (d : Dev) : Dev :=
  match d.mgmt.staged with
  | [] => d
  | e :: es =>
    let k := d.mgmt.logN
    let a := logAddr k
    let bs := logBytes k (if k = 0 then [] else d.mgmt.digest) e
    let d := if a % 4096 = 0 then flashErase a 4096 d else d
    let d := (flashPut a bs d).send (.flash a bs)
    let d := d.onMgmt fun m => { m with staged := es, logN := k + 1, digest := Sha.sha256 bs }
    (d.showStaging.showMgmt).put WMK_LOG_NEXT_NEXT (k + 1)

/-! ### Life-cycle state -/

/-- A write of LCS_ADV (R515). -/
def lcsRequest (v : Word) (d : Dev) : Dev :=
  let target := v.toNat % 4
  let d := (d.put LCS_ADV_CONFIRM (v.toNat / 65536)).put LCS_ADV_TARGET target
  let answer (r : Nat) : Dev := d.put LCS_STATE_RESULT r
  if v.toNat / 65536 ≠ 0x4C43 then answer 6
  else if d.mode' ≠ 0xB then answer 5
  else if d.flag LCS_STATE_PEND || d.mgmt.blowing.isSome || d.logFull then answer 2
  else if !((target == 2 && d.lcs == 1) || (target == 3 && d.lcs != 3)) then answer 3
  else if target = 2 ∧ !(d.flag WMK_STATUS_LOADED && d.mgmt.lcsMask.testBit 2) then answer 4
  else
    let d := stage 8 [BitVec.ofNat 8 d.lcs, BitVec.ofNat 8 target] (answer 1)
    (d.onMgmt fun m => { m with blowing := some target }).put LCS_STATE_TARGET target

end Dev

open Dev

/-- A stop by a double-bit error, with its word address and syndrome, or by an exception of the firmware. -/
def execMgmtEngineStop (ecc : Bool) (addr : BitVec 24) (syndrome : BitVec 7) (s : State) := s.next fun d =>
  if !ecc then engineStopOpen d
  else
    let d := engineStop syndrome.toNat d
    if d.brch.on then d.put (BRCH_DET_ADDR 47) addr.toNat else d

def execMgmtSupervisorTimeout (s : State) := s.next engineStopOpen

def execMgmtEngineRestart (s : State) := s.next fun d =>
  if d.mgmt.stopped then (d.onMgmt fun m => { m with stopped := false }).breachCond 47 false 0 else d

def execPasswordCheck (path : Path) (len : BitVec 7) (s : State) := s.next (passwordCheck path len.toNat)

def execPasswordResult (s : State) := s.next passwordResult

def execLockoutEnd (s : State) := s.next fun d => (d.onMgmt fun m => { m with lock := 0 }).showMgmt

def execImageWriteBegin (path : Path) (s : State) := s.next (writeAct path 0xE0090 1 writeBegin)

def execImageEraseDone (s : State) := s.next eraseDone

def execImageWriteData (path : Path) (v : Word) (s : State) := s.next (writeAct path 0xE0098 v.toNat (writeData v))

def execPageProgramDone (s : State) := s.next pageDone

def execImageCommit (path : Path) (s : State) := s.next (writeAct path 0xE0090 2 writeCommit)

def execImageCommitDone (s : State) := s.next commitDone

def execImageWriteAbort (path : Path) (s : State) := s.next (writeAct path 0xE0090 4 abortWrite)

/-- A flash operation fails (R503): one of the change log (R526), or one of the image write (R522). -/
def execFlashTimeout (ofLog : Bool) (s : State) := s.next fun d =>
  if ofLog then (if d.mgmt.staged = [] then d else d.set WMK_LOG_STAT_FAIL)
  else if [1, 2, 3, 4].contains (d.get WMK_WR_STAT_STATE) then
    (((d.put WMK_WR_CTRL_RESULT 6).clr WMK_WR_STAT_STATE).clr WMK_WR_STAT_SPACE).onMgmt fun m => { m with write := {} }
  else d

/-- A staged entry is written; while FAIL stands, only a retry writes it. -/
def execLogEntryWrite (s : State) := s.next fun d =>
  if d.mgmt.stopped || d.flag WMK_LOG_STAT_FAIL then d else writeLog d

def execLogRetry (s : State) := s.next fun d =>
  if d.mgmt.stopped || !d.flag WMK_LOG_STAT_FAIL then d else writeLog (d.clr WMK_LOG_STAT_FAIL)

def execLcsAdvance (path : Path) (v : Word) (s : State) := s.next (keyedWrite path 0xE0104 v.toNat (lcsRequest v))

/-- The fuse blow that an accepted advance started completes. -/
def execLcsFuseBlown (s : State) := s.next fun d =>
  match d.mgmt.blowing with
  | some t => (d.onMgmt fun m => { m with blowing := none, fuse := t }).set LCS_STATE_PEND
  | none => d

end Sys2Proof.Machine
end

