-- ==== Sys2Proof/Machine/Proof.lean ====
section
/-! DEFINITION. Sheets leave their lanes and switching events are proved (chapter 5): launch (R148, R152), echo groups
(R162 to R167), and the routes of the proof records (R168, R174, R175). -/

namespace Sys2Proof.Machine

open Reg

namespace Dev

/-! ### Launch -/

/-- A latency against the reference instant of a sheet's ream, in ns with 4 ns resolution (R32).  DESIGN CHOICE (log 40):
it is rounded down. -/
def latency (t ref : Nat) : Nat := (t / 4 - ref) / 4 * 4

/-- GLB_ALAT records the largest latencies of sheets that a ream carried (R32). -/
def noteLatency (s : Sheet) (t0 t1 : Nat) (d : Dev) : Dev :=
  match s.ref with
  | some r => if s.rep then d else (d.peak GLB_ALAT_FIRST_MAX (latency t0 r)).peak GLB_ALAT_LAST_MAX (latency t1 r)
  | none => d

/-- SSEQ of the next sheet of a context: 0 after its binding (R129). -/
def nextSseq (d : Dev) (c L : Nat) : Nat :=
  if (d.cell c).last = none then 0 else (d.get (LANE_SEQ_SSEQ L) + 1) % 256

/-- A sheet leaves its lane: by itself, or after the first `within` symbols of the frame sent before it, which it suspends
(R27, R122). -/
def sendSheet (L within : Nat) (bytes : List Byte) (d : Dev) : Dev :=
  d.send (if 0 < within ∧ within < (d.lane L).tx then .inside L within bytes else .lane L bytes)

/-- The oldest sheet of the context leaves its lane, its first symbol at `t0` and its K29.7 ending at `t1`, in 250 ps. -/
def launch (c L t0 t1 within : Nat) (d : Dev) : Dev :=
  match (d.cell c).buf with
  | [] => d
  | s :: rest =>
    let s := { s with ssq := d.nextSseq c L, gang := d.gangFlag c }
    let d := (d.put (LANE_SEQ_SSEQ L) s.ssq).onCell c fun x =>
      { x with buf := rest, last := some s, onWire := s.bytes,
               sentMap := ((s.ssq, s.mapv % 2) :: x.sentMap.filter fun e => e.1 ≠ s.ssq) }
    ((schedule c L s t1 d).noteLatency s t0 t1).sendSheet L within (nymFrame 1 s.bytes)

/-! ### Echo groups -/

/-- An echo group's fields (R119): SSEQ[3:0], aspect, ENTRY, KIND, LAG. -/
structure Echo where
  ssq4 : Nat
  asp  : Nat
  idx  : Nat
  kind : Nat
  lag  : Nat

def Echo.ofBytes (bs : List Byte) : Echo :=
  let a := byteAt bs 0
  let b := byteAt bs 1
  ⟨a / 16, a % 16, b / 64, b / 16 % 4, b % 16⟩

/-- Δ of R162 for a window, in 2^-16 ps. -/
def echoDelta (d : Dev) (L t : Nat) (e : Echo) (w : Window) : Int :=
  tdcU t - d.dinU L - nsU (32 * e.lag) - w.e

/-- The opening of a window for echoes (R163). -/
def opening (d : Dev) (L : Nat) (w : Window) : Int := w.e + d.dinU L - nsU 8

/-- The polder cycle of 4 ns in which the tideline first reaches an instant. -/
def polderCycle (u : Int) : Int := (u + nsU 4 - 1) / nsU 4

/-- The cycle in which a window closes (R163). -/
def closing (d : Dev) (L : Nat) (w : Window) : Int := polderCycle (w.e + d.dinU L + w.len + nsU 48)

/-- The windows that close before a polder cycle close without their echo (R163, R164). -/
def closeWins (c L : Nat) (cycle : Int) (d : Dev) : Dev :=
  each ((d.cell c).wins.filter fun w => decide (d.closing L w < cycle))
    (fun w d => decideWin c w Oc.silent 5 0xF noDelta d) d

/-- A matching echo decides its window (R164). -/
def echoDecides (c L t : Nat) (e : Echo) (w : Window) (d : Dev) : Dev :=
  let delta := d.echoDelta L t e w
  let (o, cause) :=
    if tdcU t < d.opening L w then (Oc.contra, 2)
    else if e.asp ≠ w.asp then (Oc.contra, 1)
    else if delta ≤ w.tsw then (Oc.proven, 0)
    else (Oc.late, 0)
  decideWin c w o cause e.asp (deltaField delta) d

/-- The echo names an entry of one of the last 16 sheets that opened a window.  R166 speaks of such an entry "whose window
has already been decided or closed": DEDUCED (log 38), only an entry that itself opened a window is named. -/
def pastEntry (d : Dev) (c : Nat) (e : Echo) : Bool :=
  (d.cell c).winLog.any fun x => x.2.1 % 16 == e.ssq4 && x.2.2.contains e.idx

/-- An echo of a commanded event (R164, R166).  A window opens when its entry takes effect, at E (R160): DEDUCED (log 38),
an echo visible before E meets no window, and is UNCOMMANDED. -/
def echoCommanded (c L t : Nat) (e : Echo) (d : Dev) : Dev :=
  match (d.cell c).wins.find? fun w => w.ssq % 16 == e.ssq4 && w.idx == e.idx with
  | some w => echoDecides c L t e w d
  | none =>
    if d.pastEntry c e then d.inc (CTX_PAUX_STRAY c)
    else d.onCell c fun x =>
      { x with recs := x.recs ++ [⟨c, Oc.contra, e.idx, 0xE, e.asp, 3, e.ssq4, d.tide.n, noDelta, d.proofCfg c⟩] }

/-- An echo of a cell's own action (R167): a substituted BYPASS proves the window of a commanded BLOCK. -/
def echoOwn (c L t : Nat) (e : Echo) (d : Dev) : Dev :=
  let d := (d.inc (CTX_PAUX_CELLACT c)).event c
  if e.kind = 2 ∧ e.asp = Asp.bypass then
    match (d.cell c).wins.find? fun w => w.safe && w.asp == Asp.block && decide (d.opening L w ≤ tdcU t) with
    | some w => decideWin c w Oc.proven 4 e.asp (deltaField (d.echoDelta L t e w)) d
    | none => d
  else d

/-- An echo group whose first bit came at `t`, visible 48 ns later (R163); it wins against a window that closes in the
cycle in which it becomes visible (R165). -/
def echo (L t : Nat) (e : Echo) (d : Dev) : Dev :=
  match d.ctxOfLane L with
  | some c =>
    let d := closeWins c L (polderCycle (tdcU (t + 192))) (advanceCell (tdcU (t + 192)) c d)
    if e.kind = 3 then d
    else
      let d := d.put (CTX_ASPECT_FB c) e.asp
      if e.kind = 0 then echoCommanded c L t e d else echoOwn c L t e d
  | none =>
    match d.ownerOfLane L with
    | some c => (d.put (CTX_ASPECT_FB c) e.asp).inc (CTX_PAUX_STRAY c)
    | none => d

/-! ### Routes of a record (R174) -/

/-- The proof race takes a record, or drops it (R174, R284, R296). -/
def routeRace (r : Rec) (d : Dev) : Dev :=
  if !d.flag CTX_PROOF_ROUTE_REN || (d.flag CTX_PROOF_ROUTE_FAILONLY && r.outcome == Oc.proven) then d else
  let q := d.get CTX_PROOF_ROUTE_RACE
  if d.raceKind q ≠ Kind.proof ∨ !d.raceOn q ∨ !d.raceAllowed q then d.inc CTX_PROOF_ROUTE_DROPS
  else if d.flag (RACE_STAT_STOPPED q) then d.inc (RACE_STAT_DROPS q)
  else
    let (ok, d) := appendRec q r.bytes d
    if ok then d else d.inc CTX_PROOF_ROUTE_DROPS

/-- The proof mailbox takes a record; the oldest gives way (R340). -/
def routeMailbox (c : Nat) (r : Rec) (d : Dev) : Dev :=
  let full := decide (16 ≤ (d.cell c).mbx.length)
  let d := if full then d.inc (CTX_MBX_PDROP c) else d
  let d := d.onCell c fun x => { x with mbx := (if full then x.mbx.drop 1 else x.mbx) ++ [r] }
  d.put (CTX_MBX_PCOUNT c) (d.cell c).mbx.length

/-- The sluice port takes a record in the modes of R174, unless its queue is full (R29); records not PROVEN are counted for the SNAPSHOT (R240). -/
def routeSluice (c : Nat) (r : Rec) (ovf : Bool) (d : Dev) : Dev :=
  if !([3, 4, 5, 6, 7, 8].contains d.effMode) then d else
  if ovf then overflowed c d else
  let d := d.sluQueue (.proof r.bytes)
  if r.outcome = Oc.proven then d
  else each d.sluTargets (fun k d => d.onSluLane k fun x => { x with pfail := x.pfail + 1 }) d

/-- A run of `k` consecutive deckles, one of them `m`, stands in a list. -/
def hasRun (ms : List Nat) (m k : Nat) : Bool :=
  (List.range k).any fun i => decide (i ≤ m) && (List.range k).all fun j => ms.contains (m - i + j)

/-- Consecutive target deckles with a CONTRADICTED or SILENT outcome of a bound context (R175, R201); FAILLIM is at most
15, so the deckles within 15 of the latest suffice. -/
def countFailing (c : Nat) (r : Rec) (d : Dev) : Dev :=
  if !r.cfg.sumen || !d.isBound c || (d.cell c).fails.contains r.deckle then d else
  let ms := r.deckle :: (d.cell c).fails
  let top := ms.foldl max 0
  d.onCell c fun x =>
    { x with fails := ms.filter fun m => decide (top < m + 15), failDue := x.failDue || hasRun ms r.deckle r.cfg.limit }

/-- Counters, CTX_PLAST and the map of failures (R178, R179, R181). -/
def countRecord (c : Nat) (r : Rec) (d : Dev) : Dev :=
  let d := match r.outcome with
    | 0 => d.inc (CTX_PROVEN c)
    | 1 => d.inc (CTX_PFAIL_CONTRA c)
    | 2 => d.inc (CTX_PFAIL_SILENT c)
    | _ => d.inc (CTX_PFAIL_LATE c)
  if r.outcome = Oc.proven then d
  else ((d.put (CTX_PLAST0 c) (nat (r.bytes.take 4))).put (CTX_PLAST1 c) (nat (r.bytes.drop 4))).set (CTX_PFAIL_MAP c)

/-- A record is released to every route (R174); the dike image shows a failed context at its next input phase (R363). -/
def release (c : Nat) (r : Rec) (ovf : Bool) (d : Dev) : Dev :=
  let d := ((d.countRecord c r).routeSluice c r ovf).routeMailbox c r
  let d := routeRace r d
  let d := if r.cfg.even.testBit r.outcome then d.event c else d
  if r.outcome = Oc.contra ∨ r.outcome = Oc.silent then
    (countFailing c r d).onDike fun k => { k with failed := Table.put false k.failed c true }
  else d

end Dev

open Dev

/-- A dispatched sheet is sent on its lane (R148, R152, R160); `t0` and `t1` are the instants of its first symbol and of
the end of its K29.7, `within` the symbols sent of the frame that it suspends. -/
def execSheetLaunch (L : Fin 144) (t0 t1 : BitVec 64) (within : BitVec 10) (s : State) := s.next fun d =>
  match d.ctxOfLane L.val with
  | some c => if d.lanesLit then launch c L.val t0.toNat t1.toNat within.toNat d else d
  | none => d

/-- An echo group of three bytes with its timestamp (R119, R120, R164), after the symbols since the lane's previous
command; an open frame then waits for K28.0 (R123).  `bads` of its code groups are invalid.  DEDUCED (log 99): LANE_ERR.CODE
counts each of these, and the group that is rejected for them once more.  `ovf` tells that it meets a full class A buffer
(R29). -/
def execEchoGroup (L : Fin 144) (t : BitVec 64) (syms : List Sym) (bads : Fin 4) (a b crc : Byte) (ovf : Bool) (s : State) :=
  s.next fun d =>
    if !d.flag (LANE_LINK_SYNC L.val) then d else
    let d := (laneSyms L.val syms d).onLane L.val fun x => { x with rx := x.rx.group }
    if bads.val ≠ 0 ∨ crc8 [a, b] ≠ crc.toNat then d.add (LANE_ERR_CODE L.val) (bads.val + 1)
    else match ovf, d.ctxOfLane L.val with
      | true, some c => overflowed c d
      | _, _ => echo L.val t.toNat (Echo.ofBytes [a, b]) d

/-- The polder's tideline reaches `t`, in 250 ps: the window of an entry closes without its echo when that is in or after
its closing cycle (R163, R164). -/
def execProofWindowClose (c : Fin 128) (ssq : Byte) (idx : Fin 4) (t : BitVec 64) (s : State) := s.next fun d =>
  match d.laneOf c.val, (d.cell c.val).wins.find? fun w => w.ssq == ssq.toNat && w.idx == idx.val with
  | some L, some w =>
    if d.closing L w ≤ polderCycle (tdcU t.toNat) then decideWin c.val w Oc.silent 5 0xF noDelta d else d
  | _, _ => d

/-- The oldest decided outcome of a context is released (R168, R174); `ovf` tells that the queue toward the sluice port is
full (R29). -/
def execProofRecordRelease (c : Fin 128) (ovf : Bool) (s : State) := s.next fun d =>
  match (d.cell c.val).recs with
  | r :: rest => release c.val r ovf (d.onCell c.val fun x => { x with recs := rest })
  | [] => d

/-- FAILLIM target deckles in succession have failed (R175). -/
def execProofSummaryBreach (c : Fin 128) (s : State) := s.next fun d =>
  if (d.cell c.val).failDue then (d.onCell c.val fun x => { x with failDue := false }).breach 50 0 else d

end Sys2Proof.Machine
end

