-- ==== Sys2Proof/Machine/Sluice.lean ====
section
/-! DEFINITION. The sluice port and the couch (chapters 7 and 8): received frames and reams, cut-offs, transmission, CTRL
requests, couch requests and the couch timeout. -/

namespace Sys2Proof.Machine

open Reg

namespace Dev

/-! ### Received frames -/

/-- A sluice lane is enabled and its receiver is in sync (R220). -/
def sluUp (d : Dev) (k : Nat) : Bool := d.get (SLU_LINK_STATE k) == 2

/-- A frame is counted; a CRC failure counts toward source 25 + k (R221). -/
def noteFrame (k : Nat) (crcOk : Bool) (d : Dev) : Dev :=
  let d := d.onSluLane k fun x =>
    let rx := x.rx + 1
    let at' := x.crcAt.filter fun i => decide (rx < i + 1024)
    { x with rx := rx, crcAt := if crcOk then at' else rx :: at' }
  if !crcOk && decide (4 ≤ (d.sluLane k).crcAt.length) then d.breach (25 + k) 1 else d

/-- The cause of a discard, on its lane and for its source (R229, R240). -/
def noteCause (k cause : Nat) (d : Dev) : Dev :=
  (d.put (SLU_LINK_LCAUSE k) cause).onSource (d.laneSource k) fun x => { x with cause := cause }

/-- A frame is discarded under R227. -/
def dropFrame (k : Nat) (crcOk : Bool) (d : Dev) : Dev := ((d.inc (SLU_LINK_CRC k)).noteCause k 1).noteFrame k crcOk

/-- The CRC-32 of a received frame passes (R225). -/
def sluCrcOk (bs : List Byte) : Bool :=
  decide (10 ≤ bs.length) && crc32 (bs.take (bs.length - 4)) == nat (bs.drop (bs.length - 4))

/-! ### Reams (R228 to R235) -/

/-- The fields of a REAM payload. -/
structure ReamFrame where
  m       : Nat
  mapv    : Nat
  partly  : Bool
  resume  : Bool
  present : Nat
  nsh     : Nat
  sheets  : List Byte

def ReamFrame.ofBytes (m : Nat) (pl : List Byte) : ReamFrame :=
  { m := m, mapv := byteAt pl 4, partly := (byteAt pl 5).testBit 0, resume := (byteAt pl 5).testBit 1,
    present := numAt pl 8 16, nsh := numAt pl 6 2, sheets := pl.drop 24 }

def bitCount (v : Nat) : Nat := ((List.range 128).filter fun c => v.testBit c).length

/-- Members of CUR, or of PEND, as a bit set. -/
def membersOf (d : Dev) (pend : Bool) : Nat :=
  allCtx.foldl (fun v c => if d.flag (if pend then CTX_MEMBER_PEND c else CTX_MEMBER c) then v + 2 ^ c else v) 0

/-- The FORM check. -/
def reamForm (d : Dev) (r : ReamFrame) (pl : List Byte) : Bool :=
  pl.length == 24 + 16 * r.nsh && r.nsh == bitCount r.present && byteAt pl 5 < 4 && !(r.partly && d.runModel == 4)

/-- The ream carries the pending version. -/
def carriesPend (d : Dev) (r : ReamFrame) : Bool :=
  r.mapv != d.get CTX_MAPVER_CUR && d.flag CTX_MAPVER_PVALID && r.mapv == d.get CTX_MAPVER_PEND

/-- The MAP check; from the target deckle on that commits PEND, a ream of the previous version fails it (R196). -/
def reamMap (d : Dev) (r : ReamFrame) : Bool :=
  let past := match d.survey.commitAt with
    | some t => decide (t ≤ r.m)
    | none => false
  ((r.mapv == d.get CTX_MAPVER_CUR && !past) || d.carriesPend r) &&
    let ms := d.membersOf (d.carriesPend r)
    r.present &&& ms == r.present && (r.partly || r.present == ms)

/-- A ream is discarded with a cause (R229). -/
def dropReam (k cause : Nat) (d : Dev) : Dev :=
  let d := d.noteCause k cause
  match cause with
  | 3 => d.inc (SLU_RERR_SEQ k)
  | 4 => d.inc (SLU_RERR_MAP k)
  | 6 => (d.inc (SLU_RERR_LATE k)).event 186
  | _ => d.inc (SLU_RERR_OTHER k)

/-- Lanes whose registers show a source: both lanes of a split port (R256, R257). -/
def shownOn (d : Dev) (k : Nat) : List Nat := if d.sluSplit then [0, 1] else [k]

/-- Freeboard of a ream of target m that came at T_a (R235), in ns. -/
def freeboard (d : Dev) (m ta : Nat) : Int := (d.cutoff m - (ns ta : Nat)) / 65536

/-- Index of a context's sheet in a ream: the number of PRESENT contexts below it. -/
def sheetIndex (present c : Nat) : Nat := bitCount (present % 2 ^ c)

/-- One sheet of an accepted ream (R200, R233): supplied for a BOUND context in a run mode, unless the context holds one
of the source for the target, or a class A buffer would overflow (R29). -/
def takeSheet (k src ta : Nat) (r : ReamFrame) (ovf : List Nat) (c : Nat) (d : Dev) : Dev :=
  if !r.present.testBit c || !d.boundFor c r.m then d
  else if (d.source src).accepted.any fun e => e.1 == r.m && e.2.1.testBit c then d.inc (SLU_RERR_OTHER k)
  else if ovf.contains c then d.inc (CTX_PAUX_OVFL c)
  else if !d.applies then d
  else
    let sheet := Sheet.ofBytes r.m ((r.sheets.drop (16 * sheetIndex r.present c)).take 16)
    let d := d.onCell c fun x => { x with supply := x.supply ++ [⟨src, sheet, r.resume, r.mapv⟩] }
    if r.m = d.tide.cut + 1 then offer r.m c ta d else d

/-- An accepted ream: it commits its version (R196), its sheets are supplied, its freeboard recorded. -/
def acceptReam (k src rsq ta : Nat) (r : ReamFrame) (ovf : List Nat) (d : Dev) : Dev :=
  let f := d.freeboard r.m ta
  let d := each (d.shownOn k) (fun j d =>
    let d := d.put (SLU_RSQ_TGT j) r.m
    if f < sgn 16 (d.get (SLU_FB_MIN j)) then d.put (SLU_FB_MIN j) (unsgn 16 (max (-32768) f)) else d) d
  let d := if d.carriesPend r then commitFrom r.m d else d
  let d := each allCtx (takeSheet k src ta r ovf) d
  let d := d.onSource src fun s =>
    { s with accepted := s.accepted ++ [(r.m, r.present, !r.partly)], rsq := rsq, fb := f }
  let d := if ovf ≠ [] then d.breach 53 0 else d
  if d.get SLU_TIMING_FBWARN ≠ 0 ∧ f < (d.get SLU_TIMING_FBWARN : Nat) then d.event 186 else d

/-- A REAM frame that passed R227 (R229): the first check that fails discards it. -/
def takeReam (k seq ta : Nat) (pl : List Byte) (ovf : List Nat) (d : Dev) : Dev :=
  let src := d.laneSource k
  let r := ReamFrame.ofBytes (d.fullDeckle (numAt pl 0 4)) pl
  if !d.reamForm r pl then dropReam k 2 d else
  let gap := (seq + 65536 - d.get (SLU_RSQ_RSQ k)) % 65536
  let first := (d.sluLane k).firstRx
  if !first && (gap == 0 || decide (32768 ≤ gap)) then dropReam k 3 d else
  let d := if first then d else d.add (SLU_RERR_SEQ k) (gap - 1)
  let d := each (d.shownOn k) (fun j d => d.put (SLU_RSQ_RSQ j) seq) (d.onSluLane k fun x => { x with firstRx := false })
  if !d.reamMap r then dropReam k 4 d else
  let early := !d.running || decide (ns ta < d.bAt 0 ∧ d.tide.n = 0) || (decide (2 ≤ r.m) && decide ((ns ta : Nat) ≤ d.cutoff (r.m - 2)))
  let f := d.freeboard r.m ta
  let d := each (d.shownOn k) (fun j d => d.put (SLU_FB_LAST j) (unsgn 16 (max (-32767) (min 32767 f)))) d
  if early then dropReam k 5 d
  else if r.m ≤ d.tide.cut ∨ f < 0 then dropReam k 6 d
  else if d.runModel == 4 && (d.source src).accepted.any (fun e => e.1 == r.m) then dropReam k 7 d
  else acceptReam k src seq ta r ovf d

/-! ### Transmission (R222, R244, R245) -/

/-- The kind of a waiting item: 2 SNAPSHOT, 3 PIECE, 4 PROOF, 5 CTRL (R224). -/
def itemKind : SluItem → Nat
  | .snapshot _ => 2
  | .piece _ => 3
  | .proof _ => 4
  | .ctrl _ _ => 5
  | .ping _ _ => 5

/-- Items of a kind that one frame holds. -/
def frameHolds (kind : Nat) : Nat := if kind = 3 then 8 else if kind = 4 then 16 else 1

def itemBytes (now : Nat) : SluItem → List Byte
  | .snapshot b => b
  | .piece b => b
  | .proof b => b
  | .ctrl _ b => b
  | .ping tag t => [0x84, BitVec.ofNat 8 tag, 1, 0] ++ le 8 t ++ le 8 now

/-- The payload of a frame of a kind. -/
def framePayload (kind now : Nat) (items : List SluItem) : List Byte :=
  let body := (items.map (itemBytes now)).flatten
  if kind = 3 ∨ kind = 4 then [BitVec.ofNat 8 items.length, 0] ++ body else body

/-- The first `n` items of a kind are taken out of a queue. -/
def takeItems (kind : Nat) : Nat → List SluItem → List SluItem × List SluItem
  | _, [] => ([], [])
  | n, x :: xs =>
    match n with
    | 0 => ([], x :: xs)
    | n + 1 =>
      if itemKind x = kind then let (a, b) := takeItems kind n xs; (x :: a, b)
      else let (a, b) := takeItems kind (n + 1) xs; (a, x :: b)

/-- A free transmitter of lane k sends one frame: of the oldest waiting class A kind, else of the lane's oldest CTRL
response. -/
def sluTransmit (k now : Nat) (d : Dev) : Dev :=
  let qa := if d.sluSplit then 0 else k
  match (d.sluLane qa).queue.find? fun x => itemKind x != 5 with
  | some x =>
    let kind := itemKind x
    let (items, rest) := takeItems kind (frameHolds kind) (d.sluLane qa).queue
    let d := d.onSluLane qa fun y => { y with queue := rest }
    let seq := (d.sluLane k).seq
    (d.onSluLane k fun y => { y with seq := (seq + 1) % 65536 }).send
      (.sluice k (sluFrame kind k seq (framePayload kind now items)))
  | none =>
    let (items, rest) := takeItems 5 1 (d.sluLane k).queue
    match items with
    | [] => d
    | x :: _ =>
      let ends := match x with
        | .ctrl e _ => e
        | _ => true
      (d.onSluLane k fun y => { y with queue := rest, busy := y.busy && !ends }).send
        (.sluice k (sluFrame 5 k 0 (framePayload 5 now items)))

/-! ### CTRL requests (R248, R249) -/

/-- A CTRL response waits on its lane. -/
def answer (k op tag result : Nat) (data : List Byte) (d : Dev) : Dev :=
  d.onSluLane k fun x =>
    { x with queue := x.queue ++ [.ctrl true ([BitVec.ofNat 8 (op ||| 128), BitVec.ofNat 8 tag, BitVec.ofNat 8 result, 0] ++ data)] }

/-- A request whose OP or arguments are not known is answered with OP 0xFF and RESULT 0xFF. -/
def answerUnknown (k tag : Nat) (d : Dev) : Dev := answer k 127 tag 0xFF [] d

/-- A CTRL request that arrives on a lane: counted as a frame, answered BUSY while the lane's previous request waits, and
else decided. -/
def ctrl (k op tag : Nat) (f : Dev → Dev) (d : Dev) : Dev :=
  if !d.sluUp k then d else
  let d := d.noteFrame k true
  if (d.sluLane k).busy then
    d.onSluLane k fun x =>
      { x with queue := x.queue ++ [.ctrl false [BitVec.ofNat 8 (op ||| 128), BitVec.ofNat 8 tag, 2, 0]] }
  else f (d.onSluLane k fun x => { x with busy := true })

/-- A register's stored fields as a word, read without clearing (R248). -/
def storedWord (d : Dev) (off : Nat) : Nat := (fieldsAt off).foldl (fun v x => v + d.get x.fld * 2 ^ x.fld.lsb) 0

/-! ### Couch requests (R260 to R262, R267 to R270) -/

/-- The source exists (R258). -/
def srcExists (d : Dev) (src : Nat) : Bool :=
  match src with
  | 0 => d.flag SLU_CFG_EN0
  | 1 => d.get SLU_CFG_ROLE1 == 1
  | 2 => d.members.any fun c => d.flag (CTX_PROG_SLACK c)
  | _ => false

/-- The decision on a couch request by the rows of R261. -/
def decideCouch (d : Dev) (engine : Bool) (src : Nat) : Nat :=
  let m := d.get GLB_MODE_MODE
  if engine && !d.flag COUCH_CFG_ENG_EN then 7
  else if d.get GLB_MODE_PENDING ≠ 0xF ∨ m = 6 then 2
  else if m ≠ 4 ∧ m ≠ 5 then 5
  else if 2 ≤ d.get BRCH_STATUS_LEVEL then 4
  else if !d.srcExists src ∨ src = d.get SLU_SRC_ACTIVE then 6
  else if src < 2 ∧ !(d.srcUp src && d.validOf src 8) then 3
  else if src = 2 ∧ !d.validOf 2 8 then 3
  else 1

/-- A couch request: policy 1 FORCE, 2 ABORT, else the default at the start of the couch (R276); `same` tells that it
becomes visible in the hub cycle of the request or imposed mode before it, and COUCH has rank 1 (R45, R262). -/
def requestCouch (engine : Bool) (src pol : Nat) (same : Bool) (d : Dev) : Nat × Dev :=
  if d.outranked same 6 then (2, d) else
  let r := d.decideCouch engine src
  let d := noteCycle same 6 d
  if r = 1 then
    (r, accept 6 (if engine then 2 else 1) false false (d.onCouch fun x => { x with wait := some (src, pol) }))
  else (r, d)

/-- The device-built sheet of R268. -/
def forceSheet (d : Dev) (c m : Nat) : Sheet :=
  let cmd := d.get (CTX_ASPECT_CMD c)
  let asp := if cmd = Asp.pos ∨ cmd = Asp.zeroHi then Asp.zeroHi
    else if cmd = Asp.neg ∨ cmd = Asp.zeroLo then Asp.zeroLo else Asp.keep
  let gap := d.get (CTX_ASPECT_MINGAP c) * 32 * 16384
  let inst := match (d.cell c).prevEv with
    | some p => (p + gap - d.bAt m + 16383) / 16384
    | none => 0
  { Sheet.show asp m false with
    entries := [⟨asp, if asp = Asp.keep then 0 else inst⟩, Entry.keep, Entry.keep, Entry.keep]
    mapv := d.mapvFor m }

/-- The held sheets for the target deckle after the latest cut-off are dispatched, which the timeout kept (R231,
R267). -/
def offerHeld (d : Dev) : Dev := each allCtx (fun c d => offer (d.tide.cut + 1) c (d.now / 65536) d) d

/-- The couch timeout (R267 to R269). -/
def couchTimeout (d : Dev) : Dev :=
  let t := d.couch.m1 + d.couch.timeout
  if !d.flag COUCH_STATUS_ACTIVE || d.get COUCH_PROG_REMAIN == 0 || decide (d.tide.cut + 1 < t) || d.couch.ending.isSome then d
  else if d.get COUCH_STATUS_POLICY = 0 then
    let left := allCtx.filter fun c => d.ctxState c == St.bound && !(d.cell c).safeHold && !d.flag (COUCH_MAP c)
    let d := each left (fun c d => if d.done c t then d else dispatch c (d.forceSheet c t) d) d
    (d.onCouch fun x => { x with ending := some (t + 1, 2) }).offerHeld
  else ((couchEnd 3 false d).breach 48 3).offerHeld

/-- The first target deckle from `m` on whose cut-off lies at least 1 µs ahead (R270). -/
def firstAhead (d : Dev) : Nat → Nat → Nat
  | 0, m => m
  | k + 1, m => if ((d.now + ns 1000 : Nat) : Int) ≤ d.cutoff m then m else d.firstAhead k (m + 1)

/-- A cancel (R270); an end by FORCE that comes before its first target deckle stands (R268). -/
def couchCancel (d : Dev) : Dev :=
  let a := d.firstAhead 4 d.nextCut
  let sooner := match d.couch.ending with
    | some (b, _) => decide (b < a)
    | none => false
  if d.flag COUCH_STATUS_ACTIVE && !sooner then d.onCouch fun x => { x with ending := some (a, 7) } else d

end Dev

open Dev

/-- A sluice receiver reaches sync (R220). -/
def execSluiceSyncAcquire (k : Fin 2) (s : State) := s.next fun d =>
  if d.get (SLU_LINK_STATE k.val) = 1 then
    (setSluState k.val 2 (d.onSluLane k.val fun x => { x with firstRx := true })).refreshSluice
  else d

/-- A sluice lane leaves sync (R221), with the invalid code groups counted since its previous command. -/
def execSluiceSyncLoss (k : Fin 2) (codes : Byte) (openFrame : Bool) (s : State) := s.next fun d =>
  if d.sluUp k.val then
    let d := d.add (SLU_LINK_CODE k.val) codes.toNat
    let d := if openFrame then (d.inc (SLU_LINK_CRC k.val)).noteCause k.val 1 else d
    (setSluState k.val 1 d).refreshSluice
  else d

/-- A REAM frame whose K29.7 ends at `ta` ns (R227 to R235); `over` names the contexts whose sheet meets a full class A
buffer (R29). -/
def execReamFrame (k : Fin 2) (ta : BitVec 64) (fr : FrameEnd) (bs : List Byte) (ovf : List (Fin 128)) (s : State) :=
  s.next fun d =>
    if !d.sluUp k.val then d else
    match fr with
    | .framing => d.inc (SLU_LINK_FRAMING k.val)
    | .cut => dropFrame k.val true d
    | .whole =>
      match sluParse bs with
      | some (1, seq, pl) => takeReam k.val seq ta.toNat pl (ovf.map (·.val)) (d.noteFrame k.val true)
      | some _ => d
      | none => dropFrame k.val (sluCrcOk bs) d

/-- The newest sheet of a context meets a full polder buffer (R29). -/
def Dev.dropSheet (c : Nat) (d : Dev) : Dev :=
  if (d.cell c).buf = [] then d else overflowed c (d.onCell c fun x => { x with buf := x.buf.dropLast })

/-- The cut-off C(n + 1) (R231, R237); `ovf` names the contexts whose sheet meets a full polder buffer (R29). -/
def execReamCutoff (ovf : List (Fin 128)) (s : State) := s.next fun d =>
  if d.running && decide (d.tide.cut < d.tide.n + 1) then
    each ovf (fun c d => dropSheet c.val d) (cutOff (d.tide.n + 1) d)
  else d

/-- HC(c) has reached the limit at the cut-off of the next target deckle, and no sheet has come for it (R238). -/
def execSafeholdEntry (c : Fin 128) (s : State) := s.next fun d =>
  let m := d.nextCut
  if d.applies && d.ctxState c.val == St.bound && !(d.cell c.val).safeHold && !d.done c.val m &&
      decide (d.get SLU_HOLD_LIMIT ≤ (d.cell c.val).hc) && d.supplyFor c.val (d.srcFor c.val m) m == none &&
      !d.demanded c.val then
    (enterHold c.val m d).breach 49 0
  else d

/-- A sluice transmitter is free; its frame's K27.7 leaves at `now` ns (R245).  In LOAD, RAISE and TEST it sends only
K28.5 (R241). -/
def execSluiceTransmit (k : Fin 2) (now : BitVec 64) (s : State) := s.next fun d =>
  if d.sluEnabled k.val && !([0, 1, 0xA].contains (d.get GLB_MODE_MODE)) then sluTransmit k.val now.toNat d else d

/-- CTRL MODE (R44, R45, R248): its argument is byte 4. -/
def execCtrlMode (k : Fin 2) (tag : Byte) (args : List Byte) (same : Bool) (s : State) := s.next (ctrl k.val 1 tag.toNat fun d =>
  if args.length ≠ 1 then answerUnknown k.val tag.toNat d else
  let a := byteAt args 0
  let (r, d) := request 2 (a % 16) (a.testBit 4) same d
  answer k.val 1 tag.toNat r [] d)

/-- CTRL TARGET (R64, R65, R248): 48 bits of a target period. -/
def execCtrlTarget (k : Fin 2) (tag : Byte) (args : List Byte) (s : State) := s.next (ctrl k.val 2 tag.toNat fun d =>
  if args.length ≠ 6 then answerUnknown k.val tag.toNat d else
  let t := nat args
  let r := d.decideTarget (d.flag TIDE_NCO_CFG_ENG_TGT) t
  answer k.val 2 tag.toNat r [] (if r = 1 then (takeTarget t d).onTide fun x => { x with engTaken := true } else d))

/-- CTRL COUCH (R248, R260): incoming source and policy. -/
def execCtrlCouch (k : Fin 2) (tag : Byte) (args : List Byte) (same : Bool) (s : State) := s.next (ctrl k.val 3 tag.toNat fun d =>
  if args.length ≠ 2 then answerUnknown k.val tag.toNat d else
  let (r, d) := requestCouch true (byteAt args 0) (byteAt args 1) same d
  answer k.val 3 tag.toNat r [] d)

/-- CTRL PING (R248): `t` is the tideline in ns at the end of the request's K29.7. -/
def execCtrlPing (k : Fin 2) (tag : Byte) (t : BitVec 64) (args : List Byte) (s : State) :=
  s.next (ctrl k.val 4 tag.toNat fun d =>
    if args ≠ [] then answerUnknown k.val tag.toNat d else
    d.onSluLane k.val fun x => { x with queue := x.queue ++ [.ping tag.toNat t.toNat] })

/-- CTRL STATUS (R248): SLU_LINK, SLU_RERR and SLU_FB of the lane. -/
def execCtrlStatus (k : Fin 2) (tag : Byte) (args : List Byte) (s : State) := s.next (ctrl k.val 5 tag.toNat fun d =>
  if args ≠ [] then answerUnknown k.val tag.toNat d else
  answer k.val 5 tag.toNat 1 (le 4 (d.storedWord (0x30010 + 4 * k.val)) ++ le 4 (d.storedWord (0x30018 + 4 * k.val)) ++
    le 4 (d.storedWord (0x30028 + 4 * k.val))) d)

/-- A CTRL request with an unknown OP (R249). -/
def execCtrlUnknown (k : Fin 2) (op tag : Byte) (s : State) :=
  s.next (ctrl k.val op.toNat tag.toNat (answerUnknown k.val tag.toNat))

/-- A write of COUCH_REQ with CANCEL = 0 (R260, R262, R277). -/
def execCouchRequest (src pol : BitVec 2) (same : Bool) (s : State) := s.next fun d =>
  let (r, d) := requestCouch false src.toNat pol.toNat same d
  d.put COUCH_STATUS_RESULT r

/-- COUCH_REQ.CANCEL (R270). -/
def execCouchCancel (s : State) := s.next couchCancel

/-- The couch timeout expires at C(m1 + T − 1), after its test (R267). -/
def execCouchTimeout (s : State) := s.next couchTimeout

end Sys2Proof.Machine
end

