-- ==== Sys2Proof/Machine/Races.lean ====
section
/-! DEFINITION. The commands of the races, the vat and the PCI Express endpoint (chapter 9): descriptors, bulk and MGMT
traffic with the cells, telemetry records, links and errors. -/

namespace Sys2Proof.Machine

open Reg

namespace Dev

/-! ### Bulk traffic of a lane (R117, R132 to R134, R297 to R301) -/

/-- Packets of the device that the cell's CACK does not cover. -/
def inFlight (d : Dev) (L : Nat) : Nat := (d.get (LANE_BULK_PSEQ L) + 256 - (d.lane L).peerCack) % 256

/-- CREDIT shows the credits that the device holds toward the cell. -/
def showCredit (L : Nat) (d : Dev) : Dev := d.put (LANE_BULK_CREDIT L) ((d.lane L).cellC0 - d.inFlight L)

/-- The context whose bulk traffic a lane carries: BOUND, on a lit lane. -/
def bulkCtx (d : Dev) (L : Nat) : Option Nat :=
  match d.ctxOfLane L with
  | some c => if d.ctxState c = St.bound && d.lanesLit then some c else none
  | none => none

/-- A BULK payload from the device (R117, R133). -/
def bulkBytes (d : Dev) (L pseq flags xid : Nat) (data : List Byte) : List Byte :=
  le 2 xid ++ [BitVec.ofNat 8 pseq, BitVec.ofNat 8 flags, BitVec.ofNat 8 (d.lane L).cack,
    BitVec.ofNat 8 (d.get (LANE_BULK_NEXT L)), 0, 0] ++ data

/-- A data packet leaves; CACK and NEXT are reported with it. -/
def sendPacket (L pseq : Nat) (p : Packet) (d : Dev) : Dev :=
  (d.laneSend L (nymFrame 5 (d.bulkBytes L pseq (p.first.toNat + 2 * p.last.toNat) p.xid p.data))).onLane L
    fun x => { x with owed := false }

/-- The next staged packet leaves when the cell has credit for it (R132). -/
def bulkSend (L : Nat) (d : Dev) : Dev :=
  match d.bulkCtx L, (d.lane L).staged with
  | some _, p :: rest =>
    if d.laneFree L && decide (d.inFlight L < (d.lane L).cellC0) then
      let pseq := d.get (LANE_BULK_PSEQ L)
      let d := (d.sendPacket L pseq p).put (LANE_BULK_PSEQ L) ((pseq + 1) % 256)
      (d.onLane L fun x => { x with staged := rest, unacked := x.unacked ++ [p] }).showCredit L
    else d
  | _, _ => d

/-- The packets from the one numbered NEXT on are sent again (R134).  DESIGN CHOICE (log 103): RETX counts one for each such
event, however many packets it sends. -/
def bulkResend (L : Nat) (d : Dev) : Dev :=
  let x := d.lane L
  let skip := (x.peerNext + 256 - x.peerCack) % 256
  let again := x.unacked.drop skip
  if d.bulkCtx L = none ∨ again = [] ∨ !d.laneFree L then d else
  let d := ((List.range again.length).zip again).foldl
    (fun d e => d.sendPacket L ((x.peerNext + e.1) % 256) e.2) d
  d.inc (LANE_BULK_RETX L)

/-- A CREDIT_ONLY frame reports CACK and NEXT (R133).  DESIGN CHOICE (log 103): its XID is 0 and its PSEQ that of the next
new packet. -/
def bulkReport (L : Nat) (d : Dev) : Dev :=
  if d.bulkCtx L = none ∨ !(d.lane L).owed ∨ !d.laneFree L then d else
  (d.laneSend L (nymFrame 5 (d.bulkBytes L (d.get (LANE_BULK_PSEQ L)) 4 0 []))).onLane L
    fun x => { x with owed := false }

/-- `n` more bytes of a request are covered, in descriptor order; a descriptor whose last byte is covered ends (R298). -/
def coverBytes (q : Nat) : Nat → List Desc → Dev → Dev
  | _, [], d => d
  | n, x :: r, d =>
    let k := min n (x.len - x.acked)
    let x := { x with acked := x.acked + k }
    coverBytes q (n - k) r (if x.acked = x.len then endDesc q x Sx.ok x.len d else putDesc q x d)

/-- The cell's CACK covers a packet of context c: its buffer is free, and its bytes count for the transfer of its race
(R298). -/
def coverPacket (c : Nat) (p : Packet) (d : Dev) : Dev :=
  if p.race = 0 then d else
  match (d.requests (p.race - 1)).find? fun r => begun r && targetOf r == c with
  | some r => coverBytes (p.race - 1) p.data.length r d
  | none => d

/-- CACK and NEXT of a received BULK frame are taken (R132, R133). -/
def takeCredit (L cack next : Nat) (d : Dev) : Dev :=
  let x := d.lane L
  let n := (cack + 256 - x.peerCack) % 256
  let covered := x.unacked.take n
  let d := d.onLane L fun x => { x with peerCack := cack, peerNext := next, unacked := x.unacked.drop n }
  (match d.ctxOfLane L with
    | some c => each covered (coverPacket c) d
    | none => d).showCredit L

/-- A data packet is accepted when its PSEQ equals NEXT and staging has a buffer (R133). -/
def takePacket (L : Nat) (pl : List Byte) (d : Dev) : Dev :=
  let fl := byteAt pl 3
  if fl.testBit 2 ∨ byteAt pl 2 ≠ d.get (LANE_BULK_NEXT L) ∨ d.get CTX_ADMIT_CFG_CRED ≤ (d.lane L).inbound.length then d
  else
    let p : Packet := { xid := numAt pl 0 2, first := fl.testBit 0, last := fl.testBit 1, data := pl.drop 8 }
    (d.put (LANE_BULK_NEXT L) ((d.get (LANE_BULK_NEXT L) + 1) % 256)).onLane L
      fun x => { x with inbound := x.inbound ++ [p], owed := true }

/-- A BULK frame of a cell. -/
def bulkReceive (L : Nat) (pl : List Byte) (d : Dev) : Dev :=
  match d.bulkCtx L with
  | some c => drainIn 256 c L (takePacket L pl (takeCredit L (byteAt pl 4) (byteAt pl 5) d))
  | none => d

/-! ### Descriptors (R288 to R291, R297, R304) -/

/-- The host's fields keep to R288, and every other byte is 0. -/
def layoutOk (d : Dev) (q : Nat) (bs : List Byte) : Bool :=
  let len := numAt bs 8 4
  let op := byteAt bs 16
  let arg := numAt bs 20 4
  let kind := d.raceKind q
  decide (numAt bs 0 1 % 8 = 0) && decide (1 ≤ len) && decide (len ≤ 65536) && numAt bs 24 8 == 0 &&
  (if q < 16 then
    numAt bs 12 4 == 0 && op == 0 && (byteAt bs 17 == 0 || byteAt bs 17 == 2) && numAt bs 18 6 == 0 &&
      (decide (264 ≤ len) || !(kind == Kind.telem || kind == Kind.proof))
  else
    decide (byteAt bs 17 < 4) &&
      (if kind == Kind.bulkOut then op == 1 && decide (arg < 65536)
       else if kind == Kind.mgmt then
         (op == 1 || op == 2) && !(byteAt bs 17).testBit 0 && decide (1 ≤ arg / 65536) && decide (arg / 65536 ≤ 15) &&
           decide (arg / 65536 * 4 ≤ len)
       else true))

/-- A descriptor as it was fetched; `op` 0xFF marks one that breaks the layout. -/
def descOf (d : Dev) (q : Nat) (bs data : List Byte) : Desc :=
  { k := d.get (RACE_HEAD q), addr := numAt bs 0 8, len := numAt bs 8 4, op := if d.layoutOk q bs then byteAt bs 16 else 0xFF,
    chain := decide (16 ≤ q) && (byteAt bs 17).testBit 0, irq := (byteAt bs 17).testBit 1,
    tgt := if q < 16 then 0xFFFF else numAt bs 18 2, arg := if q < 16 then 0 else numAt bs 20 4, data := data }

/-- The context can take bulk transfers from the host (R289, R341). -/
def bulkTarget (d : Dev) (c : Nat) : Bool :=
  decide (c < 128) && d.ctxState c == St.bound && d.bit (CTX_CAP_CAP c) 1 && !d.flag (CTX_PROG_BMBX c)

/-- The descriptors at the end of a list that continue an unfinished run (R297). -/
def openRun (ds : List Desc) : List Desc := (ds.reverse.takeWhile fun x => x.chain && x.status == none).reverse

/-- The run of R297 keeps its rules. -/
def runOk (run : List Desc) : Bool :=
  run.all (fun x => x.op == 1) && decide (run.length ≤ 16) &&
    decide ((run.foldl (fun a x => a + x.len) 0) ≤ 1048576) &&
    (match run with
     | [] => true
     | x :: r => r.all fun y => y.tgt == x.tgt && y.arg == x.arg) &&
    (match run.getLast? with
     | some x => !x.chain
     | none => false)

/-- A BULK_OUT descriptor arrives: the run that it ends is checked (R297). -/
def postBulk (q : Nat) (x : Desc) (d : Dev) : Dev :=
  let run := openRun (d.race q).descs ++ [x]
  let d := d.onRace q fun r => { r with descs := r.descs ++ [x] }
  if x.chain ∧ run.length < 16 then d
  else if !runOk run then each run (fun y d => endDesc q y Sx.form 0 d) d
  else match run with
    | y :: _ =>
      if !d.bulkTarget y.tgt then each run (fun y d => endDesc q y Sx.target 0 d) d
      else putDesc q { y with first := true } d
    | [] => d

/-- A MGMT descriptor arrives: its request goes to the cell (R115, R304).  The TAG is the race number. -/
def postMgmt (q : Nat) (x : Desc) (d : Dev) : Dev :=
  let d := d.onRace q fun r => { r with descs := r.descs ++ [x] }
  let count := x.arg / 65536
  if x.op = 0xFF then endDesc q x Sx.form 0 d
  else if !(decide (x.tgt < 128) && d.ctxState x.tgt == St.bound) then endDesc q x Sx.target 0 d
  else match d.laneOf x.tgt with
    | some L =>
      let more := if x.op = 1 then [BitVec.ofNat 8 count] else x.data.take (4 * count)
      let body := [BitVec.ofNat 8 x.op, BitVec.ofNat 8 q] ++ le 2 (x.arg % 65536) ++ more
      (d.laneSend L (nymFrame 6 body)).onRace q fun r => { r with asked := some x.tgt }
    | none => endDesc q x Sx.target 0 d

/-- A D2H descriptor arrives: its buffer is posted, or it ends with FORM (R290). -/
def postBuffer (q : Nat) (x : Desc) (d : Dev) : Dev :=
  let d := d.onRace q fun r => { r with descs := r.descs ++ [x] }
  if x.op = 0xFF then endDesc q x Sx.form 0 d
  else if d.raceKind q = Kind.vat then d.vatServe
  else if d.raceKind q = Kind.bulkIn then d.drainAll
  else d

/-- A descriptor may be fetched: posted, at most 16 ahead of NSEQ (R314), and for MGMT after the writeback of the one
before it (R304). -/
def mayFetch (d : Dev) (q : Nat) : Bool :=
  let ahead := (d.get (RACE_HEAD q) + 2 ^ 32 - d.get (RACE_NSEQ q)) % 2 ^ 32
  d.pcie.up && d.raceServes q && !(d.race q).stopping && d.get (RACE_HEAD q) != d.get (RACE_TAIL q) &&
    decide (ahead < if d.raceKind q = Kind.mgmt then 1 else 16)

/-! ### BULK_OUT transfers (R298, R299) -/

/-- Place of the doorbell that posted the last descriptor of a request. -/
def bellOf (d : Dev) (q : Nat) (req : List Desc) : Nat :=
  match req.getLast? with
  | some x => d.vat.bells.findIdx fun b => b.1 == q && decide ((b.2 + 2 ^ 32 - 1 - x.k) % 2 ^ 32 < 2 ^ 31)
  | none => 0

/-- The requests of every BULK_OUT race for a context, with their races; those of one race are in order. -/
def requestsFor (d : Dev) (c : Nat) : List (Nat × List Desc) :=
  (allRaces.filter fun q => d.raceKind q == Kind.bulkOut).flatMap fun q =>
    ((d.requests q).filter fun r => targetOf r == c).map fun r => (q, r)

/-- The request that a context's transfers serve: the one that has begun, else the one whose doorbell came first, of
doorbells at the same place the one of the lower race (R299). -/
def servedFor (d : Dev) (c : Nat) : Option (Nat × List Desc) :=
  match (d.requestsFor c).find? fun r => begun r.2 with
  | some r => some r
  | none => (d.requestsFor c).foldl (fun best r =>
      match best with
      | some b => if d.bellOf r.1 r.2 < d.bellOf b.1 b.2 then some r else best
      | none => some r) none

/-- Bytes of a request that are still to be cut into packets. -/
def uncut (req : List Desc) : Nat := req.foldl (fun a x => a + (x.len - x.cut)) 0

/-- `n` bytes of a request are cut into a packet, in descriptor order (R298). -/
def cutBytes (q : Nat) : Nat → List Desc → Dev → Dev
  | _, [], d => d
  | n, x :: r, d =>
    let k := min n (x.len - x.cut)
    cutBytes q (n - k) r (putDesc q { x with cut := x.cut + k } d)

/-- Race q may read a packet for context c, or end a request that the context cannot take. -/
def wantsPacket (d : Dev) (q c : Nat) : Bool :=
  d.pcie.up && d.raceServes q && d.raceKind q == Kind.bulkOut &&
  match d.servedFor c with
  | some (r, req) =>
    r == q && ((!begun req && !d.bulkTarget c) || (decide (0 < uncut req) && match d.laneOf c with
      | some L => decide ((d.lane L).staged.length + (d.lane L).unacked.length < d.get CTX_ADMIT_CFG_CRED)
      | none => false))
  | none => false

/-- The host DMA engine serves race q next among the races that want it (R26): by class, and within a class in turn. -/
def dmaTurn (d : Dev) (q : Nat) : Bool :=
  let cls (r : Nat) : Nat := kindClass (d.raceKind r)
  let after (r : Nat) : Nat := (r + 32 - Table.get 0 d.pcie.served (cls q)) % 32
  allRaces.all fun r =>
    !(d.mayFetch r || (d.raceKind r == Kind.bulkOut && allCtx.any fun c => d.wantsPacket r c)) ||
      decide (cls q < cls r) || (cls r == cls q && decide (after q ≤ after r))

/-- Race q has been served. -/
def dmaServed (q : Nat) (d : Dev) : Dev :=
  d.onPcie fun p => { p with served := Table.put 0 p.served (kindClass (d.raceKind q)) ((q + 1) % 32) }

/-- A packet of 512 bytes, or the last of its request, is read into the outbound staging of context c's lane (R298,
R299). -/
def packetRead (q c : Nat) (data : List Byte) (d : Dev) : Dev :=
  if !(d.wantsPacket q c && d.dmaTurn q) then d else
  match d.servedFor c, d.laneOf c with
  | some (_, req), lane =>
    if !begun req && !d.bulkTarget c then each req (fun y d => endDesc q y Sx.target 0 d) d else
    match lane, req with
    | some L, x :: _ =>
      let n := min 512 (uncut req)
      if data.length ≠ n then d else
      let p : Packet := ⟨x.arg, !begun req, n == uncut req, data, q + 1⟩
      dmaServed q (cutBytes q n req (d.onLane L fun y => { y with staged := y.staged ++ [p] }))
    | _, _ => d
  | none, _ => d

/-- A fetched descriptor arrives (R290). -/
def fetch (q : Nat) (bs data : List Byte) (d : Dev) : Dev :=
  if !(d.mayFetch q && d.dmaTurn q) then d else
  let x := d.descOf q bs data
  let d := (d.dmaServed q).put (RACE_HEAD q) (d.get (RACE_HEAD q) + 1)
  if q < 16 then postBuffer q x d
  else if numAt bs 12 4 ≠ x.k then
    let d := d.onRace q fun r => { r with descs := r.descs ++ [{ x with status := some Sx.seq }] }
    stopRace q 4 d
  else if d.raceKind q = Kind.bulkOut then postBulk q x d
  else postMgmt q x d

/-- The oldest descriptor completes; doorbells that posted nothing more are forgotten. -/
def descComplete (q : Nat) (d : Dev) : Dev :=
  if !d.pcie.up then d else
  let d := completeHead q d
  let n := d.get (RACE_NSEQ q)
  let still (b : Nat × Nat) : Bool := b.1 != q || decide ((b.2 + 2 ^ 32 - 1 - n) % 2 ^ 32 < 2 ^ 31)
  { d with vat := { d.vat with bells := d.vat.bells.filter still } }

/-! ### MGMT answers (R304) -/

/-- A stop that waited for the answer takes effect (R308). -/
def finishStop (q : Nat) (d : Dev) : Dev :=
  if (d.race q).stopping then stopRace q 7 ((completeAll q d).onRace q fun r => { r with stopping := false }) else d

/-- The outstanding request ends. -/
def mgmtEnd (q status dlen : Nat) (d : Dev) : Dev :=
  match d.openDesc q with
  | some x => finishStop q ((endDesc q x status dlen d).onRace q fun r => { r with asked := none })
  | none => d

/-- A RESP or NACK of context c (R115). -/
def mgmtAnswer (c : Nat) (pl : List Byte) (d : Dev) : Dev :=
  let q := byteAt pl 1
  if !(decide (q < 32) && (d.race q).asked == some c) then d else
  match d.openDesc q with
  | none => d
  | some x =>
    let n := x.arg / 65536 * 4
    if byteAt pl 0 = 0x82 then mgmtEnd q Sx.nack (byteAt pl 4) d
    else if byteAt pl 0 = 0x81 then
      if x.op = 2 ∧ pl.length = 4 then mgmtEnd q Sx.ok n d
      else if x.op = 1 ∧ pl.length = 4 + n then mgmtEnd q Sx.ok n (d.send (.hostWrite x.addr (pl.drop 4)))
      else d
    else d

/-! ### Telemetry (R295, R296) -/

/-- The record of a TELEM payload. -/
def telemRec (d : Dev) (c chan : Nat) (pl : List Byte) : List Byte :=
  let prev := Table.get 0 (d.cell c).tseq chan
  let gap := prev != 0 && prev % 256 != byteAt pl 0
  let samples := pl.drop 4
  [BitVec.ofNat 8 c, BitVec.ofNat 8 (chan + 4 * gap.toNat), pl.getD 0 0, 0] ++ le 2 samples.length ++
    (pl.drop 2).take 2 ++ samples ++ List.replicate ((8 - samples.length % 8) % 8) 0

/-- A TELEM frame of a stream that the host wants. -/
def telem (L chan : Nat) (pl : List Byte) (d : Dev) : Dev :=
  match d.ctxOfLane L with
  | none => d
  | some c =>
    if !(decide (chan < 4) && d.bit (CTX_HROUTE_TCHEN c) chan) then d else
    let q := d.get (CTX_HROUTE_TRACE c)
    if !(d.raceKind q == Kind.telem && d.raceServes q) then d.inc (RACE_STAT_DROPS q) else
    let (ok, d) := appendRec q (d.telemRec c chan pl) d
    if ok then d.onCell c fun x => { x with tseq := Table.put 0 x.tseq chan (byteAt pl 0 + 1) }
    else d.inc (RACE_STAT_DROPS q)

/-! ### Control of a race (R286, R290, R308, R309) -/

/-- Base and size are read (R309). -/
def readRing (q : Nat) (d : Dev) : Dev :=
  d.onRace q fun r => { r with base := d.get (RACE_BASE_LO_ADDR q) * 4096 + d.get (RACE_BASE_HI q) * 2 ^ 32,
                               size := d.get (RACE_CFG_SIZE q) }

/-- The kind suits the race's direction (R286). -/
def kindFits (q k : Nat) : Bool := if q < 16 then decide (1 ≤ k) && decide (k ≤ 4) else k == 5 || k == 6

/-- An enable is refused (R286). -/
def refuseEnable (q err : Nat) (d : Dev) : Dev := (d.clr (RACE_CFG_EN q)).put (RACE_STAT_ERR q) err

/-- A write of RACE_CFG(q): SIZE and KIND, unless the race runs, and then EN. -/
def raceConfig (q : Nat) (v : Word) (d : Dev) : Dev :=
  let en := v.toNat.testBit 31
  let size := max 4 (min 16 (v.toNat / 2 ^ 24 % 16))
  let k := v.toNat % 16
  let d := if d.raceRuns q then d
    else ((d.put (RACE_CFG_SIZE q) size).put (RACE_CFG_KIND q) k).put (RACE_CFG_CLASS q) (kindClass k)
  if !en then d.clr (RACE_CFG_EN q)
  else if d.raceRuns q then d
  else
    let k := d.raceKind q
    if !kindFits q k then refuseEnable q 1 d
    else if k = Kind.vat ∧ d.vatTested then (refuseEnable q 2 d).arbBusy 8 0 0xF 2 0xD 3
    else if k == Kind.vat && allRaces.any fun r => r != q && d.raceOn r && d.raceKind r == Kind.vat then
      (refuseEnable q 2 d).arbBusy 8 0 0xD 3 0xD 3
    else (if d.raceOn q then d else (d.set (RACE_CFG_EN q)).readRing q).vatServe.drainAll

/-- A doorbell (R290). -/
def doorbell (q : Nat) (t : Word) (d : Dev) : Dev :=
  let size := if d.raceOn q then (d.race q).size else d.get (RACE_CFG_SIZE q)
  if 2 ^ size < (t.toNat + 2 ^ 32 - d.get (RACE_NSEQ q)) % 2 ^ 32 then stopRace q 3 d
  else
    let d := d.put (RACE_TAIL q) t.toNat
    if d.raceKind q = Kind.bulkOut then { d with vat := { d.vat with bells := d.vat.bells ++ [(q, t.toNat)] } } else d

/-- Packets of a BULK_OUT race leave the staging, and those in flight no longer count for it. -/
def abandon (q : Nat) (d : Dev) : Dev :=
  each allLanes (fun L d =>
    if (d.lane L).staged = [] ∧ (d.lane L).unacked = [] then d
    else d.onLane L fun x =>
      { x with staged := x.staged.filter fun p => p.race != q + 1,
               unacked := x.unacked.map fun p => if p.race = q + 1 then { p with race := 0 } else p }) d

/-- The current transfer is cut short (R308). -/
def cutShort (q : Nat) (d : Dev) : Dev :=
  if q < 16 then endFilling q Sx.stopped (fun _ => true) d
  else (each ((d.requests q).filter begun) (endRequest q Sx.stopped) d).abandon q

/-- STOP (R308). -/
def raceStop (q : Nat) (d : Dev) : Dev :=
  if d.flag (RACE_STAT_STOPPED q) then d
  else if (d.race q).asked ≠ none then d.onRace q fun r => { r with stopping := true }
  else stopRace q 7 (completeAll q (cutShort q d))

/-- RESUME (R315). -/
def raceResume (q : Nat) (d : Dev) : Dev :=
  ((d.clr (RACE_STAT_STOPPED q)).onRace q fun r => { r with stopping := false }).vatServe.drainAll

/-- REARM (R309). -/
def raceRearm (q : Nat) (d : Dev) : Dev :=
  if !d.flag (RACE_STAT_STOPPED q) then d else
  let n := d.get (RACE_NSEQ q)
  let d := (((d.abandon q).readRing q).put (RACE_HEAD q) n).put (RACE_TAIL q) n
  let d := (d.clr (RACE_STAT_STOPPED q)).onRace q fun r =>
    { r with descs := [], asked := none, stopping := false }
  { d with vat := { d.vat with bells := d.vat.bells.filter fun b => b.1 ≠ q } }

/-! ### Links and errors (R284, R285) -/

/-- The configuration space and the MSI-X table return to their reset values, and every enabled race stops; the change is
counted and raises event 188 (R284). -/
def endpointReset (d : Dev) : Dev :=
  let d := (d.onPcie fun p => { p with fnMask := false, mask := 0xFFFFFFFF, pba := 0, tbl := [] }).inc RACE_DMA_FLRCNT
  (each allRaces (fun q d => if d.raceOn q then stopRace q 6 d else d) d).event 188

/-- The PCIe link goes down. -/
def linkDown (d : Dev) : Dev :=
  if !d.pcie.up then d
  else ((d.onPcie fun p => { p with up := false }).clr RACE_DMA_LINKUP).endpointReset

/-- The descriptor of the read that failed: the one that the next packet for context c of a BULK_OUT race comes from, or
the open one. -/
def readingDesc (d : Dev) (q c : Nat) : Option Desc :=
  if d.raceKind q = Kind.bulkOut then
    match d.servedFor c with
    | some (r, req) => if r = q then req.find? fun x => decide (x.cut < x.len) else none
    | none => none
  else d.openDesc q

/-- A read of a race fails (R285).  A descriptor that has been read with `bs`, and whose own data have not, is held from
then on: the WRITE of a MGMT race. -/
def dmaError (q : Nat) (readable : Bool) (c : Nat) (bs : List Byte) (d : Dev) : Dev :=
  if !d.raceRuns q then d else
  let d := match d.readingDesc q c with
    | some x => if readable then endDesc q x Sx.dma 0 d else d
    | none =>
      if readable && d.raceKind q == Kind.mgmt && d.mayFetch q && bs.length == 32 then
        let x := { d.descOf q bs [] with status := some Sx.dma }
        (d.put (RACE_HEAD q) (d.get (RACE_HEAD q) + 1)).onRace q fun r => { r with descs := r.descs ++ [x] }
      else d
  ((stopRace q 5 d).breach 27 5).inc RACE_DMA_DMAERR

/-! ### The vat (R305, R306) -/

/-- ARM (R305, R306, R549). -/
def vatArm (d : Dev) : Dev :=
  let st := d.get RACE_VAT_STAT_STATE
  let busy := d.put RACE_VAT_STAT_RESULT 2
  if d.vatTested then busy.arbBusy 8 0 0xF 2 0xE 3
  else if d.vatRace ≠ none then busy.arbBusy 8 0 0xD 3 0xE 3
  else if st = 3 ∨ st = 4 then busy.arbBusy 8 0 0xE 3 0xE 3
  else
    let d := { d with vat := { d.vat with lens := [], next := 0, trig := false, after := 0, since := 0, drained := 0 } }
    ((d.put RACE_VAT_STAT_RESULT 1).put RACE_VAT_STAT_STATE 1).showVat

/-- DISCARD (R306). -/
def vatDiscard (d : Dev) : Dev :=
  ({ d with vat := { d.vat with lens := [], trig := false, after := 0, since := 0, drained := 0 } }.put
    RACE_VAT_STAT_STATE 0).showVat

/-- The capture is complete and the vat freezes (R305). -/
def vatFreeze (d : Dev) : Dev :=
  if d.get RACE_VAT_STAT_STATE = 2 && d.vatComplete d.vatBytes.length then (d.put RACE_VAT_STAT_STATE 3).vatServe else d

/-- A read of RACE_VAT_PORT: its data and its effect (R306, R322); DATA reads its reset value 0 while there is no drain
stream (R4). -/
def vatPort (d : Dev) : Nat × Dev :=
  if d.vatTested then (0, (d.put RACE_VAT_STAT_RESULT 2).arbBusy 8 0 0xF 2 0xE 3)
  else if d.vatRace ≠ none then (0, (d.put RACE_VAT_STAT_RESULT 2).arbBusy 8 0 0xD 3 0xE 3)
  else
    let d := d.put RACE_VAT_STAT_RESULT 1
    let st := d.get RACE_VAT_STAT_STATE
    let fill := d.get RACE_VAT_FILL_FILL
    if (st == 3 || st == 4) && decide (d.vat.drained < fill) then
      let n := d.vat.drained + 4
      (nat (d.vatStream d.vat.drained 4),
        { d with vat := { d.vat with drained := n } }.put RACE_VAT_STAT_STATE (if n < fill then 4 else 5))
    else (0, d)

end Dev

/-! ### Meanings: bulk, MGMT and telemetry on the lanes -/

/-- TELEM_FRAME (R295, R296). -/
def execTelemFrame (L : Fin 144) (syms : List Sym) (s : State) : Host.Outcome State Fault Refusal :=
  s.next (Dev.laneFrame L.val syms 3 fun chan pl => Dev.telem L.val chan pl)

/-- MGMT_RESPONSE (R115, R304). -/
def execMgmtResponse (L : Fin 144) (syms : List Sym) (s : State) : Host.Outcome State Fault Refusal :=
  s.next (Dev.laneFrame L.val syms 6 fun _ pl d =>
    match d.ctxOfLane L.val with
    | some c => Dev.mgmtAnswer c pl d
    | none => d)

/-- MGMT_TIMEOUT (R304): 2 ms without an answer. -/
def execMgmtTimeout (q : Fin 32) (s : State) : Host.Outcome State Fault Refusal :=
  s.next fun d => if (d.race q.val).asked ≠ none then Dev.mgmtEnd q.val Dev.Sx.timeout 0 d else d

/-- BULK_FRAME_RECEIVE (R133, R298, R301). -/
def execBulkFrameReceive (L : Fin 144) (syms : List Sym) (s : State) : Host.Outcome State Fault Refusal :=
  s.next (Dev.laneFrame L.val syms 5 fun _ pl => Dev.bulkReceive L.val pl)

/-- BULK_PACKET_SEND (R132). -/
def execBulkPacketSend (L : Fin 144) (s : State) : Host.Outcome State Fault Refusal := s.next (Dev.bulkSend L.val)

/-- BULK_RESEND_TIMEOUT (R134). -/
def execBulkResendTimeout (L : Fin 144) (s : State) : Host.Outcome State Fault Refusal := s.next (Dev.bulkResend L.val)

/-- BULK_CREDIT_REPORT (R133). -/
def execBulkCreditReport (L : Fin 144) (s : State) : Host.Outcome State Fault Refusal := s.next (Dev.bulkReport L.val)

/-! ### Meanings: the endpoint -/

/-- PCIE_LINK_DOWN (R284). -/
def execPcieLinkDown (s : State) : Host.Outcome State Fault Refusal := s.next Dev.linkDown

/-- FUNCTION_LEVEL_RESET (R284). -/
def execFunctionLevelReset (s : State) : Host.Outcome State Fault Refusal :=
  s.next fun d => if d.pcie.up then d.endpointReset else d

/-- PCIE_LINK_UP (R284, R319): width 1, 2 or 4, and rate. -/
def execPcieLinkUp (w gen : Fin 3) (s : State) : Host.Outcome State Fault Refusal :=
  s.next fun d => if d.pcie.up then d else
    let d := (d.onPcie fun p => { p with up := true }).set RACE_DMA_LINKUP
    ((d.put RACE_DMA_WIDTH (2 ^ w.val)).put RACE_DMA_GEN (gen.val + 1)).event 188

/-- DMA_ERROR (R285). -/
def execDmaError (q : Fin 32) (readable : Bool) (c : Fin 128) (bs : List Byte) (s : State) :
    Host.Outcome State Fault Refusal :=
  s.next (Dev.dmaError q.val readable c.val bs)

/-! ### Meanings: races -/

/-- RACE_ENABLE (R286, R309, R312). -/
def execRaceEnable (q : Fin 32) (v : Word) (s : State) : Host.Outcome State Fault Refusal :=
  s.next (Dev.raceConfig q.val v)

/-- RACE_DOORBELL (R290). -/
def execRaceDoorbell (q : Fin 32) (v : Word) (s : State) : Host.Outcome State Fault Refusal :=
  s.next (Dev.doorbell q.val v)

/-- DESCRIPTOR_FETCH (R288, R290, R297, R304): the descriptor's 32 bytes, and the data of a MGMT WRITE. -/
def execDescriptorFetch (q : Fin 32) (bs data : List Byte) (s : State) : Host.Outcome State Fault Refusal :=
  s.next (Dev.fetch q.val bs data)

/-- BULK_OUT_PACKET_READ (R298, R299): a packet for context c. -/
def execBulkOutPacketRead (q : Fin 32) (c : Fin 128) (data : List Byte) (s : State) : Host.Outcome State Fault Refusal :=
  s.next (Dev.packetRead q.val c.val data)

/-- DESCRIPTOR_COMPLETE (R291, R294). -/
def execDescriptorComplete (q : Fin 32) (s : State) : Host.Outcome State Fault Refusal := s.next (Dev.descComplete q.val)

/-- RACE_IRQ_TIMER (R294). -/
def execRaceIrqTimer (q : Fin 32) (s : State) : Host.Outcome State Fault Refusal :=
  s.next fun d => if (d.race q.val).unsig ≠ 0 && d.get (RACE_IRQ_TIME q.val) != 0 then
    (d.onRace q.val fun r => { r with unsig := 0 }).event (128 + q.val) else d

/-- RACE_FLUSH_TIMER (R296). -/
def execRaceFlushTimer (q : Fin 32) (s : State) : Host.Outcome State Fault Refusal :=
  s.next fun d => match d.openDesc q.val with
    | some x => if 0 < x.recs then Dev.endDesc q.val x Dev.Sx.ok x.dlen d else d
    | none => d

/-- RACE_STOP (R308). -/
def execRaceStop (q : Fin 32) (s : State) : Host.Outcome State Fault Refusal := s.next (Dev.raceStop q.val)

/-- RACE_RESUME (R315). -/
def execRaceResume (q : Fin 32) (s : State) : Host.Outcome State Fault Refusal := s.next (Dev.raceResume q.val)

/-- RACE_REARM (R309). -/
def execRaceRearm (q : Fin 32) (s : State) : Host.Outcome State Fault Refusal := s.next (Dev.raceRearm q.val)

/-! ### Meanings: the vat -/

/-- VAT_ARM (R305, R306). -/
def execVatArm (s : State) : Host.Outcome State Fault Refusal := s.next Dev.vatArm

/-- VAT_TRIGGER (R305). -/
def execVatTrigger (s : State) : Host.Outcome State Fault Refusal := s.next Dev.vatTrigger

/-- VAT_DISCARD (R306). -/
def execVatDiscard (s : State) : Host.Outcome State Fault Refusal := s.next Dev.vatDiscard

/-- VAT_FREEZE (R305). -/
def execVatFreeze (s : State) : Host.Outcome State Fault Refusal := s.next Dev.vatFreeze

/-- VAT_PORT_READ (R306, R322). -/
def execVatPortRead (s : State) : Host.Outcome State Fault Refusal := s.next fun d => d.vatPort.2.send (.read d.vatPort.1)

/-- GPIO_VAT_TRIG (R600, R602): function 6 is assigned to the pin. -/
def execGpioVatTrig (pin : Fin 8) (s : State) : Host.Outcome State Fault Refusal :=
  s.next fun d => if d.get GLB_GPIO_FN_F6 = 8 + pin.val then d.vatTrigger else d

end Sys2Proof.Machine
end

