-- ==== Sys2Proof/Machine/Bist.lean ====
section
/-! DEFINITION. Self-test and repair (chapter 15): the sequencer and its queue, verdicts, the rolling lane check, soft
and fuse repairs. -/

namespace Sys2Proof.Machine

open Reg

namespace Dev

def onBist (d : Dev) (f : Bist → Bist) : Dev := { d with bist := f d.bist }

/-! ### The queue (R479, R481) -/

def showQueueLen (d : Dev) : Dev := d.put BIST_STATUS_QUEUE d.bist.queue.length

/-- A request for a list of tests, in a mode and with numbers that the sequencer takes. -/
def queueTests (ts : List Nat) (d : Dev) : Dev :=
  let d := each ts (fun t d => d.put (BIST_TSTAT_RESULT t) 5) d
  (d.onBist fun b => { b with queue := b.queue ++ ts }).showQueueLen

/-- The tests that a number names (R481); none for a number that the register refuses. -/
def testsOf (n : Nat) : Option (List Nat) :=
  if n = 0x3F then some (List.range 54) else if n < 54 then some [n] else none

/-- A request (R479, R481): RESULT and, when it is accepted, the queue. -/
def requestTests (n : Nat) (d : Dev) : Dev :=
  if d.mode' ≠ 0xA then d.put BIST_STATUS_RESULT 3
  else match testsOf n with
    | none => d.put BIST_STATUS_RESULT 4
    | some ts =>
      if ts.any fun t => d.bist.queue.contains t || d.bist.run.contains t then d.put BIST_STATUS_RESULT 2
      else queueTests ts (d.put BIST_STATUS_RESULT 1)

/-- A write of BIST_CTRL with RUN = 1. -/
def bistRun (v : Word) (d : Dev) : Dev :=
  let d := (d.put BIST_CTRL_TEST v.toNat).putB BIST_CTRL_EXTLOOP (v.getLsbD 29)
  requestTests (v.toNat % 64) d

/-! ### Start of a test (R481, R482) -/

def poldersInBist (d : Dev) : Nat := (allPolders.filter d.inBist).length

def otherRuns (d : Dev) : Bool := (d.bist.run ++ d.bist.reinit).any fun t => decide (48 ≤ t)

/-- A queued test meets its start condition. -/
def canStart (d : Dev) (t : Nat) : Bool :=
  if t < 48 then
    if d.inBist (t / 6) then !d.polderBusy (t / 6)
    else decide (d.poldersInBist < 2) &&
      (match d.bist.entered with
       | some a => decide (a + 100000 ≤ d.up)
       | none => true)
  else !d.otherRuns && (t != 50 || decide (d.poldersInBist ≤ 1))

/-- Polder p enters BIST (R482): its lanes are dark, its engine reads BIST, its clock is not monitored. -/
def enterBist (p : Nat) (d : Dev) : Dev :=
  if d.inBist p then d else
  let d := (d.putBit BIST_STATUS_POLDERS p true).putBit GLB_ISLAND_POLDER_OK p false
  (d.put (PLD_CTRL_STATE p) 2).onBist fun b => { b with entered := some d.up }

/-- The lanes of a lane test read loop-back (R482). -/
def loopLanes (p : Nat) (d : Dev) : Dev :=
  each ((List.range 18).map fun i => 18 * p + i) (fun L d =>
    (d.put (LANE_CFG_ROLE L) 3).onBist fun b => { b with roles := b.roles ++ [(L, d.get (LANE_CFG_ROLE L))] }) d

def unloopLanes (p : Nat) (d : Dev) : Dev :=
  let d := each (d.bist.roles.filter fun x => x.1 / 18 = p) (fun x d => d.put (LANE_CFG_ROLE x.1) x.2) d
  d.onBist fun b => { b with roles := b.roles.filter fun x => x.1 / 18 ≠ p }

/-- The oldest queued test that can start begins. -/
def startTest (d : Dev) : Dev :=
  match d.bist.queue.find? d.canStart with
  | none => d
  | some t =>
    let d := (d.onBist fun b => { b with queue := b.queue.filter (· ≠ t), run := b.run ++ [t] }).showQueueLen
    let d := (d.put (BIST_TSTAT_RESULT t) 4).clr (BIST_TCNT_COUNT t)
    if t < 48 then
      let d := enterBist (t / 6) d
      if t % 6 = 1 then loopLanes (t / 6) d else d
    else
      let d := d.put BIST_STATUS_NONPOLDER t
      -- R548, R549: test 50 takes the vat from its holders
      if t = 50 then d.vatDiscard else d

/-! ### End of a test (R483 to R486) -/

/-- A running test has ended with a result; its block is to be reinitialised. -/
def closeTest (t result : Nat) (d : Dev) : Dev :=
  let d := (d.put (BIST_TSTAT_RESULT t) result).event 189
  let d := if t < 48 then d else d.put BIST_STATUS_NONPOLDER 0x3F
  d.onBist fun b => { b with run := b.run.filter (· ≠ t), reinit := b.reinit ++ [t] }

/-- A FAIL: source 46, FAILINFO, ledger. -/
def failTest (t info : Nat) (d : Dev) : Dev :=
  let d := ((d.put (BIST_TSTAT_FAILINFO t) info).history 2 [t, info, info / 256, info / 65536]).breach 46 2
  let d := if t < 48 then d.count (0x2000 + 1024 * (t / 6) + 44) 2 1 else d
  closeTest t 2 d

/-- The element that a failing step names (R495). -/
def stepElement (L step : Nat) : Repair := if step < 60 then ⟨0, L, step / 4⟩ else ⟨1, L, (step - 60) / 5⟩

/-- A lane test records the element that its first failing step names, as a rolling check does (R491). -/
def lanesFail (t a : Nat) (d : Dev) : Dev :=
  if t < 48 ∧ t % 6 = 1 then
    d.onBist fun b => { b with bad := stepElement (a / 65536) (a % 65536) :: b.bad.filter (·.unit ≠ a / 65536) }
  else d

/-- A lane test that passes leaves no failed element on its polder's lanes (R491). -/
def lanesPass (t : Nat) (d : Dev) : Dev :=
  if t < 48 ∧ t % 6 = 1 then d.onBist fun b => { b with bad := b.bad.filter (·.unit / 18 ≠ t / 6) } else d

/-- The judgement of a test that reached its terminal state (R484); a FAIL by the signature alone has no position. -/
def judge (t : Nat) (count sig : Word) (failAt : Option Nat) (d : Dev) : Dev :=
  if !d.bist.run.contains t then d else
  let d := (d.put (BIST_TCNT_COUNT t) count.toNat).put (BIST_TSIG_SIG t) sig.toNat
  if count.toNat ≠ d.get (BIST_TEXP_EXPECTED t) then closeTest t 3 d
  else match failAt with
    | some a => failTest t a (lanesFail t a d)
    | none =>
      if sig = Config.expectedSignature t then closeTest t 1 (lanesPass t d)
      else let (w, d) := d.draw; failTest t (w.toNat % 2 ^ 24) d

/-- A test is cut short at a count. -/
def cutTest (t : Nat) (count : Word) (d : Dev) : Dev :=
  if !d.bist.run.contains t then d else
  let (g, d) := d.draw
  closeTest t 3 ((d.put (BIST_TCNT_COUNT t) count.toNat).put (BIST_TSIG_SIG t) g.toNat)

/-- What the reinitialisation leaves in the tested memory: zeros (R483). -/
def zeroBlock (t : Nat) (d : Dev) : Dev :=
  let p := t / 6
  if t < 48 then
    match t % 6 with
    | 1 => unloopLanes p d
    | 3 => d.onPolder p fun y => { y with imem := [] }
    | 4 => d.onPolder p fun y => { y with dmem := [] }
    | 5 => d.onPolder p fun y => { y with regs := [], pc := 0, stack := [], run := none }
    | _ => d
  else match t with
    | 48 => each allCtx (fun c d => each (admissionFields c ++ proofFields c) (fun f d => d.clr f) d) d
    | 50 => { d with vat := { d.vat with mem := [] } }
    | 51 => (d.clr DIKE_FRES_COUNT).onDike fun k =>
      { k with marks := [], words := [], counts := [], timers := [], edges := [], iw := [], qw := [], forces := [] }
    | 52 => d.onDike fun k => { k with bank1 := {} }
    | _ => d

def reinitDone (t : Nat) (d : Dev) : Dev :=
  if !d.bist.reinit.contains t then d else
  let d := zeroBlock t (d.onBist fun b => { b with reinit := b.reinit.filter (· ≠ t) })
  if t < 48 then leaveBist (t / 6) d else d

/-! ### The rolling lane check (R488 to R490) -/

/-- The next spare lane in ascending order after the latest one checked. -/
def nextSpare (d : Dev) : Option Nat :=
  let last := d.get BIST_ROLL_LANE
  let start := if last < 144 then last + 1 else 0
  ((List.range 144).map fun i => (start + i) % 144).find? fun L => d.get (LANE_CFG_ROLE L) == 0

def rollStart (d : Dev) : Dev :=
  if !d.flag BIST_ROLL_EN || [0, 1, 0xA].contains d.mode' || d.lcs == 3 || d.bist.roll.isSome then d else
  match d.nextSpare with
  | none => d
  | some L => ((d.put BIST_ROLL_LANE L).put (LANE_CFG_ROLE L) 3).onBist fun b => { b with roll := some L }

/-- The check of a lane ends: steps completed, first failing step, and whether the signature is the expected one. -/
def rollEnd (steps : Nat) (failAt : Option Nat) (sigOk : Bool) (d : Dev) : Dev :=
  match d.bist.roll with
  | none => d
  | some L =>
    let d := (d.put (LANE_CFG_ROLE L) 0).onBist fun b => { b with roll := none }
    if steps ≠ 352 then d.put BIST_ROLL_RESULT 3
    else if failAt = none ∧ sigOk then
      (d.put BIST_ROLL_RESULT 1).onBist fun b => { b with bad := b.bad.filter (·.unit ≠ L) }
    else
      let (w, d) := d.draw
      let step := failAt.getD (w.toNat % 256)
      let d := ((d.put BIST_ROLL_RESULT 2).put BIST_ROLL_STEP step).set (BIST_ROLLFAIL L)
      let d := (d.history 3 [L, step]).count (0x4000 + 128 * L + 20) 2 1
      let d := d.onBist fun b => { b with bad := stepElement L step :: b.bad.filter (·.unit ≠ L) }
      (d.breach (16 + L / 18) step).event 189

/-! ### Repair (R491 to R495) -/

/-- Elements of a unit; 0 for a unit that does not exist (R491, R492). -/
def elements (kind unit : Nat) : Nat :=
  match kind with
  | 0 => if unit < 144 then 13 else 0
  | 1 => if unit < 144 then 8 else 0
  | 2 => if 136 ≤ unit ∧ unit < 144 then 16 else if unit < 484 then 32 else 0
  | _ => 0

/-- Spares of a unit that are spent: given to a repair, or failed in the latest check of its lane (R491). -/
def spent (d : Dev) (kind unit : Nat) : Nat :=
  ((d.bist.soft ++ d.bist.fused).filter fun r => r.kind = kind ∧ r.unit = unit).length +
    (d.bist.bad.filter fun r => r.kind = kind ∧ r.unit = unit ∧ elements kind unit ≤ r.elem).length

/-- A unit is not in use (R493). -/
def unitIdle (d : Dev) (kind unit : Nat) : Bool :=
  if kind < 2 then d.get (LANE_CFG_ROLE unit) == 0
  else if unit < 144 then d.get GLB_MODE_BASE == 9
  else if 184 ≤ unit ∧ unit < 440 then d.get RACE_VAT_STAT_STATE == 0 && d.vatRace == none
  else false

/-- The fields of a request. -/
def repairOf (d : Dev) : Repair := ⟨d.get BIST_REP_KIND, d.get BIST_REP_UNIT, d.get BIST_REP_ELEMENT⟩

def storeRequest (w : Word) (d : Dev) : Dev :=
  let n := w.toNat
  (((d.put BIST_REP_FUSE (n / 2 ^ 27)).put BIST_REP_KIND (n / 2 ^ 24)).put BIST_REP_UNIT (n / 2 ^ 12)).put
    BIST_REP_ELEMENT (n / 2 ^ 4)

/-- RESULT of a soft repair (R493, R495, R500). -/
def softResult (d : Dev) (r : Repair) : Nat :=
  if elements r.kind r.unit ≤ r.elem then 7
  else if r.kind < 2 ∧ d.bist.roll = some r.unit then 2
  else if !d.unitIdle r.kind r.unit then 3
  else if (d.bist.soft ++ d.bist.fused).contains r then 6
  else if 2 ≤ d.spent r.kind r.unit then 5
  else if 32 ≤ d.bist.soft.length then 8
  else 1

/-- The ledger entry of soft repair i is written; the layout of its 8 bytes is left open (R556). -/
def writeRepair (i : Nat) (d : Dev) : Dev :=
  let (a, d) := d.draw
  let (b, d) := d.draw
  d.onLdg fun l => { l with mram := poke l.mram (68 + 8 * i) (le 4 a.toNat ++ le 4 b.toNat) }

/-- A soft repair is stored in the ledger (R493). -/
def storeRepair (r : Repair) (d : Dev) : Dev :=
  let i := d.bist.soft.length
  let d := writeRepair i d
  (d.onBist fun b => { b with soft := b.soft ++ [r] }).put BIST_REPCNT_SOFT (i + 1)

/-- A soft repair is decided in SERVICE; elsewhere the write requests nothing (R493, R625). -/
def softRepair (w : Word) (d : Dev) : Dev :=
  let d := storeRequest w d
  if d.mode' ≠ 0xB then d else
  let r := d.repairOf
  let x := d.softResult r
  let d := d.put BIST_REP_RESULT x
  if x = 1 then storeRepair r d
  else if x = 2 then d.arbBusy 4 r.unit 0xC 2 0xB 3
  else d

/-- The block of a unit is under test. -/
def unitTested (d : Dev) (r : Repair) : Bool :=
  let ts := d.bist.run ++ d.bist.reinit
  if r.kind < 2 then ts.contains (6 * (r.unit / 18) + 1)
  else if r.unit < 128 then ts.contains (6 * (r.unit / 16) + 2)
  else if r.unit < 136 then ts.contains (6 * (r.unit - 128) + 3)
  else if r.unit < 144 then ts.contains (6 * (r.unit - 136) + 4)
  else if r.unit < 176 then ts.contains 48
  else if r.unit < 184 then ts.contains 49
  else if r.unit < 440 then ts.contains 50
  else if r.unit < 452 then ts.contains 51
  else if r.unit < 468 then ts.contains 52
  else false

def fuseResult (d : Dev) (r : Repair) : Nat :=
  if elements r.kind r.unit ≤ r.elem then 7
  else if d.lcs ≠ 0 then 4
  else if d.mode' ≠ 0xA ∨ d.unitTested r then 3
  else if d.bist.fused.contains r then 6
  else if 2 ≤ d.spent r.kind r.unit - (d.bist.soft.filter (· = r)).length then 5
  else 1

/-- A fuse repair (R494): it frees the ledger entry of a soft repair of the element. -/
def fuseRepair (w : Word) (d : Dev) : Dev :=
  let d := storeRequest w d
  let r := d.repairOf
  let x := d.fuseResult r
  let d := d.put BIST_REP_RESULT x
  if x = 1 then
    let d := if d.bist.soft.contains r then each (List.range d.bist.soft.length) writeRepair d else d
    let d := (d.onBist fun b => { b with fused := b.fused ++ [r], soft := b.soft.filter (· ≠ r) }).inc BIST_REPCNT_FUSED
    d.put BIST_REPCNT_SOFT d.bist.soft.length
  else d

end Dev

open Dev

def execBistRun (v : Word) (s : State) := s.next (bistRun v)

def execBistAbort (s : State) := s.next bistCut

def execBistTestStart (s : State) := s.next fun d => if d.mode' = 0xA then startTest d else d

/-- A test reaches its terminal state: pattern count, signature, and the first failing position if an access found one. -/
def execBistTestEnd (t : Fin 54) (count sig : Word) (failAt : Option (BitVec 24)) (s : State) :=
  s.next (judge t.val count sig (failAt.map BitVec.toNat))

def execBistOvertime (t : Fin 54) (count : Word) (s : State) := s.next (cutTest t.val count)

def execBistReinitDone (t : Fin 54) (s : State) := s.next (reinitDone t.val)

/-- The sequencer has not advanced for 1 s while a test runs (R486). -/
def execBistSequencerStall (s : State) := s.next fun d =>
  if d.bist.run = [] then d
  else
    let d := d.breach 46 3
    each d.bist.run (fun t d => let (n, d) := d.draw; cutTest t n d) d

def execRollCheckStart (s : State) := s.next rollStart

def execRollCheckEnd (steps : BitVec 16) (failAt : Option Byte) (sigOk : Bool) (s : State) :=
  s.next (rollEnd steps.toNat (failAt.map BitVec.toNat) sigOk)

def execSoftRepair (path : Path) (w : Word) (s : State) := s.next (keyedAct path 0xB0040 (softRepair w))

def execFuseRepair (path : Path) (w : Word) (s : State) := s.next (keyedAct path 0xB0040 (fuseRepair w))

end Sys2Proof.Machine
end

