-- ==== Sys2Proof/Machine/Polder.lean ====
section
/-! DEFINITION. The polder engines (chapter 10): runs and invocations, the instruction set (R332, R333), exceptions
(R334, R335), budgets (R343 to R347), and the commands of their instructions.

An instruction's operand `w` is bits [25:0] of its word; bits [31:26] are the opcode of its mnemonic. -/

namespace Sys2Proof.Machine

open Reg

namespace Dev

/-! ### Runs and invocations -/

/-- Modes in which programs run (R324). -/
def progModes (d : Dev) : Bool := [2, 3, 4, 5, 6, 7, 8].contains d.effMode

/-- Source S is in force for a context, or the couch involves it (R259, R324). -/
def slackDue (d : Dev) (c : Nat) : Bool :=
  [4, 5, 6].contains d.effMode && (d.srcOf c == 2 ||
    (d.flag COUCH_STATUS_ACTIVE && (d.get COUCH_STATUS_IN == 2 || d.get COUCH_STATUS_OUT == 2)))

/-- A program table entry is due (R324). -/
def progDue (d : Dev) (x : Prog) : Bool :=
  match x.kind with
  | 1 => true
  | 2 => d.effMode == 3
  | 3 => d.effMode == 3
  | 4 => d.slackDue x.ctx
  | _ => false

/-- BOUND contexts of a polder, in ascending order (R325). -/
def boundIn (d : Dev) (p : Nat) : List Nat :=
  allCtx.filter fun c => d.ctxState c == St.bound && (match d.laneOf c with | some L => L / 18 == p | none => false)

/-- The invocations of a run: for each context its ASPECT program and then its producer (R325). -/
def runList (d : Dev) (p : Nat) : List Prog :=
  ((d.boundIn p).map fun c =>
    let ps := (d.polder p).progs.filter fun x => x.ctx == c && d.progDue x
    ps.filter (fun x => x.kind == 1) ++ ps.filter (fun x => x.kind != 1)).flatten

/-- The latest return entry, FRESH when its RETURN carries NSAMP of the deckle in which the run starts (R330). -/
def windowReturn (d : Dev) (c m : Nat) : List Byte :=
  d.returnEntry c (match (d.cell c).ret with
    | some r => byteAt r 19 == (m + 255) % 256
    | none => false)

/-- The context window as the dispatch loads it (R330), without OUT_SHEET and the fields that follow events. -/
def windowOf (d : Dev) (c m : Nat) : List Byte :=
  let sheet := ((d.cell c).onWire ++ List.replicate 16 0).take 16
  let loc := match d.laneOf c with | some L => L % 18 | none => 0
  sheet ++ List.replicate 16 0 ++ d.windowReturn c m ++
    [BitVec.ofNat 8 (d.ctxState c), BitVec.ofNat 8 (d.get (CTX_ASPECT_CMD c) + 16 * d.get (CTX_ASPECT_SAFE c)),
     BitVec.ofNat 8 (min (d.cell c).hc 255), BitVec.ofNat 8 loc]

/-- OUT_SHEET at the entry of a producer program (R336). -/
def emptySheet : List Byte :=
  let e : List Byte := [0, 0, 0xE0]
  [0, 0] ++ e ++ e ++ e ++ e ++ [0, 0]

/-- The entry state of an invocation (R328, R343): 6 cycles, g1 to g5, PC. -/
def invoke (p : Nat) (x : Prog) (rest : List Prog) (d : Dev) : Dev :=
  match (d.polder p).run with
  | none => d
  | some r =>
    let same := match r.cur with | some y => y.ctx == x.ctx | none => false
    let g : Table Word := [1, 2, 3, 4, 5].zip
      [BitVec.ofNat 32 x.ctx, BitVec.ofNat 32 x.kind, BitVec.ofNat 32 r.m, BitVec.ofNat 32 (d.gphIndex (r.m - d.tide.n)),
       BitVec.ofNat 32 0x8000]
    let g := g.foldl (fun t e => Table.put 0 t e.1 e.2) ([] : Table Word)
    let used := (if same then r.used else 0) + 6
    let w := d.windowOf x.ctx r.m
    let d := d.onPolder p fun y =>
      { y with regs := g, pc := x.entry, stack := [],
               run := some { r with todo := rest, cur := some x, used := used, total := r.total + 6, emitted := false,
                                    sheet := emptySheet, window := w } }
    d.put (CTX_PSTAT_LASTCYC x.ctx) (min used 65535)

/-- The run ends (R350, R352). -/
def endRun (p : Nat) (d : Dev) : Dev :=
  match (d.polder p).run with
  | none => d
  | some r =>
    let n := min r.total 65535
    let d := d.onPolder p fun y => { y with run := none }
    let d := if d.get (PLD_CTRL_STATE p) = 1 then d.put (PLD_CTRL_STATE p) 0 else d
    (d.put (PLD_LOAD_LAST p) n).peak (PLD_LOAD_MAX p) n

/-- The next invocation of a BOUND context whose program is due in the present mode is dispatched, or the run ends. -/
def nextInvocation (p : Nat) (d : Dev) : Dev :=
  match (d.polder p).run with
  | none => d
  | some r =>
    match r.todo.filter fun x => d.ctxState x.ctx == St.bound && d.progDue x with
    | x :: rest => invoke p x rest d
    | [] => endRun p d

/-- The run for target m starts (R325). -/
def startRun (p : Nat) (d : Dev) : Dev :=
  let m := d.tide.n + 1
  let y := d.polder p
  if !d.running || !d.progModes || d.get (PLD_CTRL_STATE p) = 2 || y.run != none || y.lastM == m then d else
  -- R356: a context of the run for which no invocation is dispatched has used no cycles
  let d := each (d.boundIn p) (fun c d => d.clr (CTX_PSTAT_LASTCYC c)) d
  let d := (d.onPolder p fun y =>
    { y with lastM := m, run := some { m := m, todo := d.runList p, ns := d.now / 65536 % 2 ^ 32 } }).put (PLD_CTRL_STATE p) 1
  nextInvocation p d

/-! ### What ends an invocation -/

/-- A program's sheet waits for the cut-off, or for the couch's test, whose instant is the reference of R31 (R265, R326). -/
def supplySheet (c m kind : Nat) (s : Sheet) (d : Dev) : Dev :=
  let src := if kind = 4 then 2 else 3
  let d := d.onCell c fun x => { x with supply := x.supply ++ [⟨src, s, false, d.get CTX_MAPVER_CUR % 2⟩] }
  if src = 2 then offer m c (d.now / 65536) d else d

/-- An invocation ends: a FILL program without EMIT gives a sheet of four KEEP entries (R338). -/
def endInvocation (p : Nat) (d : Dev) : Dev :=
  match (d.polder p).run with
  | none => d
  | some r =>
    match r.cur with
    | none => nextInvocation p d
    | some x =>
      let d := if (x.kind = 2 ∨ x.kind = 3) ∧ !r.emitted then
          supplySheet x.ctx r.m x.kind (Sheet.ofBytes r.m emptySheet) d
        else d
      nextInvocation p d

/-- The safe aspect is sent at once, and the producer output of the run counts as not emitted (R347). -/
def quench (c m : Nat) (d : Dev) : Dev :=
  safeNow c (d.onCell c fun x =>
    { x with supply := x.supply.filter fun u => !(decide (2 ≤ u.src) && u.sheet.tgt == m) })

/-- Breach source 8 + p and event 160 + p; source S has failed for a couch that involves it (R271, R347). -/
def engineBreach (p cause : Nat) (d : Dev) : Dev := ((d.breach (8 + p) cause).event (160 + p)).couchSFail

/-- PLD_FAULT records an exception (R353). -/
def noteFault (p cause ctx : Nat) (d : Dev) : Dev :=
  ((d.put (PLD_FAULT_CAUSE p) cause).put (PLD_FAULT_CTX p) ctx).put (PLD_FAULT_PC p) (d.polder p).pc

/-- An exception or an exhausted budget abandons the context's invocations in this run (R335, R347). -/
def abandonRun (p cause : Nat) (d : Dev) : Dev :=
  match (d.polder p).run with
  | none => d
  | some r =>
    match r.cur with
    | none => d
    | some x =>
      let d := (noteFault p cause x.ctx d).inc (if cause = 7 then CTX_PSTAT_EXHAUST x.ctx else CTX_PSTAT_EXCEPT x.ctx)
      let d := ((quench x.ctx r.m d).event (160 + p)).couchSFail
      let d := d.onPolder p fun y => { y with run := y.run.map fun r => { r with todo := r.todo.filter (·.ctx ≠ x.ctx) } }
      nextInvocation p d

/-- An invocation of polder p is in progress. -/
def invoking (d : Dev) (p : Nat) : Bool := (d.polder p).run.any fun r => r.cur.isSome

/-- The same, with breach source 8 + p. -/
def engineFail (p cause : Nat) (d : Dev) : Dev := if d.invoking p then abandonRun p cause (d.breach (8 + p) cause) else d

/-- The deadline D(m) passes (R327): every context of the run that has not ended is handled as in R347. -/
def overrun (p : Nat) (d : Dev) : Dev :=
  match (d.polder p).run with
  | none => d
  | some r =>
    let first := match r.cur with | some x => [x.ctx] | none => []
    let left := first ++ ((r.todo.map (·.ctx)).filter fun c => !first.contains c).eraseDups
    let d := noteFault p 8 (left.headD 0) d
    let d := each left (fun c d => quench c r.m (d.inc (CTX_PSTAT_EXHAUST c))) d
    endRun p (engineBreach p 8 d)

/-! ### Instructions -/

/-- Fields of bits [25:0] (R332). -/
def iD (w : BitVec 26) : Nat := w.toNat / 2 ^ 22
def iA (w : BitVec 26) : Nat := w.toNat / 2 ^ 18 % 16
def iB (w : BitVec 26) : Nat := w.toNat / 2 ^ 14 % 16
def iImm (w : BitVec 26) : Nat := w.toNat % 2 ^ 14
def iSimm (w : BitVec 26) : Word := BitVec.signExtend 32 (w.setWidth 14)

/-- Fields that the format shows as 0 are 0: R, I, B, U and the format without operands (R332). -/
def zeroR (w : BitVec 26) : Bool := iImm w == 0
def zeroI (w : BitVec 26) : Bool := iB w == 0
def zeroU (w : BitVec 26) : Bool := iA w == 0
def zeroN (w : BitVec 26) : Bool := w == 0

/-- A general register; g0 reads 0 (chapter 10, Programming model). -/
def gpr (d : Dev) (p i : Nat) : Word := if i = 0 then 0 else Table.get 0 (d.polder p).regs i

/-- A general register is written; writes to g0 are discarded. -/
def setGpr (p i : Nat) (v : Word) (d : Dev) : Dev :=
  if i = 0 then d else d.onPolder p fun y => { y with regs := Table.put 0 y.regs i v }

/-- The invocation in progress and its run. -/
def current (d : Dev) (p : Nat) : Option (Run × Prog) :=
  match (d.polder p).run with
  | some r => r.cur.map fun x => (r, x)
  | none => none

/-- Cycles of the budget that are left (R343). -/
def cyclesLeft (d : Dev) (r : Run) (c : Nat) : Nat := 4 * d.get (CTX_PROG_BUDGET c) - r.used

/-- The opcodes of R333. -/
def opListed (op : Nat) : Bool :=
  decide (op ≤ 0x0E) || (decide (0x10 ≤ op) && decide (op ≤ 0x1D)) || (decide (0x20 ≤ op) && decide (op ≤ 0x25)) ||
    (decide (0x28 ≤ op) && decide (op ≤ 0x2A)) || (decide (0x30 ≤ op) && decide (op ≤ 0x39))

/-- The word at the PC of polder p has a listed opcode (R333, R334). -/
def pcListed (d : Dev) (p : Nat) : Bool := opListed ((Table.get 0 (d.polder p).imem (d.polder p).pc).toNat / 2 ^ 26)

/-- The engine issues an instruction of `cycles` cycles: none while no invocation runs or its program is not due (R324);
exhaustion when it would exceed the budget (R344, R346); else its cycles count (R343), and it takes its exception (R334)
or its effect, with the PC moved on before it.  An unlisted opcode at the PC is ILLEGAL, whatever instruction the command
names. -/
def issue (p cycles exc : Nat) (next : Nat) (f : Dev → Dev) (d : Dev) : Dev :=
  match d.current p with
  | none => d
  | some (r, x) =>
    let cycles := if d.pcListed p then cycles else 1
    let exc := if d.pcListed p then exc else 1
    if !d.progModes then endRun p d
    else if d.ctxState x.ctx ≠ St.bound || !d.progDue x then nextInvocation p d
    else if d.cyclesLeft r x.ctx < cycles then engineFail p 7 d
    else
      let d := (d.onPolder p fun y =>
        { y with run := some { r with used := r.used + cycles, total := r.total + cycles } }).put
          (CTX_PSTAT_LASTCYC x.ctx) (min (r.used + cycles) 65535)
      if exc ≠ 0 then engineFail p exc d else
      let d := d.onPolder p fun y => { y with pc := next % 4096 }
      f d

/-- The word address after the current one. -/
def seqPc (d : Dev) (p : Nat) : Nat := (d.polder p).pc + 1

/-- An R-format operation. -/
def opR (p : Nat) (w : BitVec 26) (cycles : Nat) (f : Word → Word → Word) (d : Dev) : Dev :=
  issue p cycles (if zeroR w then 0 else 1) (d.seqPc p)
    (fun d => setGpr p (iD w) (f (d.gpr p (iA w)) (d.gpr p (iB w))) d) d

/-- An I-format operation on an immediate. -/
def opI (p : Nat) (w : BitVec 26) (f : Word → Word) (d : Dev) : Dev :=
  issue p 1 (if zeroI w then 0 else 1) (d.seqPc p) (fun d => setGpr p (iD w) (f (d.gpr p (iA w))) d) d

/-- Zero-extended immediate, and its low five bits as a shift count. -/
def immZ (w : BitVec 26) : Word := BitVec.ofNat 32 (iImm w)
def immS (w : BitVec 26) : Nat := iImm w % 32

/-- A branch: B format, whose registers lie in [25:22] and [21:18]. -/
def opB (p : Nat) (w : BitVec 26) (taken : Word → Word → Bool) (d : Dev) : Dev :=
  let t := taken (d.gpr p (iD w)) (d.gpr p (iA w))
  let target := (BitVec.ofNat 32 (d.polder p).pc + iSimm w).toNat
  issue p (if t then 2 else 1) (if zeroI w then 0 else 1) (if t then target else d.seqPc p) id d

/-! ### Memory of the engine (R329 to R331) -/

/-- Address of a load or a store, modulo 65,536. -/
def ea (d : Dev) (p : Nat) (w : BitVec 26) : Nat := (d.gpr p (iA w) + iSimm w).toNat % 65536

/-- An address lies in one of the areas of R329. -/
def validAddr (a : Nat) : Bool :=
  decide (a < 0x2000) || (decide (0x8000 ≤ a) && decide (a < 0x8100)) || (decide (0xA000 ≤ a) && decide (a < 0xA400)) ||
    (decide (0xC000 ≤ a) && decide (a < 0xC020))

/-- A store may go to the address (R329, R330): data memory, the scratch buffer, OUT_SHEET of a producer program. -/
def mayStore (kind a : Nat) : Bool :=
  decide (a < 0x2000) || (decide (0xA200 ≤ a) && decide (a < 0xA400)) ||
    (kind != 1 && decide (0x8010 ≤ a) && decide (a < 0x8020))

/-- The exception of an access of `n` bytes: BADADDR, ALIGN, ROWRITE, in that order (R334). -/
def accessFault (d : Dev) (p : Nat) (w : BitVec 26) (n : Nat) (store : Bool) : Nat :=
  let a := d.ea p w
  let kind := match d.current p with | some (_, x) => x.kind | none => 1
  if !zeroI w then 1
  else if !validAddr a then 2
  else if a % n ≠ 0 then 3
  else if store && !mayStore kind a then 4
  else 0

/-- The inbound packet that is presented to a context's programs (R341). -/
def presented (d : Dev) (c : Nat) : Option Packet :=
  if d.flag (CTX_PROG_BMBX c) then
    match d.laneOf c with
    | some L => (d.lane L).inbound.head?
    | none => none
  else none

/-- A byte of the fields of the context window that follow events (R330). -/
def liveByte (d : Dev) (c off : Nat) : Byte :=
  let bulk (f : Packet → Nat) : Byte :=
    match d.presented c with
    | some q => BitVec.ofNat 8 (f q)
    | none => 0
  if off < 0x50 then
    match (d.cell c).mbx with
    | r :: _ => r.bytes.getD (off - 0x48) 0
    | [] => 0
  else match off with
  | 0x50 => BitVec.ofNat 8 (d.cell c).mbx.length
  | 0x54 => bulk fun q => q.data.length
  | 0x55 => bulk fun q => q.data.length / 256
  | 0x56 => bulk fun q => q.first.toNat + 2 * q.last.toNat
  | 0x58 => bulk fun q => q.xid
  | 0x59 => bulk fun q => q.xid / 256
  | _ => 0

/-- A byte of the context window (R330). -/
def windowByte (d : Dev) (r : Run) (c off : Nat) : Byte :=
  if 0x10 ≤ off ∧ off < 0x20 then r.sheet.getD (off - 0x10) 0
  else if off = 0x45 then
    BitVec.ofNat 8 ((r.window.getD off 0).toNat % 32 + 32 * d.get (CTX_PSTAT_SAFEREQ c) + 64 * d.get (CTX_PSTAT_FILLDONE c))
  else if off < 0x48 then r.window.getD off 0
  else d.liveByte c off

/-- The 32 bytes of the common window (R331). -/
def commonWindow (d : Dev) (p : Nat) (r : Run) (c : Nat) : List Byte :=
  le 4 d.tide.n ++ le 4 r.m ++ le 6 d.tide.p ++ [0, 0] ++ le 2 (d.gphIndex (r.m - d.tide.n)) ++
    [BitVec.ofNat 8 (d.mode' + 16 * d.get SLU_SRC_ACTIVE), BitVec.ofNat 8 p] ++ le 4 (d.cyclesLeft r c) ++ le 4 r.ns ++
    [0, 0, 0, 0]

/-- A byte that the engine reads; nothing where the spec gives it no content, beyond the end of the inbound packet. -/
def engineByte (d : Dev) (p : Nat) (r : Run) (c a : Nat) : Option Byte :=
  if a < 0x2000 then some (Table.get 0 (d.polder p).dmem a)
  else if a < 0xA000 then some (d.windowByte r c (a - 0x8000))
  else if a < 0xA200 then
    match d.presented c with
    | some q => q.data[a - 0xA000]?
    | none => none
  else if a < 0xA400 then some (Table.get 0 (d.polder p).scratch (a - 0xA200))
  else some ((d.commonWindow p r c).getD (a - 0xC000) 0)

/-- `n` bytes that the engine reads, little-endian (R3), and the device after the free values they took. -/
def engineRead (p : Nat) (r : Run) (c : Nat) : Nat → Nat → Dev → Nat × Dev
  | 0, _, d => (0, d)
  | n + 1, a, d =>
    let (b, d) := match d.engineByte p r c a with
      | some b => (b.toNat, d)
      | none => (d.draw.1.toNat % 256, d.draw.2)
    let (v, d) := engineRead p r c n (a + 1) d
    (b + 256 * v, d)

/-- A load of `n` bytes, zero-extended. -/
def opLoad (n p : Nat) (w : BitVec 26) (d : Dev) : Dev :=
  let a := d.ea p w
  issue p (if a < 0x2000 then 2 else 3) (d.accessFault p w n false) (d.seqPc p) (fun d =>
    match d.current p with
    | some (r, x) =>
      let (v, d) := engineRead p r x.ctx n a d
      setGpr p (iD w) (BitVec.ofNat 32 v) d
    | none => d) d

/-- Bytes stored by the engine at an address that `mayStore` admits. -/
def engineWrite (p a : Nat) (bs : List Byte) (d : Dev) : Dev :=
  if a < 0x2000 then d.onPolder p fun y => { y with dmem := poke y.dmem a bs }
  else if 0xA200 ≤ a then d.onPolder p fun y => { y with scratch := poke y.scratch (a - 0xA200) bs }
  else d.onPolder p fun y => { y with run := y.run.map fun r =>
    { r with sheet := r.sheet.take (a - 0x8010) ++ bs ++ r.sheet.drop (a - 0x8010 + bs.length) } }

/-- A store of the low `n` bytes of rd. -/
def opStore (n p : Nat) (w : BitVec 26) (d : Dev) : Dev :=
  let a := d.ea p w
  let v := (d.gpr p (iD w)).toNat
  issue p 1 (d.accessFault p w n true) (d.seqPc p) (engineWrite p a (le n v)) d

/-! ### Control flow -/

/-- JMP and CALL take imm14[11:0]. -/
def opJmp (p : Nat) (w : BitVec 26) (d : Dev) : Dev := issue p 2 (if zeroI w then 0 else 1) (iImm w % 4096) id d

/-- CALL pushes PC + 1 on a stack of 8 entries. -/
def opCall (p : Nat) (w : BitVec 26) (d : Dev) : Dev :=
  let back := d.seqPc p % 4096
  let exc := if !zeroI w then 1 else if 8 ≤ (d.polder p).stack.length then 5 else 0
  issue p 2 exc (iImm w % 4096) (fun d => d.onPolder p fun y => { y with stack := back :: y.stack }) d

/-- RET pops. -/
def opRet (p : Nat) (w : BitVec 26) (d : Dev) : Dev :=
  let exc := if !zeroN w then 1 else if (d.polder p).stack = [] then 5 else 0
  issue p 2 exc ((d.polder p).stack.headD 0) (fun d => d.onPolder p fun y => { y with stack := y.stack.drop 1 }) d

/-! ### Instructions of the device -/

/-- The kind of the invocation in progress is ASPECT. -/
def inAspect (d : Dev) (p : Nat) : Bool := match d.current p with | some (_, x) => x.kind == 1 | none => false

/-- An instruction of the format without operands that acts on the context of the invocation. -/
def opCtx (p cycles : Nat) (w : BitVec 26) (legal : Bool) (f : Run → Prog → Dev → Dev) (d : Dev) : Dev :=
  issue p cycles (if zeroN w && legal then 0 else 1) (d.seqPc p) (fun d =>
    match d.current p with
    | some (r, x) => f r x d
    | none => d) d

/-- EMIT: the first one of an invocation counts (R337). -/
def opEmit (p : Nat) (w : BitVec 26) (d : Dev) : Dev :=
  opCtx p 4 w (!d.inAspect p) (fun r x d =>
    if r.emitted then d
    else supplySheet x.ctx r.m x.kind (Sheet.ofBytes r.m r.sheet)
      (d.onPolder p fun y => { y with run := some { r with emitted := true } })) d

/-- DEMAND: a rise of SAFEREQ sends the safe aspect at once (R339). -/
def opDemand (p : Nat) (w : BitVec 26) (d : Dev) : Dev :=
  opCtx p 1 w (d.inAspect p) (fun _ x d =>
    if d.flag (CTX_PSTAT_SAFEREQ x.ctx) then d else safeNow x.ctx (d.set (CTX_PSTAT_SAFEREQ x.ctx))) d

/-- NEXTP: the head record of the mailbox is removed (R340). -/
def nextProof (c : Nat) (d : Dev) : Dev :=
  let d := d.onCell c fun x => { x with mbx := x.mbx.drop 1 }
  d.put (CTX_MBX_PCOUNT c) (d.cell c).mbx.length

/-- NEXTB: the inbound packet is released (R341). -/
def nextBulk (c : Nat) (d : Dev) : Dev :=
  match d.laneOf c with
  | some L => if d.presented c = none then d else releaseIn L d
  | none => d

/-- POSTB: a packet of the scratch buffer is queued when a staging buffer is free (R342). -/
def postPacket (p c rd : Nat) (a b : Word) (d : Dev) : Dev :=
  match d.laneOf c with
  | some L =>
    let used := (d.lane L).staged.length + (d.lane L).unacked.length
    if d.flag (CTX_PROG_BMBX c) && decide (used < d.get CTX_ADMIT_CFG_CRED) then
      let q : Packet := { xid := b.toNat % 65536, first := a.getLsbD 16, last := a.getLsbD 17,
                          data := peekB (d.polder p).scratch 0 (a.toNat % 1024) }
      setGpr p rd 1 (d.onLane L fun x => { x with staged := x.staged ++ [q] })
    else setGpr p rd 0 d
  | none => setGpr p rd 0 d

/-- POSTB with its check of LEN. -/
def opPostb (p : Nat) (w : BitVec 26) (d : Dev) : Dev :=
  let a := d.gpr p (iA w)
  let b := d.gpr p (iB w)
  issue p 4 (if zeroR w && decide (a.toNat % 1024 ≤ 512) then 0 else 1) (d.seqPc p) (fun d =>
    match d.current p with
    | some (_, x) => postPacket p x.ctx (iD w) a b d
    | none => d) d

/-- MARK: bit 0 of the operand goes to FILLDONE (R348). -/
def opMark (p : Nat) (w : BitVec 26) (d : Dev) : Dev :=
  issue p 1 (if zeroI w && decide (iImm w < 2) then 0 else 1) (d.seqPc p) (fun d =>
    match d.current p with
    | some (_, x) => d.put (CTX_PSTAT_FILLDONE x.ctx) (iImm w)
    | none => d) d

/-- SIGNAL. -/
def opSignal (p : Nat) (w : BitVec 26) (d : Dev) : Dev :=
  issue p 1 (if zeroI w then 0 else 1) (d.seqPc p) (fun d =>
    match d.current p with
    | some (_, x) => ((d.put (PLD_CTRL_SIG p) (iImm w % 256)).put (PLD_CTRL_SIGCTX p) x.ctx).event (160 + p)
    | none => d) d

/-! ### The budget of the instruction at the PC -/

/-- Cycles of the instruction word `w` with opcode `op` if it is issued now (R333); a word that raises ILLEGAL takes one. -/
def cyclesOf (d : Dev) (p op : Nat) (w : BitVec 26) : Nat :=
  let a := d.gpr p (iD w)
  let b := d.gpr p (iA w)
  let br (t : Bool) : Nat := if t then 2 else 1
  match op with
  | 0x09 => 2
  | 0x0A => 3
  | 0x18 => if d.ea p w < 0x2000 then 2 else 3
  | 0x19 => if d.ea p w < 0x2000 then 2 else 3
  | 0x1A => if d.ea p w < 0x2000 then 2 else 3
  | 0x20 => br (a == b)
  | 0x21 => br (a != b)
  | 0x22 => br (a.slt b)
  | 0x23 => br (!a.slt b)
  | 0x24 => br (a.ult b)
  | 0x25 => br (!a.ult b)
  | 0x28 => 2
  | 0x29 => 2
  | 0x2A => 2
  | 0x30 => 4
  | 0x31 => 2
  | 0x36 => 2
  | 0x37 => 4
  | _ => 1

/-- The budget is exhausted: the next instruction in instruction memory would exceed it (R346). -/
def exhausted (p : Nat) (d : Dev) : Dev :=
  match d.current p with
  | none => d
  | some (r, x) =>
    let w := Table.get 0 (d.polder p).imem (d.polder p).pc
    if d.cyclesLeft r x.ctx < d.cyclesOf p (w.toNat / 2 ^ 26) (w.setWidth 26) then engineFail p 7 d else d

end Dev

/-! ### Meanings: runs -/

/-- POLDER_RUN_START (R325). -/
def execPolderRunStart (p : Fin 8) (s : State) : Host.Outcome State Fault Refusal := s.next (Dev.startRun p.val)

/-- RUN_DEADLINE (R327). -/
def execRunDeadline (p : Fin 8) (s : State) : Host.Outcome State Fault Refusal := s.next (Dev.overrun p.val)

/-- BUDGET_EXHAUSTED (R346, R347). -/
def execBudgetExhausted (p : Fin 8) (s : State) : Host.Outcome State Fault Refusal := s.next (Dev.exhausted p.val)

/-! ### Meanings: instructions (R333) -/

/-- PLD_NOP. -/
def execPldNop (p : Fin 8) (w : BitVec 26) (s : State) : Host.Outcome State Fault Refusal :=
  s.next fun d => Dev.issue p.val 1 (if Dev.zeroN w then 0 else 1) (d.seqPc p.val) id d
/-- PLD_ADD. -/
def execPldAdd (p : Fin 8) (w : BitVec 26) (s : State) : Host.Outcome State Fault Refusal :=
  s.next (Dev.opR p.val w 1 fun a b => a + b)
/-- PLD_SUB. -/
def execPldSub (p : Fin 8) (w : BitVec 26) (s : State) : Host.Outcome State Fault Refusal :=
  s.next (Dev.opR p.val w 1 fun a b => a - b)
/-- PLD_AND. -/
def execPldAnd (p : Fin 8) (w : BitVec 26) (s : State) : Host.Outcome State Fault Refusal :=
  s.next (Dev.opR p.val w 1 fun a b => a &&& b)
/-- PLD_OR. -/
def execPldOr (p : Fin 8) (w : BitVec 26) (s : State) : Host.Outcome State Fault Refusal :=
  s.next (Dev.opR p.val w 1 fun a b => a ||| b)
/-- PLD_XOR. -/
def execPldXor (p : Fin 8) (w : BitVec 26) (s : State) : Host.Outcome State Fault Refusal :=
  s.next (Dev.opR p.val w 1 fun a b => a ^^^ b)
/-- PLD_SHL. -/
def execPldShl (p : Fin 8) (w : BitVec 26) (s : State) : Host.Outcome State Fault Refusal :=
  s.next (Dev.opR p.val w 1 fun a b => a <<< (b.toNat % 32))
/-- PLD_SHR. -/
def execPldShr (p : Fin 8) (w : BitVec 26) (s : State) : Host.Outcome State Fault Refusal :=
  s.next (Dev.opR p.val w 1 fun a b => a >>> (b.toNat % 32))
/-- PLD_SAR. -/
def execPldSar (p : Fin 8) (w : BitVec 26) (s : State) : Host.Outcome State Fault Refusal :=
  s.next (Dev.opR p.val w 1 fun a b => a.sshiftRight (b.toNat % 32))
/-- PLD_MUL. -/
def execPldMul (p : Fin 8) (w : BitVec 26) (s : State) : Host.Outcome State Fault Refusal :=
  s.next (Dev.opR p.val w 2 fun a b => a * b)
/-- PLD_MULH. -/
def execPldMulh (p : Fin 8) (w : BitVec 26) (s : State) : Host.Outcome State Fault Refusal :=
  s.next (Dev.opR p.val w 3 fun a b => BitVec.ofInt 32 (a.toInt * b.toInt / 2 ^ 32))
/-- PLD_MIN. -/
def execPldMin (p : Fin 8) (w : BitVec 26) (s : State) : Host.Outcome State Fault Refusal :=
  s.next (Dev.opR p.val w 1 fun a b => if a.slt b then a else b)
/-- PLD_MAX. -/
def execPldMax (p : Fin 8) (w : BitVec 26) (s : State) : Host.Outcome State Fault Refusal :=
  s.next (Dev.opR p.val w 1 fun a b => if a.slt b then b else a)
/-- PLD_SLT. -/
def execPldSlt (p : Fin 8) (w : BitVec 26) (s : State) : Host.Outcome State Fault Refusal :=
  s.next (Dev.opR p.val w 1 fun a b => if a.slt b then 1 else 0)
/-- PLD_SLTU. -/
def execPldSltu (p : Fin 8) (w : BitVec 26) (s : State) : Host.Outcome State Fault Refusal :=
  s.next (Dev.opR p.val w 1 fun a b => if a.ult b then 1 else 0)
/-- PLD_ADDI. -/
def execPldAddi (p : Fin 8) (w : BitVec 26) (s : State) : Host.Outcome State Fault Refusal :=
  s.next (Dev.opI p.val w fun a => a + Dev.iSimm w)
/-- PLD_ANDI. -/
def execPldAndi (p : Fin 8) (w : BitVec 26) (s : State) : Host.Outcome State Fault Refusal :=
  s.next (Dev.opI p.val w fun a => a &&& Dev.immZ w)
/-- PLD_ORI. -/
def execPldOri (p : Fin 8) (w : BitVec 26) (s : State) : Host.Outcome State Fault Refusal :=
  s.next (Dev.opI p.val w fun a => a ||| Dev.immZ w)
/-- PLD_XORI. -/
def execPldXori (p : Fin 8) (w : BitVec 26) (s : State) : Host.Outcome State Fault Refusal :=
  s.next (Dev.opI p.val w fun a => a ^^^ Dev.immZ w)
/-- PLD_SHLI. -/
def execPldShli (p : Fin 8) (w : BitVec 26) (s : State) : Host.Outcome State Fault Refusal :=
  s.next (Dev.opI p.val w fun a => a <<< Dev.immS w)
/-- PLD_SHRI. -/
def execPldShri (p : Fin 8) (w : BitVec 26) (s : State) : Host.Outcome State Fault Refusal :=
  s.next (Dev.opI p.val w fun a => a >>> Dev.immS w)
/-- PLD_SARI. -/
def execPldSari (p : Fin 8) (w : BitVec 26) (s : State) : Host.Outcome State Fault Refusal :=
  s.next (Dev.opI p.val w fun a => a.sshiftRight (Dev.immS w))
/-- PLD_LUI: imm18 in bits [31:14]. -/
def execPldLui (p : Fin 8) (w : BitVec 26) (s : State) : Host.Outcome State Fault Refusal :=
  s.next fun d => Dev.issue p.val 1 (if Dev.zeroU w then 0 else 1) (d.seqPc p.val)
    (Dev.setGpr p.val (Dev.iD w) (BitVec.ofNat 32 (w.toNat % 2 ^ 18 * 2 ^ 14))) d
/-- PLD_LDW. -/
def execPldLdw (p : Fin 8) (w : BitVec 26) (s : State) : Host.Outcome State Fault Refusal :=
  s.next (Dev.opLoad 4 p.val w)
/-- PLD_LDH. -/
def execPldLdh (p : Fin 8) (w : BitVec 26) (s : State) : Host.Outcome State Fault Refusal :=
  s.next (Dev.opLoad 2 p.val w)
/-- PLD_LDB. -/
def execPldLdb (p : Fin 8) (w : BitVec 26) (s : State) : Host.Outcome State Fault Refusal :=
  s.next (Dev.opLoad 1 p.val w)
/-- PLD_STW. -/
def execPldStw (p : Fin 8) (w : BitVec 26) (s : State) : Host.Outcome State Fault Refusal :=
  s.next (Dev.opStore 4 p.val w)
/-- PLD_STH. -/
def execPldSth (p : Fin 8) (w : BitVec 26) (s : State) : Host.Outcome State Fault Refusal :=
  s.next (Dev.opStore 2 p.val w)
/-- PLD_STB. -/
def execPldStb (p : Fin 8) (w : BitVec 26) (s : State) : Host.Outcome State Fault Refusal :=
  s.next (Dev.opStore 1 p.val w)
/-- PLD_BEQ. -/
def execPldBeq (p : Fin 8) (w : BitVec 26) (s : State) : Host.Outcome State Fault Refusal :=
  s.next (Dev.opB p.val w fun a b => a == b)
/-- PLD_BNE. -/
def execPldBne (p : Fin 8) (w : BitVec 26) (s : State) : Host.Outcome State Fault Refusal :=
  s.next (Dev.opB p.val w fun a b => a != b)
/-- PLD_BLT. -/
def execPldBlt (p : Fin 8) (w : BitVec 26) (s : State) : Host.Outcome State Fault Refusal :=
  s.next (Dev.opB p.val w fun a b => a.slt b)
/-- PLD_BGE. -/
def execPldBge (p : Fin 8) (w : BitVec 26) (s : State) : Host.Outcome State Fault Refusal :=
  s.next (Dev.opB p.val w fun a b => !a.slt b)
/-- PLD_BLTU. -/
def execPldBltu (p : Fin 8) (w : BitVec 26) (s : State) : Host.Outcome State Fault Refusal :=
  s.next (Dev.opB p.val w fun a b => a.ult b)
/-- PLD_BGEU. -/
def execPldBgeu (p : Fin 8) (w : BitVec 26) (s : State) : Host.Outcome State Fault Refusal :=
  s.next (Dev.opB p.val w fun a b => !a.ult b)
/-- PLD_JMP. -/
def execPldJmp (p : Fin 8) (w : BitVec 26) (s : State) : Host.Outcome State Fault Refusal :=
  s.next (Dev.opJmp p.val w)
/-- PLD_CALL. -/
def execPldCall (p : Fin 8) (w : BitVec 26) (s : State) : Host.Outcome State Fault Refusal :=
  s.next (Dev.opCall p.val w)
/-- PLD_RET. -/
def execPldRet (p : Fin 8) (w : BitVec 26) (s : State) : Host.Outcome State Fault Refusal :=
  s.next (Dev.opRet p.val w)
/-- PLD_EMIT. -/
def execPldEmit (p : Fin 8) (w : BitVec 26) (s : State) : Host.Outcome State Fault Refusal :=
  s.next (Dev.opEmit p.val w)
/-- PLD_END (R338). -/
def execPldEnd (p : Fin 8) (w : BitVec 26) (s : State) : Host.Outcome State Fault Refusal :=
  s.next (Dev.opCtx p.val 2 w true fun _ _ => Dev.endInvocation p.val)
/-- PLD_DEMAND. -/
def execPldDemand (p : Fin 8) (w : BitVec 26) (s : State) : Host.Outcome State Fault Refusal :=
  s.next (Dev.opDemand p.val w)
/-- PLD_RELEASE (R339). -/
def execPldRelease (p : Fin 8) (w : BitVec 26) (s : State) : Host.Outcome State Fault Refusal :=
  s.next fun d => Dev.opCtx p.val 1 w (d.inAspect p.val) (fun _ x d => d.clr (CTX_PSTAT_SAFEREQ x.ctx)) d
/-- PLD_MARK. -/
def execPldMark (p : Fin 8) (w : BitVec 26) (s : State) : Host.Outcome State Fault Refusal :=
  s.next (Dev.opMark p.val w)
/-- PLD_NEXTP (R340). -/
def execPldNextp (p : Fin 8) (w : BitVec 26) (s : State) : Host.Outcome State Fault Refusal :=
  s.next (Dev.opCtx p.val 1 w true fun _ x => Dev.nextProof x.ctx)
/-- PLD_NEXTB (R341). -/
def execPldNextb (p : Fin 8) (w : BitVec 26) (s : State) : Host.Outcome State Fault Refusal :=
  s.next (Dev.opCtx p.val 2 w true fun _ x => Dev.nextBulk x.ctx)
/-- PLD_POSTB. -/
def execPldPostb (p : Fin 8) (w : BitVec 26) (s : State) : Host.Outcome State Fault Refusal :=
  s.next (Dev.opPostb p.val w)
/-- PLD_SIGNAL. -/
def execPldSignal (p : Fin 8) (w : BitVec 26) (s : State) : Host.Outcome State Fault Refusal :=
  s.next (Dev.opSignal p.val w)
/-- PLD_TIME: ns[31:0] of the polder's tideline replica. -/
def execPldTime (p : Fin 8) (w : BitVec 26) (s : State) : Host.Outcome State Fault Refusal :=
  s.next fun d => Dev.issue p.val 1 (if Dev.zeroR w then 0 else 1) (d.seqPc p.val)
    (fun d => Dev.setGpr p.val (Dev.iD w) (BitVec.ofNat 32 (d.now / 65536)) d) d

end Sys2Proof.Machine
end

