-- ==== Sys2Proof/Machine/BreachCmds.lean ====
section
/-! DEFINITION. The breach collector's commands (R456 to R472): raises, the grace timer, acknowledging and clearing, and
the fault injection. -/

namespace Sys2Proof.Machine

open Reg

namespace Dev

/-- What a double-bit error ends besides the raise of its source (R334, R375, R542, R24): the invocation of polder p,
the FIC program or the dike program (whose source 36 is raised with source 34), the management engine.  One that the
scrub before a restart finds makes that restart cold (R381). -/
def eccReact (s code : Nat) (d : Dev) : Dev :=
  if 8 ≤ s ∧ s < 16 then abandonRun (s - 8) 6 d
  else if s = 34 then
    if d.fic.prog ≠ 0 then ficFinish 5 false d
    else if d.dike.restart then d.onDike fun k => { k with cold := true }
    else if d.dike.running then dikeHalt 7 d.dike.pc d
    else d
  else if s = 47 then engineStop code d
  else d

/-- A double-bit error stops the dike program in progress (R375). -/
def eccStopsDike (d : Dev) : Bool := d.fic.prog == 0 && !d.dike.restart && d.dike.running

/-- Sources of R469 that stand for one memory each. -/
def oneMemory (s : Nat) : Bool := decide (s < 8) || [45, 47, 52].contains s

/-- A double error in the memory under injection shows during the window (R472); for a source of several memories the
operand of the read tells it. -/
def unsolicited (s : Nat) (d : Dev) : Dev :=
  if d.get BRCH_INJ_STAT_STATE = 1 ∧ d.brch.arm.src = s ∧ oneMemory s then d.onBrch fun b => { b with unsol := true } else d

/-- A source is raised, and with it others of the same hub cycle (R459, R460); `ecc` tells that its checker found a
double-bit error, at a word address and with a syndrome. -/
def raiseSources (s : Nat) (ecc : Bool) (addr code : Nat) (more : List (Nat × Nat × Nat)) (d : Dev) : Dev :=
  -- source 47 is raised by the stop of its engine (R629)
  let own := if s = 47 ∧ ecc ∧ !d.mgmt.stopped then [] else [(s, if ecc then addr else 0, code)]
  let own := if s = 34 ∧ ecc ∧ d.eccStopsDike then own ++ [(36, 0, 7)] else own
  let d := raiseAll (own ++ more) d
  -- R271: a raise of source 8 + p fails source S of a couch
  let d := if (own ++ more).any fun x => decide (8 ≤ x.1 ∧ x.1 < 16) && d.brch.on && !d.pinIgnored x.1 then d.couchSFail else d
  if !ecc then d else
  let d := eccReact s code (unsolicited s d)
  if d.brch.on && !d.pinIgnored s then (d.put (BRCH_DET_ADDR s) addr).clr (BRCH_DET_INJ s) else d

/-! ### Grace timer (R462) -/

def graceExpiry (d : Dev) : Dev :=
  if !d.flag BRCH_STATUS_GRACE then d else
  let old := d.standing
  let d := each (d.openFaults.filter fun s => decide (d.get (BRCH_EFF s) < d.get BRCH_CFG_GMAX))
    (fun s d => d.put (BRCH_EFF s) (d.get (BRCH_EFF s) + 1)) d
  (settleLevel old none (d.event 173)).settleGrace

/-! ### Acknowledging and clearing (R463, R464) -/

/-- The sources that the bits of word k name. -/
def sourcesOf (k : Nat) (v : Word) : List Nat := ((List.range 32).filter fun j => v.getLsbD j).map fun j => 32 * k + j

def acknowledge (k : Nat) (v : Word) (d : Dev) : Dev :=
  (each (sourcesOf k v) (fun s d => d.clr (BRCH_UNACK s)) d).settleGrace

/-- Why a sticky source is not cleared: 4 unacknowledged, 3 active; 0 when it is. -/
def clearRefusal (d : Dev) (s : Nat) : Nat :=
  if d.flag (BRCH_UNACK s) then 4 else if d.flag (BRCH_PIN s) then 3 else 0

def clearSource (s : Nat) (d : Dev) : Dev :=
  (((d.clr (BRCH_STICKY s)).clr (BRCH_DET_INJ s)).clr (BRCH_DET_UNSOL s)).clr (BRCH_EFF s)

def clearSources (k : Nat) (v : Word) (d : Dev) : Dev :=
  let old := d.standing
  let named := (sourcesOf k v).filter fun s => d.flag (BRCH_STICKY s)
  let result := match named.find? fun s => d.clearRefusal s ≠ 0 with
    | some s => d.clearRefusal s
    | none => 1
  let d := each (named.filter fun s => d.clearRefusal s = 0) clearSource d
  (settleLevel old none (d.put BRCH_STATUS_RESULT result)).settleGrace

/-! ### Fault injection (R469 to R472) -/

/-- Words of a memory under injection (R469, R480, R17); none for a pair that the table does not list. -/
def injectWords (src mem : Nat) : Option Nat :=
  if src < 8 then (if mem = 0 then some 65536 else none)
  else if src < 16 then (if mem = 0 then some 4096 else if mem = 1 then some 2048 else none)
  else if src = 24 then (if mem = 0 then some 131072 else if mem = 1 then some 32768 else none)
  else if src = 34 then (if mem = 0 then some 49152 else if mem = 1 ∨ mem = 2 then some 32768 else none)
  else if src = 45 then (if mem = 0 then some 524288 else none)
  else if src = 47 then (if mem = 0 then some 65536 else none)
  else if src = 52 then (if mem = 0 then some 1048576 else none)
  else none

def ones (w n : Nat) : Nat := ((List.range w).filter fun i => n.testBit i).length

def injectOk (d : Dev) : Bool :=
  (match injectWords (d.get BRCH_INJ_CTRL_SRC) (d.get BRCH_INJ_CTRL_MEM) with
   | some n => decide (d.get BRCH_INJ_ADDR_WORD < n)
   | none => false) &&
  (ones 7 (d.get BRCH_INJ_CTRL_MASK) == 1 || ones 7 (d.get BRCH_INJ_CTRL_MASK) == 2)

def injectGo (w : Word) (d : Dev) : Dev :=
  let n := w.toNat
  let d := ((d.put BRCH_INJ_CTRL_MASK (n / 2 ^ 16)).put BRCH_INJ_CTRL_MEM (n / 2 ^ 12)).put BRCH_INJ_CTRL_SRC n
  if d.get BRCH_INJ_STAT_STATE = 1 then d.put BRCH_INJ_STAT_RESULT 6
  else if d.injectOk then
    let arm : Injection := ⟨d.get BRCH_INJ_CTRL_SRC, d.get BRCH_INJ_ADDR_WORD, d.get BRCH_INJ_CTRL_MASK⟩
    (d.put BRCH_INJ_STAT_STATE 1).onBrch fun b => { b with unsol := false, arm := arm }
  else (d.put BRCH_INJ_STAT_STATE 0).put BRCH_INJ_STAT_RESULT 5

/-- An armed injection ends (event 175). -/
def injectEnd (result : Nat) (d : Dev) : Dev :=
  if d.get BRCH_INJ_STAT_STATE = 1 then ((d.put BRCH_INJ_STAT_STATE 2).put BRCH_INJ_STAT_RESULT result).event 175 else d

/-- The checker's result at the armed word (R471): the double-bit result raises the source, injected or real. -/
def injectedRead (synd : Nat) (dbl other : Bool) (d : Dev) : Dev :=
  if d.get BRCH_INJ_STAT_STATE ≠ 1 then d else
  let s := d.brch.arm.src
  let mask := d.brch.arm.mask
  let dbl := if synd = mask then ones 7 mask == 2 else dbl
  let pure := synd == mask && !other && !d.brch.unsol
  let d := (injectEnd (if pure then 1 else 2) d).put BRCH_INJ_STAT_SYND synd
  let d := if dbl then
      raiseSources s true d.brch.arm.word synd [] d
    else if s < 16 then d.count (0x2000 + 1024 * (s % 8) + 34) 4 1
    else d
  if pure then d.set (BRCH_DET_INJ s) else d.set (BRCH_DET_UNSOL s)

end Dev

open Dev

/-- `more`: sources raised in the same hub cycle, with their codes. -/
def execBreachRaise (src : Fin 64) (ecc : Bool) (addr : BitVec 24) (code : Byte) (more : List (Fin 64 × Byte))
    (s : State) := s.next
  (raiseSources src.val ecc addr.toNat code.toNat (more.map fun x => (x.1.val, 0, x.2.toNat)))

def execGraceExpiry (s : State) := s.next graceExpiry

/-- A write of BRCH_ACK; a FIC write has no effect (R539). -/
def execBreachAck (path : Path) (k : Fin 2) (v : Word) (s : State) := s.next fun d =>
  if path = .fic then d else acknowledge k.val v d

/-- A write of BRCH_STICKY; a FIC write has no effect (R539). -/
def execBreachClear (path : Path) (k : Fin 2) (v : Word) (s : State) := s.next fun d =>
  if path = .fic then d else clearSources k.val v d

def execInjectGo (path : Path) (w : Word) (s : State) := s.next (keyedAct path 0x20080 (injectGo w))

def execInjectAbort (path : Path) (s : State) := s.next (keyedAct path 0x20080 (injectEnd 4))

/-- The first checked read of the armed word: the syndrome seen, whether the checker sees a double-bit error, and whether
another word of the memory showed an error during the window. -/
def execInjectedRead (synd : BitVec 7) (dbl other : Bool) (s : State) := s.next (injectedRead synd.toNat dbl other)

def execInjectTimeout (s : State) := s.next (injectEnd 3)

end Sys2Proof.Machine
end

