-- ==== Sys2Proof/Machine/Key.lean ====
section
/-! DEFINITION. The SERVICE key sequence (R622 to R626). -/

namespace Sys2Proof.Machine

open Reg

namespace Dev

/-- A write arrives on the path that the sequence belongs to. -/
def ownsKey (d : Dev) (path : Path) : Bool := path != .fic && pathNo path == d.key.owner

/-- The sequence closes and SERVICE is left at the next boundary (R624, R56). -/
def closeKey (cause : Nat) (d : Dev) : Dev := (keyClose cause d).leaveService

/-- A failed write consumes the MATCH, and closes an open sequence (R623). -/
def keyFailed (d : Dev) : Dev := if d.flag GLB_KEY_STAT_OPEN then closeKey 3 d else d.clr GLB_KEY_STAT_STEP

/-- The sequence is refused in the RETIRED state and while the management engine is stopped (R622). -/
def keyRefused (d : Dev) : Bool := d.lcs == 3 || d.mgmt.stopped

/-- The second key word (R622): KEY_OPEN is staged before the sequence opens. -/
def keyOpen (d : Dev) : Dev :=
  if d.logFull then d else ((stage 0xB [] d).set GLB_KEY_STAT_OPEN |>.put GLB_KEY_STAT_STEP 3).keyUsed

/-- A write of GLB_KEY (R622, R623). -/
def keyWrite (path : Path) (v : Nat) (d : Dev) : Dev :=
  if d.flag GLB_KEY_STAT_OPEN then
    if v = 0 ∧ d.ownsKey path then closeKey 1 d else d.keyFailed
  else if d.get GLB_KEY_STAT_STEP = 1 ∧ v = 0x5E12 ∧ d.ownsKey path then
    if d.keyRefused then d.clr GLB_KEY_STAT_STEP else d.put GLB_KEY_STAT_STEP 2
  else if d.get GLB_KEY_STAT_STEP = 2 ∧ v = 0xA1ED ∧ d.ownsKey path then
    if d.keyRefused then d.clr GLB_KEY_STAT_STEP else d.keyOpen
  else d.keyFailed

end Dev

open Dev

def execKeyFirst (path : Path) (s : State) := s.next (keyWrite path 0x5E12)

def execKeySecond (path : Path) (s : State) := s.next (keyWrite path 0xA1ED)

def execKeyClose (path : Path) (s : State) := s.next (keyWrite path 0)

/-- A write of GLB_KEY with any word: one that R622 expects counts as the step it is. -/
def execKeyFailedWrite (path : Path) (v : BitVec 16) (s : State) := s.next (keyWrite path v.toNat)

/-- The 10 s or the 1 s of a step pass. -/
def execKeyStepTimeout (s : State) := s.next fun d =>
  if d.flag GLB_KEY_STAT_OPEN then d else d.clr GLB_KEY_STAT_STEP

def execKeyIdleTimeout (s : State) := s.next fun d => if d.flag GLB_KEY_STAT_OPEN then closeKey 2 d else d

end Sys2Proof.Machine
end

