-- ==== Sys2Proof/Machine/Ledger.lean ====
section
/-! DEFINITION. The ledger (chapter 18: R555 to R564) and the commands of event reporting (R566 to R569). -/

namespace Sys2Proof.Machine

open Reg

namespace Dev

/-! ### The ledger tick (R555, R557, R558, R563) -/

/-- The management engine is stopped, or its memory is under test 53 (R24, R487): no ledger work is done. -/
def ledgerIdle (d : Dev) : Bool := d.mgmt.stopped || d.bist.run.contains 53

/-- The register file shows the powered seconds and the ledger week. -/
def showTime (d : Dev) : Dev :=
  (d.put2 LDG_SECS_LO LDG_SECS_HI d.powered).put LDG_STATUS_WEEK (d.powered / 604800)

/-- A second of a lane whose driver was enabled, at a mean set current in 0.25 mA (R557). -/
def litSecond (L mean : Nat) (d : Dev) : Dev :=
  (d.count (0x4000 + 128 * L) 4 1).onLdg fun l => { l with charge := Table.put 0 l.charge L (Table.get 0 l.charge L + mean) }

/-- The temperature band of R558 of a junction temperature in 0.5 °C: below −20 °C, seven bands from there on. -/
def bandOf (t : Int) : Nat := if t < -40 then 0 else min ((t + 40) / 40 + 1).toNat 7

/-- A second of a polder at a junction temperature: its band, and the peak, which is signed (R558). -/
def heatSecond (p : Nat) (t : Int) (d : Dev) : Dev :=
  let d := d.count (0x2000 + 1024 * p + 4 * bandOf t) 4 1
  let old := sgn 16 (nat (peekB d.ldg.mram (0x2000 + 1024 * p + 32) 2))
  if old < t then d.onLdg fun l => { l with mram := poke l.mram (0x2000 + 1024 * p + 32) (le 2 (unsgn 16 t)) } else d

/-- The 8 bytes of scrub state in the device record (R556), whose form the spec leaves open. -/
def showScrub (d : Dev) : Dev :=
  let (a, d) := d.draw
  let (b, d) := d.draw
  d.onLdg fun l => { l with mram := poke l.mram 16 (le 4 a.toNat ++ le 4 b.toNat) }

/-- A double-bit error at a word of the MRAM: source 45, a history entry, and the word reads 0 (R563). -/
def scrubError (w : Nat) (d : Dev) : Dev :=
  let d := (d.history 5 [w % 256, w / 256 % 256, w / 65536]).onLdg fun l =>
    { l with mram := poke l.mram (4 * w) [0, 0, 0, 0] }
  (d.breach 45 0).put (BRCH_DET_ADDR 45) w

/-- 4,096 words of a running scrub; the end of a pass clears SCRUB and raises event 189 (R563, R565). -/
def scrubTick (dbl : Option Nat) (d : Dev) : Dev :=
  match d.ldg.scrub with
  | none => d
  | some w =>
    let d := match dbl with
      | some x => if w ≤ x ∧ x < w + 4096 then scrubError x d else d
      | none => d
    if w + 4096 < 524288 then (d.onLdg fun l => { l with scrub := some (w + 4096) }).showScrub
    else ((d.onLdg fun l => { l with scrub := none, scrubAt := d.powered }).showScrub.clr LDG_STATUS_SCRUB).event 189

/-- A second of the password lockout passes (R518). -/
def lockTick (d : Dev) : Dev :=
  if d.mgmt.lock = 0 then d else
  let d := d.onMgmt fun m => { m with lock := m.lock - 1 }
  let m := poke d.ldg.mram 64 (le 4 d.mgmt.lock)
  (d.onLdg fun l => { l with mram := m }).put WMK_PWD_CTRL_LOCKREM d.mgmt.lock

def ledgerTick (lit : List (Nat × Nat)) (temps : List Int) (dbl : Option Nat) (d : Dev) : Dev :=
  if d.ledgerIdle then d else
  let d := (d.count 0 8 1).showTime
  let d := each lit (fun e d => litSecond e.1 e.2 d) d
  let d := each ((temps.take 8).zipIdx) (fun e d => heatSecond e.2 e.1 d) d
  scrubTick dbl d.lockTick

/-! ### Trends (R560 to R562) -/

/-- A quotient as an integer.  The spec states no rounding: a quotient that is no integer is one of its two neighbours,
by a free value. -/
def quotient (num : Int) (den : Nat) (d : Dev) : Int × Dev :=
  if num % (den : Int) = 0 then (num / (den : Int), d)
  else
    let (w, d) := d.draw
    (num / (den : Int) + (w.toNat % 2 : Nat), d)

def total (xs : List Nat) : Nat := xs.foldl (· + ·) 0

/-- The mean RSSI of a trend interval of a lane that reads UP (R560), with its ION. -/
def trendMean (L mean : Nat) (d : Dev) : Dev :=
  if d.get (LANE_LINK_STATE L) ≠ 4 then d else
  let ion := d.get (LANE_CFG_ION L)
  d.onLdg fun l =>
    { l with means := Table.put [] l.means L (Table.get [] l.means L ++ [mean]),
             ions := Table.put [] l.ions L (Table.get [] l.ions L ++ [ion]) }

/-- MRAM offset of the weekly record of lane L for week w (R556). -/
def weekAt (w L : Nat) : Nat := 0x10000 + 4 * (144 * (w % 1344) + L)

/-- The weekly record of a lane, and its baseline when this is its first weekly mean since it was first bound
(R557, R560). -/
def weekRecord (w L : Nat) (d : Dev) : Dev :=
  let ms := Table.get [] d.ldg.means L
  let put (bs : List Byte) (d : Dev) : Dev := d.onLdg fun l => { l with mram := poke l.mram (weekAt w L) bs }
  if ms = [] then put [0xFF, 0xFF, 0xFF, 0x00] d
  else
    let (mean, d) := d.quotient (total ms) ms.length
    let (ion, d) := d.quotient (total (Table.get [] d.ldg.ions L)) ms.length
    let d := put [BitVec.ofInt 8 mean, BitVec.ofNat 8 (ms.foldl min 255), BitVec.ofInt 8 ion,
      BitVec.ofNat 8 (min ms.length 255)] d
    if Table.get false d.ldg.bound L && !Table.get false d.ldg.base L then
      d.onLdg fun l =>
        { l with base := Table.put false l.base L true
                 mram := poke l.mram (0x4000 + 128 * L + 8) ([BitVec.ofInt 8 mean, 0] ++ le 2 w) }
    else d

/-- The weekly means with a non-zero count from week w back, newest first, as (week, mean); `n` weeks are looked at. -/
def weekly (d : Dev) (L : Nat) : Nat → Nat → List (Nat × Nat)
  | _, 0 => []
  | w, n + 1 =>
    let r := peekB d.ldg.mram (weekAt w L) 4
    let rest := if w = 0 then [] else d.weekly L (w - 1) n
    if r.getD 3 0 = 0 then rest else (w, (r.getD 0 0).toNat) :: rest

/-- The slope of R561 as a fraction: n·Σ(w − w̄)(r − r̄) and n·Σ(w − w̄)². -/
def slopeOf (ps : List (Nat × Nat)) : Int × Nat :=
  let n := ps.length
  let sw := total (ps.map (·.1))
  let sr := total (ps.map (·.2))
  ((n * total (ps.map fun p => p.1 * p.2) : Nat) - (sw * sr : Nat),
    n * total (ps.map fun p => p.1 * p.1) - sw * sw)

/-- The margin M in LDG_LVIEW; the spec states no value above the field's largest. -/
def viewM (m : Int) (d : Dev) : Nat × Dev :=
  if m ≤ 127 then (unsgn 8 m, d) else (d.draw.1.toNat % 256, d.draw.2)

/-- The slope in LDG_LVIEW: in 1/64 code per week, saturating (R570). -/
def viewSlope (s : Int × Nat) (d : Dev) : Nat × Dev :=
  let (q, d) := d.quotient (64 * s.1) s.2
  (unsgn 8 (max (-128) (min 127 q)), d)

/-- The predicted weeks in LDG_LVIEW: 0xFFFF for none; the spec states no value for a negative margin or for weeks that
do not fit. -/
def viewH (m : Int) (s : Int × Nat) (d : Dev) : Nat × Dev :=
  if 0 ≤ s.1 then (0xFFFF, d)
  else
    let (q, d) := d.quotient (m * (s.2 : Int)) (-s.1).toNat
    if 0 ≤ q ∧ q < 0xFFFF then (q.toNat, d) else (d.draw.1.toNat % 65536, d.draw.2)

/-- A WARN bit of a lane is set; a bit newly set adds a history entry and raises event 189 (R562). -/
def warnBit (L bit : Nat) (cond : Bool) (d : Dev) : Dev :=
  let at' := 0x4000 + 128 * L + 24
  let old := (Table.get 0 d.ldg.mram at').toNat
  if cond && !old.testBit bit then
    let d := (d.history 6 [L, bit]).onLdg fun l => { l with mram := poke l.mram at' [BitVec.ofNat 8 (old + 2 ^ bit)] }
    (d.set (LDG_WARN L)).event 189
  else d

/-- LITSEC of a lane with the seconds since the latest commit. -/
def litSeconds (d : Dev) (L : Nat) : Nat :=
  nat (peekB d.ldg.mram (0x4000 + 128 * L) 4) + Table.get 0 d.ldg.acc (16 * (0x4000 + 128 * L) + 4)

/-- The evaluation of a lane at the end of week w (R561, R562). -/
def evaluateLane (w L : Nat) (d : Dev) : Dev :=
  let ps := (d.weekly L w 1344).take 26
  if !Table.get false d.ldg.base L || ps.length < 13 then d else
  let m : Int := ((ps.headD (0, 0)).2 : Int) - 56
  let s := slopeOf ps
  let (vm, d) := d.viewM m
  let (vs, d) := d.viewSlope s
  let (vh, d) := d.viewH m s
  let d := d.onLdg fun l => { l with view := Table.put (0, 0, 0xFFFF) l.view L (vm, vs, vh) }
  let d := warnBit L 0 (decide (m < (d.get LDG_AGE_MARGIN : Int))) d
  let d := warnBit L 1 (decide (s.1 < 0) && decide (m * (s.2 : Int) < (d.get LDG_AGE_HORIZON : Int) * (-s.1))) d
  warnBit L 2 (decide (d.get LDG_AGE_LEDH * 3600000 < d.litSeconds L)) d

/-- A ledger week has ended (R560, R561). -/
def weekRollover (d : Dev) : Dev :=
  if d.ledgerIdle || d.powered / 604800 == 0 then d else
  let w := d.powered / 604800 - 1
  let d := each allLanes (weekRecord w) d
  let d := d.onLdg fun l => { l with means := [], ions := [] }
  each allLanes (evaluateLane w) d

/-- The WARN bits of a lane are cleared by the host (R570). -/
def clearWarn (L : Nat) (d : Dev) : Dev :=
  (d.onLdg fun l => { l with mram := poke l.mram (0x4000 + 128 * L + 24) [0] }).clr (LDG_WARN L)

/-- The lanes that the bits of word k name. -/
def lanesOfWord (k : Nat) (v : Word) : List Nat :=
  (((List.range 32).filter fun j => v.getLsbD j).map fun j => 32 * k + j).filter fun L => decide (L < 144)

/-- A word of the MRAM page in the window; 0 and RESULT = BUSY while the management engine is stopped (R564). -/
def windowWord (off : Nat) (d : Dev) : Nat × Dev :=
  if d.mgmt.stopped then (0, d.put LDG_STATUS_RESULT 2)
  else (nat (peekB d.ldg.mram (32768 * d.get LDG_PAGE_PAGE + 4 * off) 4), d)

/-! ### Events (R567) -/

/-- Event sources of a word k that the bits of v name. -/
def eventsOf (k : Nat) (v : Word) : List Nat := ((List.range 32).filter fun j => v.getLsbD j).map fun j => 32 * k + j

/-- EVT_EN(k) takes a value; a source whose bit is set while it is pending sends its message. -/
def enableEvents (k : Nat) (v : Word) (d : Dev) : Dev :=
  each ((List.range 32).map fun j => (32 * k + j, v.getLsbD j)) (fun e d =>
    let rise := e.2 && !d.flag (EVT_EN e.1)
    let d := d.putB (EVT_EN e.1) e.2
    if rise && d.flag (EVT_PEND e.1) then d.message (d.get (EVT_MAP e.1)) else d) d

/-- The message of a vector whose pending bit is set goes out once neither it nor the function is masked. -/
def releaseVector (v : Nat) (d : Dev) : Dev :=
  if !d.pcie.fnMask && !d.pcie.mask.testBit v && d.pcie.pba.testBit v then
    (d.onPcie fun p => { p with pba := p.pba - 2 ^ v }).send (.msix v)
  else d

def unmask (fn : Bool) (v : Nat) (d : Dev) : Dev :=
  if fn then each (List.range 32) releaseVector (d.onPcie fun p => { p with fnMask := false })
  else releaseVector v (d.onPcie fun p => { p with mask := if p.mask.testBit v then p.mask - 2 ^ v else p.mask })

end Dev

open Dev

/-- The operands: the lanes whose LED driver was enabled for at least one symbol of the second, each with its mean set
current in 0.25 mA; the junction temperatures of the polders in 0.5 °C; a word in which the scrub finds a double-bit
error. -/
def execLedgerTick (lit : List (Fin 144 × Byte)) (temps : List (BitVec 16)) (dbl : Option (BitVec 19)) (s : State) :=
  s.next (ledgerTick (lit.map fun e => (e.1.val, e.2.toNat)) (temps.map BitVec.toInt) (dbl.map BitVec.toNat))

/-- Ten powered seconds have passed since the previous commit (R555). -/
def execLedgerCommit (s : State) := s.next fun d => if d.ledgerIdle then d else d.commit

/-- The operands: the mean of LANE_LINK(L).RSSI over the interval for each lane that read UP throughout it. -/
def execTrendInterval (means : List (Fin 144 × Byte)) (s : State) := s.next fun d =>
  if d.ledgerIdle then d else each means (fun e d => trendMean e.1.val e.2.toNat d) d

def execWeekRollover (s : State) := s.next weekRollover

def execWarnClear (k : Fin 5) (v : Word) (s : State) := s.next (each (lanesOfWord k.val v) clearWarn)

/-- `off` is the word offset in the window. -/
def execLedgerWindowRead (off : BitVec 13) (s : State) := s.next fun d =>
  (windowWord off.toNat d).2.send (.read (windowWord off.toNat d).1)

def execEventEnable (k : Fin 6) (v : Word) (s : State) := s.next (enableEvents k.val v)

/-- `fn`: the mask of the function goes; otherwise the mask of vector v. -/
def execMsixUnmask (fn : Bool) (v : Fin 32) (s : State) := s.next (unmask fn v.val)

/-- SAFE_N goes low while no mode word has reached the terp island for 100 µs (R569). -/
def execModeWordTimeout (s : State) := s.next fun d => d.clr EVT_STATUS_LINKOK

end Sys2Proof.Machine
end

