-- ==== Sys2Proof/Machine/Power.lean ====
section
/-! DEFINITION. Supplies, temperature and reset (chapter 19): the rails and their actions (R575), thermal protection
(R589), the reset sources and reset release (R581, R582, R584), and the retention supply (R543, R576).

Rails are numbered as PWR_STATUS.WARN orders them: 0 VCORE, 1 VSER, 2 VANA, 3 VIO, 4 VOPT, 5 VRET. -/

namespace Sys2Proof.Machine

open Reg

namespace Dev

/-! ### Breach conditions of the supplies (R575, R629) -/

/-- Rails of source 32 (VCORE, VSER, VRET) and of source 33 (VANA, VIO, VOPT). -/
def railMask (s : Nat) : Nat := if s = 32 then 0b100011 else 0b011100

def railSource (rail : Nat) : Nat := if (railMask 32).testBit rail then 32 else 33

/-- State sources of the monitors begin or end; their beginning cuts short the running tests (R485). -/
def monitor (cs : List (Nat × Bool × Nat)) (d : Dev) : Dev :=
  let cut := cs.any fun x => x.2.1 && !d.brch.cond.testBit x.1
  let d := d.breachConds cs
  if cut then d.bistCut else d

/-- The conditions of sources 32 and 33. -/
def railConds (d : Dev) (code : Nat) : List (Nat × Bool × Nat) :=
  [32, 33].map fun s => (s, d.brch.rails &&& railMask s != 0, code)

/-- The rails outside their window as the device shows them; sources 32 and 33 follow while the core die is out of
reset. -/
def showRails (code : Nat) (d : Dev) : Dev :=
  let d := d.put PWR_STATUS_WARN d.brch.rails
  if d.awake then monitor (d.railConds code) d else d

def railWarning (rail : Nat) (d : Dev) : Dev :=
  (d.onBrch fun b => { b with rails := b.rails ||| 2 ^ rail }).showRails rail

def railRecover (rail : Nat) (d : Dev) : Dev :=
  (d.onBrch fun b => { b with rails := if b.rails.testBit rail then b.rails - 2 ^ rail else b.rails }).showRails rail

/-! ### Device reset (R581 to R584, R592) -/

/-- Registers that outlast a reset of the core die: PWR_STATUS, PWR_RST and LOCKSENSE, which show what lies outside it;
the berm's registers; the masks by which the berm knows its safety inputs and outputs; the fuses LANE_TCAL (R81). -/
def outlasts (key : Nat) : Bool :=
  key / 32 == 0x80 || key / 32 == 0x88 || key == TIDE_STATUS_LOCKSENSE.key ||
    (decide (0xA0000 ≤ key / 32) && decide (key / 32 < 0xA0400)) || key / 32 == 0x90018 || key / 32 == 0x9001C ||
    allLanes.any fun L => key / 32 == laneOff L + 0x24

/-- The berm keeps its own side; the terp island's side of the channel starts anew. -/
def bermSide (b : Berm) : Berm :=
  { powered := b.powered, ins := b.ins, outs := b.outs.map fun e => (e.1, { e.2 with okSince := e.2.okSince.map fun _ => 0 }),
    toBerm := b.toBerm, toTerp := b.toTerp, bermSeq := b.bermSeq, rxSeq := b.rxSeq, silent := b.silent,
    goodRun := b.goodRun, selfOk := b.selfOk, pulse := b.pulse, sag := b.sag, ovf := b.ovf, under := b.under, good := b.good,
    dropHeld := b.dropHeld }

/-- What the management island keeps in the flash, in the ledger MRAM, in fuses and in the retention area. -/
def mgmtSide (m : Mgmt) : Mgmt :=
  { flash := m.flash, staged := m.staged, logN := m.logN, digest := m.digest, fails := m.fails, lock := m.lock,
    fuse := m.fuse, retained := m.retained }

/-- The core die as a reset leaves it. -/
def coreFresh (d : Dev) : Dev :=
  { regs := d.regs.filter fun e => outlasts e.1
    free := d.free
    out := d.out
    tide := { refLost := d.tide.refLost }
    brch := { on := false, clk := d.brch.clk, rails := d.brch.rails }
    ldg := { d.ldg with acc := [], charge := [], view := [] }
    berm := bermSide d.berm
    mgmt := mgmtSide d.mgmt
    bist := { bad := d.bist.bad, soft := d.bist.soft, fused := d.bist.fused }
    pwr := d.pwr }

/-- The frame with every output OFF that the channel master still sends (R584). -/
def finalFrame (d : Dev) : Dev :=
  if d.berm.masterOff then d else
  let seq := (d.berm.txSeq + 1) % 256
  (d.onBerm fun b => { b with toBerm := some ⟨seq, 0, false, false, false, false⟩ }).send (.iso 0 seq)

/-- PWR_RST records a source of a reset (R592). -/
def recordReset (fresh : Bool) (src rail : Nat) (d : Dev) : Dev :=
  let d := if fresh then
      ((((d.inc PWR_RST_COUNT).clr PWR_RST_POR).clr PWR_RST_PIN).clr PWR_RST_SUPPLY).clr PWR_RST_THERMAL |>.put PWR_RST_RAIL 0xF
    else d
  match src with
  | 0 => d.set PWR_RST_POR
  | 1 => (d.set PWR_RST_SUPPLY).put PWR_RST_RAIL rail
  | 2 => d.set PWR_RST_THERMAL
  | _ => d.set PWR_RST_PIN

/-- A reset source acts: 0 power-on, 1 supply, 2 thermal, 3 RESET_N.  RESET_N and the thermal source let one more frame
go to the berm. -/
def coreReset (src rail : Nat) (d : Dev) : Dev :=
  let fresh := d.awake
  let d := if fresh then
      let d := if src = 2 ∨ src = 3 then d.finalFrame else d
      d.takeRetained.coreFresh
    else d
  let p := d.pwr
  recordReset fresh src rail
    { d with pwr := { p with held := p.held ||| 2 ^ src, acted := (if fresh then 0 else p.acted) ||| 2 ^ src } }

/-- GLB_START.SRC of a reset: the first source in the order power-on, supply, thermal, RESET_N (R582). -/
def resetSrc (acted : Nat) : Nat :=
  if acted.testBit 0 then 0 else if acted.testBit 1 || acted.testBit 2 then 4 else 1

/-- The ledger's registers as the MRAM has them (R570), and those of the password, the log and the repairs. -/
def showKept (d : Dev) : Dev :=
  let d := d.showTime.showMgmt
  let d := each allLanes (fun L d => d.putB (LDG_WARN L) (Table.get 0 d.ldg.mram (0x4000 + 128 * L + 24) != 0)) d
  let d := d.putB LDG_STATUS_SCRUB d.ldg.scrub.isSome
  let d := (d.put WMK_LOG_STAT_STAGED (min 16 d.mgmt.staged.length)).put WMK_LOG_NEXT_NEXT d.mgmt.logN
  let d := (d.put BIST_REPCNT_SOFT d.bist.soft.length).put BIST_REPCNT_FUSED d.bist.fused.length
  d.put LCS_STATE_STATE d.mgmt.fuse

/-- The collector evaluates its pins for the first time: conditions that stand are raised in that cycle (R456). -/
def firstEvaluation (d : Dev) : Dev :=
  let d := (d.onBrch fun b => { b with on := true }).put PWR_STATUS_WARN d.brch.rails
  d.breachConds ([(30, d.brch.clk != 0, 0), (31, d.flag PWR_STATUS_THOT, 0), (51, d.lampBreach, d.get CAB_STATUS_REASON)] ++
    d.railConds 0)

/-- Bytes that an external programmer has written into the flash during the reset (R502). -/
def programmed (prog : List (Nat × List Byte)) (d : Dev) : Dev := each prog (fun e d => flashPut e.1 e.2 d) d

/-- Reset release (R582): LOAD begins. -/
def resetRelease (prog : List (Nat × List Byte)) (d : Dev) : Dev :=
  if d.awake || d.pwr.held.testBit 2 || d.tide.refLost then d else
  let acted := d.pwr.acted
  let d := programmed prog d
  let d := (d.put GLB_START_SRC (resetSrc acted)).putB GLB_START_RETOK d.pwr.retOk
  let d := (d.putB GLB_START_WVALID d.mgmt.retained.wvalid).set PWR_STATUS_REFCLK
  let d := { d with pwr := { held := 0, acted := 0, retOk := true } }
  let d := if acted.testBit 0 then d.count 8 4 1 else d
  -- R48: the transition into LOAD raises event 191
  (d.ledgerLoad.showKept.firstEvaluation).event 191

/-- The retention area and PWR_RST are lost (R543, R576). -/
def retentionLoss (d : Dev) : Dev :=
  let d := d.onMgmt fun m => { m with retained := {} }
  let d := { d with pwr := { d.pwr with retOk := false } }
  ((((((d.clr GLB_START_WVALID).clr PWR_RST_COUNT).clr PWR_RST_POR).clr PWR_RST_PIN).clr PWR_RST_SUPPLY).clr
    PWR_RST_THERMAL).put PWR_RST_RAIL 0xF

/-! ### Actions of the rails (R575) -/

/-- The serialisers stop: the sluice lanes lose sync (R221) and the PCIe link goes down (R284). -/
def serialisersOff (d : Dev) : Dev :=
  let d := d.set PWR_STATUS_SEROFF
  if !d.awake then d else
  (each [0, 1] (fun k d => if d.sluUp k then setSluState k 1 d else d) d).refreshSluice.linkDown

def railAction (rail : Nat) (d : Dev) : Dev :=
  match rail with
  | 0 => coreReset 1 0 d
  | 1 => serialisersOff d
  | 2 => coreReset 1 2 d
  | 3 => coreReset 1 3 d
  | 4 => d.set PWR_STATUS_OPTOFF
  | _ => d

/-! ### Temperature (R589, R591) -/

/-- A reading of a sensor in PWR_TEMP: TMAX follows its own sensor, and any sensor that reads higher. -/
def reading (sensor : Nat) (t : Byte) (d : Dev) : Dev :=
  let above (f : Fld) : Bool := decide (sgn 8 (d.get f) < t.toInt)
  let d := if above PWR_TEMP_TMAX || d.get PWR_TEMP_SENS == sensor then
    (d.put PWR_TEMP_TMAX t.toNat).put PWR_TEMP_SENS sensor else d
  if d.get PWR_TEMP_PEAK = 0x80 ∨ sgn 8 (d.get PWR_TEMP_PEAK) < t.toInt then
    (d.put PWR_TEMP_PEAK t.toNat).put PWR_TEMP_PSENS sensor else d

/-- Source 31 and THOT. -/
def hot (b : Bool) (d : Dev) : Dev :=
  let d := d.putB PWR_STATUS_THOT b
  if d.awake then monitor [(31, b, 0)] d else d

def cooldown (sensor : Nat) (t : Byte) (d : Dev) : Dev :=
  let d := if d.awake then (reading sensor t d).put PWR_TEMP_TMAX t.toNat |>.put PWR_TEMP_SENS sensor else d
  let d := if t.toInt ≤ 108 then hot false d else d
  if t.toInt ≤ 100 ∧ d.pwr.held.testBit 2 then { d with pwr := { d.pwr with held := d.pwr.held - 4 ||| 16 } } else d

end Dev

open Dev

def execRailWarning (rail : Fin 6) (s : State) := s.nextAlways (railWarning rail.val)

def execRailRecover (rail : Fin 6) (s : State) := s.nextAlways (railRecover rail.val)

def execRailAction (rail : Fin 6) (s : State) := s.nextAlways (railAction rail.val)

def execSerialiserRestart (s : State) := s.nextAlways fun d => d.clr PWR_STATUS_SEROFF

def execLedDriverRestore (s : State) := s.nextAlways fun d => d.clr PWR_STATUS_OPTOFF

/-- `t` is what the sensor reads, in °C. -/
def execThermalWarning (sensor : Fin 11) (t : Byte) (s : State) := s.nextAlways fun d =>
  let d := if d.awake then reading sensor.val t d else d
  if 113 ≤ t.toInt then hot true d else d

def execThermalReset (sensor : Fin 11) (t : Byte) (s : State) := s.nextAlways fun d =>
  if 125 ≤ t.toInt then coreReset 2 0xF (d.set PWR_STATUS_THOT)
  else if d.awake then reading sensor.val t d else d

/-- The supply returns after the core die was without it. -/
def execPowerOn (s : State) := s.nextAlways (coreReset 0 0xF)

def execResetPin (s : State) := s.nextAlways (coreReset 3 0xF)

/-- The PCIe endpoint is reset (R284): its link goes down. -/
def execPerst (s : State) := s.nextAlways linkDown

/-- The JTAG test access port is reset; the device takes no part (R581). -/
def execTrst (s : State) := s.nextAlways id

/-- 1 ms after the last source has released, with REFCLK running. -/
def execResetRelease (prog : List (BitVec 32 × List Byte)) (s : State) :=
  s.nextAlways (resetRelease (prog.map fun e => (e.1.toNat, e.2)))

/-- `t` is the highest reading of all sensors, in °C, and `sensor` has it. -/
def execThermalCooldown (sensor : Fin 11) (t : Byte) (s : State) := s.nextAlways (cooldown sensor.val t)

def execRetentionLoss (s : State) := s.nextAlways retentionLoss

end Sys2Proof.Machine
end

