-- ==== Sys2Proof/Machine/HostRegs.lean ====
section
/-! DEFINITION. Register access (R4 to R9): the write of a word and the read of a word at any BAR0 offset, from PCI
Express, SPI or the FIC interpreter, and the SPI frames (R310).

A write that a row of the table names (a doorbell, a key word, a mode request) has that row's effect; every other field
takes the written value by its type. -/

namespace Sys2Proof.Machine

open Reg

namespace Dev

/-- The effect of another row of the table. -/
def likeRow (c : State → Host.Outcome State Fault Refusal) (d : Dev) : Dev :=
  match c { dev := d } with
  | .next t => t.dev
  | _ => d

/-! ### Values that a write is cut to -/

/-- The word with a field replaced. -/
def withField (v : Nat) (f : Fld) (x : Nat) : Nat := v - v / 2 ^ f.lsb % 2 ^ f.w * 2 ^ f.lsb + x * 2 ^ f.lsb

def part (v : Nat) (f : Fld) : Nat := v / 2 ^ f.lsb % 2 ^ f.w

/-- The field takes the nearer limit. -/
def nearest (f : Fld) (lo hi v : Nat) : Nat := withField v f (max lo (min hi (part v f)))

def laneOf? (off : Nat) (reg : Nat) : Option Nat := allLanes.find? fun L => laneOff L + reg == off

/-- The instance of a group of registers at a base with a stride. -/
def indexOf (off base stride n : Nat) : Option Nat :=
  if base ≤ off ∧ (off - base) % stride = 0 ∧ (off - base) / stride < n then some ((off - base) / stride) else none

/-- The value that a write with these bits gives a register whose table states limits (R65, R71, R93, R140, R177, R212,
R252, R276, R317, R320, R498). -/
def legal (off v : Nat) (d : Dev) : Nat :=
  if off = 0x10030 then
    let s := part v TIDE_NCO_CFG_SLEW
    withField (nearest TIDE_NCO_CFG_WINDOW 0 5000 v) TIDE_NCO_CFG_SLEW (if s = 0 ∨ 167 < s then 167 else s)
  else if off = 0x10034 then nearest TIDE_GPH_N 1 65535 v
  else if off = 0x10050 then
    let r := part v TIDE_HOLD_RELOCK_MS
    if 1 ≤ r ∧ r ≤ 10000 then v else withField v TIDE_HOLD_RELOCK_MS (d.get TIDE_HOLD_RELOCK_MS)
  else if off = 0x30008 then nearest SLU_TIMING_SNAPDL 10 2000 v
  else if off = 0x30040 then nearest COUCH_CFG_TIMEOUT 1 1024 v
  else if off = 0x30810 then nearest RACE_VAT_CTRL_POST 1 65535 v
  else if off = 0x88020 then
    if part v CTX_ADMIT_CFG_POLICY = 3 then withField v CTX_ADMIT_CFG_POLICY 0 else v
  else if off = 0xB0008 then nearest BIST_ROLL_PERIOD 1 4095 v
  else if 0x31000 ≤ off ∧ off < 0x32000 ∧ off % 0x40 = 0x20 then nearest (RACE_IRQ_COUNT 0) 1 255 v
  else if 0x80000 ≤ off ∧ off < 0x88000 ∧ off % 0x100 = 0x84 then
    nearest (CTX_PROOF_CFG_W 0) 5 80 (nearest (CTX_PROOF_CFG_FAILLIM 0) 1 15 v)
  else if (laneOf? off 0).isSome then nearest (LANE_CFG_ION 0) 0 220 (nearest (LANE_CFG_DLOS 0) 1 10 v)
  else v

/-! ### A write by the types of the fields (R4, R625) -/

/-- A field takes its part of a written word; `keyed` tells that KRW fields take theirs. -/
def writeField (v : Nat) (keyed : Bool) (a : FieldAt) (d : Dev) : Dev :=
  match a.ty with
  | .rw => d.put a.fld (part v a.fld)
  | .w1c => d.put a.fld (d.get a.fld - (d.get a.fld &&& part v a.fld))
  | .krw => if keyed then d.put a.fld (part v a.fld) else d
  | _ => d

/-- Whether the register at an offset has KRW fields. -/
def hasKrw (off : Nat) : Bool := (fieldsAt off).any fun a => a.ty == .krw || a.ty == .ka

/-- The fields of a register take a written word; a KRW write on the owning path restarts the idle time, any other is
rejected. -/
def writeFields (path : Path) (off v : Nat) (d : Dev) : Dev :=
  let v := d.legal off v
  let ok := d.keyed path
  let d := if !hasKrw off then d
    else if ok then d.keyUsed
    else if d.keyDiffers off v then rejectKey path off d else d
  each (fieldsAt off) (writeField v ok) d

/-- A field write and then actions; the actions of KRW fields follow only on the owning path. -/
def writeThen (path : Path) (off v : Nat) (act : Dev → Dev) (d : Dev) : Dev :=
  let ok := d.keyed path
  let d := writeFields path off v d
  if ok then act d else d

/-! ### Registers whose writes are rows of the table -/

def bitOf (v i : Nat) (f : Dev → Dev) (d : Dev) : Dev := if v.testBit i then f d else d

/-- The global block and the tideline. -/
def writeGlobal (path : Path) (off v : Nat) (d : Dev) : Dev :=
  let w : Word := BitVec.ofNat 32 v
  if off = 0x4 then
    bitOf v 0 (likeRow (execReload path)) (bitOf v 1 (likeRow (execColdRequest path)) (writeFields path off v d))
  else if off = 0x14 then likeRow (execHostModeRequest (v.testBit 4) (BitVec.ofNat 4 v) false) d
  else if off = 0x100 then keyWrite path (v % 65536) d
  else if off = 0x10010 then bitOf v 0 requestJump (bitOf v 1 rerange d)
  else if off = 0x10020 then
    if d.flag TIDE_NCO_CFG_HOST_TGT then d.onTide fun t => { t with tgtLo := v } else d.put TIDE_STATUS_RESULT 7
  else if off = 0x10024 then writeTarget (v % 65536) false d
  else if off = 0x10028 ∨ off = 0x1002C then (writeFields path off v d).showPeriod
  else if off = 0x10054 then likeRow (execClkoutConfig (v.testBit 3) (BitVec.ofNat 3 v)) d
  else match indexOf off 0x220 4 6 with
    | some k => enableEvents k w d
    | none => writeFields path off v d

/-- The breach block. -/
def writeBreach (path : Path) (off v : Nat) (d : Dev) : Dev :=
  let w : Word := BitVec.ofNat 32 v
  if off = 0x20008 then clearSources 0 w d
  else if off = 0x2000C then clearSources 1 w d
  else if off = 0x20020 then acknowledge 0 w d
  else if off = 0x20024 then acknowledge 1 w d
  else if off = 0x20080 then
    writeThen path off v (fun d => bitOf v 31 (injectGo w) (bitOf v 30 (injectEnd 4) d)) d
  else writeFields path off v d

/-- The registers of race q. -/
def writeRace (path : Path) (q off v : Nat) (d : Dev) : Dev :=
  let w : Word := BitVec.ofNat 32 v
  match off % 0x40 with
  | 0x00 => raceConfig q w d
  | 0x04 => if d.raceRuns q then d else writeFields path off v d
  | 0x08 => if d.raceRuns q then d else writeFields path off v d
  | 0x0C => doorbell q w d
  | 0x18 => bitOf v 2 (raceRearm q) (bitOf v 1 (raceResume q) (bitOf v 0 (raceStop q) d))
  | _ => writeFields path off v d

/-- Sluice, couch and races. -/
def writeSluice (path : Path) (off v : Nat) (d : Dev) : Dev :=
  if off = 0x30044 then
    if v.testBit 4 then couchCancel d else likeRow (execCouchRequest (BitVec.ofNat 2 v) (BitVec.ofNat 2 (v / 4)) false) d
  else if off = 0x30810 then
    bitOf v 1 vatArm (bitOf v 2 vatTrigger (bitOf v 3 vatDiscard (writeFields path off v d)))
  else if 0x31000 ≤ off ∧ off < 0x31800 then writeRace path ((off - 0x31000) / 0x40) off v d
  else writeFields path off v d

/-- The lanes. -/
def writeLane (path : Path) (off v : Nat) (d : Dev) : Dev :=
  match laneOf? off 0x14 with
  | some L => writeThen path off v (bitOf v 24 (ledRearm L)) d
  | none => writeFields path off v d

/-- The contexts. -/
def writeCtx (path : Path) (off v : Nat) (d : Dev) : Dev :=
  if off = 0x88034 then
    if v.testBit 8 && v.testBit 9 then d.put CTX_APPROVE_RESULT 2
    else bitOf v 9 (deny false) (bitOf v 8 (approve (v % 256) false) d)
  else if off < 0x88000 ∧ off % 0x100 = 0x14 then
    let c := (off - 0x80000) / 0x100
    bitOf v 1 (resume c) (bitOf v 0 (retire c) d)
  else if off < 0x88000 ∧ off % 0x100 = 0x18 then
    writeThen path off v (bitOf v 8 (relocate ((off - 0x80000) / 0x100) (v % 256) false)) d
  else if off < 0x88000 ∧ off % 0x100 = 0x1C then (writeFields path off v d).drainAll
  else writeFields path off v d

/-- The value of the force that DIKE_FSEL addresses (R397). -/
def selectedForce (d : Dev) : Nat :=
  match d.dike.forces.find? fun f => f.entry = d.get DIKE_FSEL_ENTRY with
  | some f => f.val
  | none => 0

/-- The dike processor; DIKE_FVAL shows the entry that a write of DIKE_FSEL addresses (R397). -/
def writeDike (path : Path) (off v : Nat) (d : Dev) : Dev :=
  let w : Word := BitVec.ofNat 32 v
  if off = 0x90000 then
    let d := bitOf v 0 (likeRow (execDikeArm path)) d
    let ok := d.keyed path
    let d := writeThen path off v (fun d => bitOf v 1 (likeRow (execDikeSwap path)) (bitOf v 2 (likeRow (execForceClear path)) d)) d
    -- row 1 of R383
    if ok then d else bitOf v 1 (fun d => d.put DIKE_STATUS_RESULT 3) d
  else if off = 0x90020 then likeRow (execOnlineParamWrite path 0 w) d
  else if off = 0x90024 then likeRow (execProgramWindowWrite path w) d
  else if off = 0x90028 then likeRow (execOnlineParamWrite path 1 w) d
  else if off = 0x9002C then likeRow (execOnlineParamWrite path 2 w) d
  else if off = 0x90030 then likeRow (execOnlineParamWrite path 3 w) d
  else if off = 0x90034 then likeRow (execSymbolWindowWrite path w) d
  else if off = 0x90038 then likeRow (execOnlineParamWrite path 4 w) d
  else if off = 0x90040 then writeThen path off v (fun d => d.put DIKE_FVAL_VALUE d.selectedForce) d
  else if off = 0x90044 then
    if v.testBit 31 then likeRow (execForceSet path (BitVec.ofNat 4 (v / 2 ^ 24)) (BitVec.ofNat 16 v)) d
    else if d.keyed path then likeRow (execForceRelease path) d
    else if d.keyDiffers off v then rejectKey path off d else d
  else writeFields path off v d

/-- The berm mirror and BIST. -/
def writeField' (path : Path) (off v : Nat) (d : Dev) : Dev :=
  let w : Word := BitVec.ofNat 32 v
  if off = 0xA0014 then
    writeThen path off v (fun d => bitOf v 1 (rearmGroup 8 1 FLD_STATUS_GRPB_OFF)
      (bitOf v 0 (rearmGroup 0 0 FLD_STATUS_GRPA_OFF) d)) d
  else if off = 0xB0000 then
    let d := bitOf v 31 bistCut d
    if v.testBit 30 then bistRun w d else writeFields path off v d
  else if off = 0xB0040 then
    writeThen path off v (bitOf v 26 (likeRow (if v.testBit 27 then execFuseRepair path w else execSoftRepair path w))) d
  else match indexOf off 0xA0200 4 16 with
    | some k => if h : k < 16 then bitOf v 27 (likeRow (execLampFailedClear ⟨k, h⟩)) d else d
    | none => writeFields path off v d

/-- The management registers. -/
def writeMgmt (path : Path) (off v : Nat) (d : Dev) : Dev :=
  let w : Word := BitVec.ofNat 32 v
  if off = 0xE0080 then bitOf v 7 (passwordCheck path (v % 128)) d
  else if off = 0xE0090 then
    writeAct path off (v % 8)
      (fun d => bitOf v 1 writeCommit (bitOf v 0 writeBegin (bitOf v 2 abortWrite d))) d
  else if off = 0xE0094 then writeAct path off v (fun d => d.put WMK_WR_LEN_LEN v) d
  else if off = 0xE0098 then writeAct path off v (writeData w) d
  else if off = 0xE0104 then keyedWrite path off v (lcsRequest w) d
  else match indexOf off 0xE0040 4 16 with
    | some k => d.onMgmt fun m => { m with cand := Table.put 0 m.cand k v }
    | none => writeFields path off v d

/-- The MSI-X table (R283): address and data words, and the mask of each vector. -/
def writeMsix (off v : Nat) (d : Dev) : Dev :=
  let i := (off - 0xF0000) / 4
  if 128 ≤ i then d
  else if i % 4 ≠ 3 then d.onPcie fun p => { p with tbl := Table.put 0 p.tbl i v }
  else if v.testBit 0 then d.onPcie fun p => { p with mask := p.mask ||| 2 ^ (i / 4) }
  else unmask false (i / 4) d

/-- Offsets that a FIC write has no effect on (R539). -/
def ficSpared (off : Nat) : Bool := [0x14, 0x4, 0x30044, 0x20020, 0x20024, 0x20008, 0x2000C].contains off

/-- A word is written at a BAR0 offset. -/
def writeReg (path : Path) (off v : Nat) (d : Dev) : Dev :=
  if path == .fic && ficSpared off then d
  else if off < 0x20000 then writeGlobal path off v d
  else if off < 0x30000 then writeBreach path off v d
  else if off < 0x40000 then writeSluice path off v d
  else if off < 0x80000 then writeLane path off v d
  else if off < 0x90000 then writeCtx path off v d
  else if off < 0xA0000 then writeDike path off v d
  else if off < 0xC0000 then writeField' path off v d
  else if off < 0xD0000 then
    match indexOf off 0xC8020 4 5 with
    | some k => each (lanesOfWord k (BitVec.ofNat 32 v)) clearWarn d
    | none => writeFields path off v d
  else if off < 0xE0000 then writeFields path off v d
  else if off < 0xF0000 then writeMgmt path off v d
  else if off < 0x100000 ∧ path = .pcie then writeMsix off v d
  else d

/-! ### Reads -/

/-- The fields of a register as they read; WO fields and actions read 0. -/
def readFields (d : Dev) (off : Nat) : Nat :=
  (fieldsAt off).foldl (fun n a => if a.ty == .wo || a.ty == .ka then n else n + d.get a.fld * 2 ^ a.fld.lsb) 0

/-- The RC fields at an offset return to their reset values (R4). -/
def clearAt (off : Nat) (d : Dev) : Dev :=
  each ((fieldsAt off).filter fun a => a.ty == .rc) (fun a d => d.clear a.fld) d

/-- What a read of a register clears (R4); in a split port SLU_FB(0) and SLU_FB(1) are one register (R257). -/
def clearRead (off : Nat) (d : Dev) : Dev :=
  if (off = 0x30028 ∨ off = 0x3002C) ∧ d.sluSplit then clearAt 0x3002C (clearAt 0x30028 d) else clearAt off d

/-- Low words of the quantities wider than 32 bits (R9): the register at the next offset holds the upper word. -/
def wideLow (off : Nat) : Bool :=
  [0x10018, 0x10020, 0x10028, 0x88028, 0xC8008].contains off ||
    (decide (0x31000 ≤ off) && decide (off < 0x31800) && off % 0x40 == 0x04) ||
    (decide (0x80000 ≤ off) && decide (off < 0x88000) && (off % 0x100 == 0x04 || off % 0x100 == 0x94))

def setShadow (off v : Nat) (d : Dev) : Dev := { d with shadow := Table.put 0 d.shadow off v }

/-- Fields whose value follows from other state. -/
def readGlobal (off : Nat) (d : Dev) : Nat × Dev :=
  if off = 0x60 then
    let (w, d) := d.draw
    let out := d.get GLB_GPIO_DIR &&& (0xFF ^^^ d.get GLB_GPIO_CLAIMED)
    -- an output pin has the level that it drives; the level of any other pin comes from outside
    let pins := (d.get GLB_GPIO_OUT &&& out) ||| (w.toNat % 256 &&& (0xFF ^^^ out))
    (withField (d.readFields off) GLB_GPIO_IN pins, d)
  else if off = 0x88 then (if d.flag GLB_START_RETOK then d.readFields off else 0xF, d)
  else if off = 0x104 then
    let left := if d.flag GLB_KEY_STAT_OPEN then 600 - (d.up - d.key.since) / 1000000000 else 0
    (withField (d.readFields off) GLB_KEY_STAT_IDLE left, clearRead off d)
  else if off = 0x10000 then
    let n := d.now / 65536
    (n % 2 ^ 32, setShadow 0x10008 (d.now % 65536) (setShadow 0x10004 (n / 2 ^ 32 % 2 ^ 32) d))
  else if off = 0x10004 ∨ off = 0x10008 then (Table.get 0 d.shadow off, d)
  else (d.readFields off, clearRead off d)

/-- Data memory word k of a polder (R354), or a lane register; LANE_TCAL is the fuses' (R81). -/
def readPolder (off : Nat) (d : Dev) : Nat × Dev :=
  let x := (off - 0x40000) % 0x8000
  if 0x4000 ≤ x ∧ x < 0x6000 then (nat (peekB (d.polder ((off - 0x40000) / 0x8000)).dmem (x - 0x4000) 4), d)
  else match laneOf? off 0x24 with
    | some L => (rxd L * 65536 + txd L, d)
    | none => (d.readFields off, clearRead off d)

/-- The windows of the dike memory (R398), and the selected force (R397). -/
def readDike (off : Nat) (d : Dev) : Nat × Dev :=
  let bits (k : Nat) : Nat :=
    ((List.range 32).map fun j => if Table.get false d.dike.marks (32 * k + j) then 2 ^ j else 0).foldl (· + ·) 0
  if off = 0x90044 then
    match d.dike.forces.find? fun f => f.entry = d.get DIKE_FSEL_ENTRY with
    | some f => (2 ^ 31 + f.area % 16 * 2 ^ 24 + f.ty % 16 * 2 ^ 20 + f.addr % 65536, d)
    | none => (0, d)
  else match indexOf off 0x91000 4 64, indexOf off 0x91100 4 32, indexOf off 0x92000 4 2048, indexOf off 0x94000 4 256,
      indexOf off 0x94400 4 128, indexOf off 0x94600 4 64 with
    | some k, _, _, _, _, _ => (d.iw k, d)
    | _, some k, _, _, _, _ => (Table.get 0 d.dike.shown k, d)
    | _, _, some k, _, _, _ => (Table.get 0 d.dike.words k, d)
    | _, _, _, some k, _, _ => (bits k, d)
    | _, _, _, _, some k, _ => (d.timerElapsed k * 65536 + (d.timer k).run.toNat * 32768 + (d.timer k).q.toNat * 16384, d)
    | _, _, _, _, _, some k => ((d.counter k).value * 65536 + (d.counter k).preset, d)
    | _, _, _, _, _, _ => (d.readFields off, clearRead off d)

/-- LDG_LVIEW of the selected lane (R570). -/
def lview (d : Dev) : Nat :=
  let v := Table.get (0, 0, 0xFFFF) d.ldg.view (d.get LDG_LSEL_LANE)
  v.2.2 * 65536 + v.2.1 * 256 + v.1

/-- The entry that WMK_LOG_SEL names: 0 where it is no longer held (R531). -/
def logWord (d : Dev) (k : Nat) : Nat :=
  let i := d.get WMK_LOG_SEL_INDEX
  match d.logAt (i % 1024) with
  | some (j, bs) => if j = i then nat ((bs.drop (4 * k)).take 4) else 0
  | none => 0

/-- The MSI-X table and the pending bit array (R283). -/
def readMsix (off : Nat) (d : Dev) : Nat :=
  let i := (off - 0xF0000) / 4
  if i < 128 then (if i % 4 = 3 then (d.pcie.mask / 2 ^ (i / 4)) % 2 else Table.get 0 d.pcie.tbl i)
  else if off = 0xF0800 then d.pcie.pba % 2 ^ 32 else 0

/-- A word is read at a BAR0 offset: its value, with the side effects of R4 and R9. -/
def readReg (path : Path) (off : Nat) (d : Dev) : Nat × Dev :=
  if 0xF0000 ≤ off then (if path = .pcie ∧ off < 0x100000 then d.readMsix off else 0, d)
  else if wideLow off then (d.readFields off, setShadow (off + 4) (d.readFields (off + 4)) d)
  else if 4 ≤ off ∧ wideLow (off - 4) then (Table.get 0 d.shadow off, d)
  else if off < 0x20000 then readGlobal off d
  else if off = 0x3081C then d.vatPort
  else if 0x40000 ≤ off ∧ off < 0x80000 then readPolder off d
  else if 0x90000 ≤ off ∧ off < 0xA0000 then readDike off d
  else if 0xC0000 ≤ off ∧ off < 0xC8000 then windowWord ((off - 0xC0000) / 4) d
  else if off = 0xC8044 then (d.lview, d)
  else if off = 0xD000C then (d.iw32, d)
  else match indexOf off 0xE00C0 4 16 with
    | some k => (d.logWord k, d)
    | none => (d.readFields off, clearRead off d)

/-- The bytes of a word that the byte enables address (R6). -/
def addressed (be : BitVec 4) (v : Nat) : Nat :=
  ((List.range 4).map fun i => if be.getLsbD i then v / 256 ^ i % 256 * 256 ^ i else 0).foldl (· + ·) 0

/-- A read completion goes back on PCI Express: the addressed bytes, with the effect of a read of the whole word
(R6). -/
def answerRead (path : Path) (woff : Nat) (be : BitVec 4) (d : Dev) : Dev :=
  let r := readReg path (4 * woff) d
  r.2.send (.read (addressed be r.1))

/-! ### SPI (R310) -/

/-- The slave takes frames: it is enabled, and a millisecond has passed since reset release (R583). -/
def spiOpen (d : Dev) : Bool := d.flag RACE_SPI_EN && decide (1000000 ≤ d.up)

/-- A frame that ends with SPI_CS_N rising writes a register when it has 9 bytes and its CRC passes. -/
def spiWrite (bs : List Byte) (d : Dev) : Dev :=
  if !d.spiOpen then d
  else if bs.length ≠ 9 then { d.inc RACE_SPI_LENERR with spi := { wcrc := true, wkey := false } }
  else if crc8 (bs.take 8) ≠ (bs.getD 8 0).toNat then { d.inc RACE_SPI_CRCERR with spi := { wcrc := true, wkey := false } }
  else
    let d := { d with spi := { wcrc := false, wkey := false } }
    let a := 4 * nat ((bs.drop 1).take 3)
    if bs.getD 0 0 = 0x02 then writeReg .spi a (nat ((bs.drop 4).take 4)) d else d

/-- The response of a read frame: STATUS in byte 7, the data, their CRC-8. -/
def spiResponse (status v : Nat) : List Byte :=
  let body := BitVec.ofNat 8 status :: le 4 v
  List.replicate 7 0 ++ body ++ [BitVec.ofNat 8 (crc8 body)]

/-- A read frame: the register is read once byte 4 has arrived with a valid CRC. -/
def spiRead (bs : List Byte) (d : Dev) : Dev :=
  if !d.spiOpen then d else
  let ok := decide (5 ≤ bs.length) && crc8 (bs.take 4) == (bs.getD 4 0).toNat
  let r := if ok then readReg .spi (4 * nat ((bs.drop 1).take 3)) d else (0, d)
  let status := d.spi.wcrc.toNat + 2 * d.spi.wkey.toNat + 4 * (!ok).toNat
  let d := r.2
  let d := if 5 ≤ bs.length ∧ !ok then d.inc RACE_SPI_CRCERR else d
  let d := if bs.length = 13 then d else d.inc RACE_SPI_LENERR
  d.send (.spi ((spiResponse status r.1).take bs.length))

end Dev

open Dev

/-- A write of a word at a word offset, with its byte enables: one that does not cover all four bytes is discarded
(R6). -/
def execRegisterWrite (path : Path) (woff : BitVec 18) (v : Word) (be : BitVec 4) (s : State) := s.next fun d =>
  if be = 0xF then writeReg path (4 * woff.toNat) v.toNat d else d

/-- A read of a register with RC fields, or of any other, at a word offset, with its byte enables (R6). -/
def execRcRead (path : Path) (woff : BitVec 18) (be : BitVec 4) (s : State) := s.next (answerRead path woff.toNat be)

/-- A read of the lowest word of a quantity wider than 32 bits, at its word offset (R9). -/
def execWideReadLow (path : Path) (woff : BitVec 18) (be : BitVec 4) (s : State) := s.next fun d =>
  let r := readReg path (4 * woff.toNat) d
  r.2.send (.read (addressed be r.1))

def execSpiWriteFrame (bs : List Byte) (s : State) := s.next (spiWrite bs)

def execSpiReadFrame (bs : List Byte) (s : State) := s.next (spiRead bs)

end Sys2Proof.Machine
end

