-- ==== Sys2Proof/Machine/Fic.lean ====
section
/-! DEFINITION. The FIC interpreter (R537 to R542): its instructions and the ends of its waits.

An instruction command carries bits [23:0] of its word (POLL also its second word); OP is the command itself.  It acts
while a program runs and waits for nothing, and takes the interpreter's own program counter. -/

namespace Sys2Proof.Machine

open Reg

namespace Dev

/-! ### Fields and registers (R538) -/

def fA (w : BitVec 24) : Nat := w.toNat / 2 ^ 20
def fB (w : BitVec 24) : Nat := w.toNat / 2 ^ 16 % 16
def fImm (w : BitVec 24) : Nat := w.toNat % 2 ^ 16

/-- BAR0 offset of a word offset of 18 bits. -/
def fOff (w : Nat) : Nat := 4 * (w % 2 ^ 18)

def onFic (d : Dev) (f : Fic → Fic) : Dev := { d with fic := f d.fic }

def vreg (d : Dev) (i : Nat) : Word := Table.get 0 d.fic.regs i

def setVreg (i : Nat) (v : Word) (d : Dev) : Dev := d.onFic fun x => { x with regs := Table.put 0 x.regs i v }

def setF (b : Bool) (d : Dev) : Dev := d.onFic fun x => { x with f := b }

/-- The interpreter takes an instruction: a program runs and waits for nothing. -/
def ficReady (d : Dev) : Bool := d.fic.prog != 0 && d.fic.wait == .none

/-- An instruction of `n` words with an effect; the program counter moves on modulo 2^12. -/
def ficOp (n : Nat) (f : Dev → Dev) (d : Dev) : Dev :=
  if d.ficReady then f (d.onFic fun x => { x with pc := (x.pc + n) % 4096 }) else d

/-- An instruction that computes va. -/
def ficAlu (w : BitVec 24) (f : Word → Word → Word) : Dev → Dev :=
  ficOp 1 fun d => setVreg (fA w) (f (d.vreg (fA w)) (d.vreg (fB w))) d

/-- An instruction that computes F. -/
def ficTest (w : BitVec 24) (f : Word → Word → Bool) : Dev → Dev :=
  ficOp 1 fun d => setF (f (d.vreg (fA w)) (d.vreg (fB w))) d

def ficGoto (w : BitVec 24) (d : Dev) : Dev := d.onFic fun x => { x with pc := fImm w % 4096 }

def ficWait (x : FicWait) : Dev → Dev := ficOp 1 fun d => d.onFic fun y => { y with wait := x }

/-- A wait ends; the next instruction may issue. -/
def ficGo (d : Dev) : Dev := d.onFic fun x => { x with wait := .none }

/-! ### Register access (R539) -/

def ficRead (w : BitVec 24) : Dev → Dev := ficOp 1 fun d =>
  let r := readReg .fic (fOff w.toNat) d
  setVreg (fA w) (BitVec.ofNat 32 r.1) r.2

def ficWrite (w : BitVec 24) : Dev → Dev := ficOp 1 fun d => writeReg .fic (fOff w.toNat) (d.vreg (fA w)).toNat d

/-- POLL begins: the values of va and vb stay as they are while it waits (R540). -/
def ficPoll (w : BitVec 24) (w1 : Word) : Dev → Dev := ficOp 2 fun d =>
  d.onFic fun x => { x with wait := .poll (fOff w1.toNat) (d.vreg (fA w)) (d.vreg (fB w)) }

/-- A read of a POLL. -/
def ficPollRead (d : Dev) : Dev :=
  match d.fic.wait with
  | .poll off mask value =>
    let r := readReg .fic off d
    if BitVec.ofNat 32 r.1 &&& mask = value then (setF true r.2).ficGo else r.2
  | _ => d

def ficPollTimeout (d : Dev) : Dev :=
  match d.fic.wait with
  | .poll _ _ _ => (setF false d).ficGo
  | _ => d

/-! ### Tests and ends -/

/-- TEST (R538): the tests of the request are queued under R481; a refused request names no test. -/
def ficQueue (w : BitVec 24) : Dev → Dev := ficOp 1 fun d =>
  if d.fic.prog ≠ 2 then d else
  let n := fImm w % 64
  let d := requestTests n d
  let count := if d.get BIST_STATUS_RESULT = 1 then (if n = 0x3F then 54 else 1) else 0
  d.onFic fun x => { x with wait := .test (if n = 0x3F then 0 else n) count }

/-- The queue is empty and no test runs: F tells whether every test of the request reads PASS. -/
def ficTestEnd (d : Dev) : Dev :=
  match d.fic.wait with
  | .test first count =>
    if d.bist.queue = [] ∧ d.bist.run = [] then
      (setF (count != 0 && (List.range count).all fun i => d.get (BIST_TSTAT_RESULT (first + i)) == 1) d).ficGo
    else d
  | _ => d

/-- END (R542). -/
def ficEnd (w : BitVec 24) : Dev → Dev := ficOp 1 fun d =>
  match fImm w % 4 with
  | 0 => ficFinish 2 false d
  | 2 => ficFinish 2 true d
  | _ => ficFinish 3 false d

end Dev

open Dev

def execFicNop (_w : BitVec 24) (s : State) := s.next (ficOp 1 id)
def execFicLdi (w : BitVec 24) (s : State) :=
  s.next (ficOp 1 (setVreg (fA w) (BitVec.signExtend 32 (BitVec.ofNat 16 (fImm w)))))
def execFicLdh (w : BitVec 24) (s : State) := s.next (ficOp 1 fun d =>
  setVreg (fA w) (BitVec.ofNat 32 (fImm w * 65536 + (d.vreg (fA w)).toNat % 65536)) d)
def execFicMov (w : BitVec 24) (s : State) := s.next (ficAlu w fun _ b => b)
def execFicAdd (w : BitVec 24) (s : State) := s.next (ficAlu w fun a b => a + b)
def execFicSub (w : BitVec 24) (s : State) := s.next (ficAlu w fun a b => a - b)
def execFicAnd (w : BitVec 24) (s : State) := s.next (ficAlu w fun a b => a &&& b)
def execFicOr (w : BitVec 24) (s : State) := s.next (ficAlu w fun a b => a ||| b)
def execFicXor (w : BitVec 24) (s : State) := s.next (ficAlu w fun a b => a ^^^ b)
def execFicShr (w : BitVec 24) (s : State) := s.next (ficAlu w fun a _ => a >>> (fImm w % 32))
def execFicShl (w : BitVec 24) (s : State) := s.next (ficAlu w fun a _ => a <<< (fImm w % 32))
def execFicCeq (w : BitVec 24) (s : State) := s.next (ficTest w fun a b => a == b)
def execFicCltu (w : BitVec 24) (s : State) := s.next (ficTest w fun a b => a.ult b)
def execFicTst (w : BitVec 24) (s : State) := s.next (ficTest w fun a b => a &&& b != 0)
def execFicRd (w : BitVec 24) (s : State) := s.next (ficRead w)
def execFicWr (w : BitVec 24) (s : State) := s.next (ficWrite w)
def execFicPoll (w : BitVec 24) (w1 : Word) (s : State) := s.next (ficPoll w w1)
def execFicPollRead (s : State) := s.next ficPollRead
def execFicPollTimeout (s : State) := s.next ficPollTimeout
def execFicJmp (w : BitVec 24) (s : State) := s.next (ficOp 1 (ficGoto w))
def execFicBf (w : BitVec 24) (s : State) := s.next (ficOp 1 fun d => if d.fic.f then ficGoto w d else d)
def execFicBnf (w : BitVec 24) (s : State) := s.next (ficOp 1 fun d => if d.fic.f then d else ficGoto w d)
def execFicDjnz (w : BitVec 24) (s : State) := s.next (ficOp 1 fun d =>
  let v := d.vreg (fA w) - 1
  let d := setVreg (fA w) v d
  if v ≠ 0 then ficGoto w d else d)
def execFicDelay (_w : BitVec 24) (s : State) := s.next (ficWait .delay)

/-- The microseconds of a DELAY have passed. -/
def execFicDelayEnd (s : State) := s.next fun d => if d.fic.wait = .delay then d.ficGo else d
def execFicDeck (w : BitVec 24) (s : State) := s.next (ficWait (.deck (fImm w)))

/-- The boundaries of a DECK have been counted. -/
def execFicDeckEnd (s : State) := s.next fun d => if d.fic.wait = .deck 0 then d.ficGo else d
def execFicMark (w : BitVec 24) (s : State) := s.next (ficOp 1 fun d => d.put GLB_START_STEP (fImm w))
def execFicTest (w : BitVec 24) (s : State) := s.next (ficQueue w)
def execFicTestEnd (s : State) := s.next ficTestEnd
def execFicEnd (w : BitVec 24) (s : State) := s.next (ficEnd w)
def execFicTimeLimit (s : State) := s.next (ficFinish 4 false)

end Sys2Proof.Machine
end

