-- ==== Sys2Proof/Machine/Dispatch.lean ====
section
/-! DEFINITION. One arm per command: a direct call of its meaning. -/

namespace Sys2Proof.Machine

def exec (i : Instr) (s : State) : Host.Outcome State Fault Refusal :=
  match i with
  | .registerWrite path woff v be => Sys2Proof.Machine.execRegisterWrite path woff v be s
  | .rcRead path woff be => Sys2Proof.Machine.execRcRead path woff be s
  | .wideReadLow path woff be => Sys2Proof.Machine.execWideReadLow path woff be s
  | .tidelineStrobe phases => Sys2Proof.Machine.execTidelineStrobe phases s
  | .clockMonitorFault isl => Sys2Proof.Machine.execClockMonitorFault isl s
  | .terpClockCompare deviates => Sys2Proof.Machine.execTerpClockCompare deviates s
  | .mgmtEngineStop ecc addr syndrome => Sys2Proof.Machine.execMgmtEngineStop ecc addr syndrome s
  | .mgmtSupervisorTimeout => Sys2Proof.Machine.execMgmtSupervisorTimeout s
  | .mgmtEngineRestart => Sys2Proof.Machine.execMgmtEngineRestart s
  | .hostModeRequest park target same => Sys2Proof.Machine.execHostModeRequest park target same s
  | .autoFill => Sys2Proof.Machine.execAutoFill s
  | .autoRun => Sys2Proof.Machine.execAutoRun s
  | .holdLimit => Sys2Proof.Machine.execHoldLimit s
  | .deckleBoundary => Sys2Proof.Machine.execDeckleBoundary s
  | .tideTgtWrite hi same => Sys2Proof.Machine.execTideTgtWrite hi same s
  | .jump => Sys2Proof.Machine.execJump s
  | .rerange => Sys2Proof.Machine.execRerange s
  | .timeMarkLaunch L => Sys2Proof.Machine.execTimeMarkLaunch L s
  | .rangeRequest L t => Sys2Proof.Machine.execRangeRequest L t s
  | .rangeReply L t cur syms => Sys2Proof.Machine.execRangeReply L t cur syms s
  | .rangeTimeout L => Sys2Proof.Machine.execRangeTimeout L s
  | .tideTimeSend => Sys2Proof.Machine.execTideTimeSend s
  | .tidePollSend t => Sys2Proof.Machine.execTidePollSend t s
  | .tideTimeReceive t bs => Sys2Proof.Machine.execTideTimeReceive t bs s
  | .tideTimeMissing => Sys2Proof.Machine.execTideTimeMissing s
  | .tidePollReceive bs => Sys2Proof.Machine.execTidePollReceive bs s
  | .tideEchoSend turn => Sys2Proof.Machine.execTideEchoSend turn s
  | .tideEcho t bs => Sys2Proof.Machine.execTideEcho t bs s
  | .tideEchoTimeout => Sys2Proof.Machine.execTideEchoTimeout s
  | .locksenseQualify high => Sys2Proof.Machine.execLocksenseQualify high s
  | .holdoverEntry => Sys2Proof.Machine.execHoldoverEntry s
  | .refclkLoss => Sys2Proof.Machine.execRefclkLoss s
  | .holdoverRelock => Sys2Proof.Machine.execHoldoverRelock s
  | .holdoverExit => Sys2Proof.Machine.execHoldoverExit s
  | .clkoutConfig en sel => Sys2Proof.Machine.execClkoutConfig en sel s
  | .linkSyncAcquire L cur => Sys2Proof.Machine.execLinkSyncAcquire L cur s
  | .linkSyncLoss L cur syms => Sys2Proof.Machine.execLinkSyncLoss L cur syms s
  | .lossOfLight L cur syms => Sys2Proof.Machine.execLossOfLight L cur syms s
  | .returnMiss c => Sys2Proof.Machine.execReturnMiss c s
  | .darkIntervalEnd L => Sys2Proof.Machine.execDarkIntervalEnd L s
  | .returnFrame L cur syms ovf => Sys2Proof.Machine.execReturnFrame L cur syms ovf s
  | .snapshotDeadline => Sys2Proof.Machine.execSnapshotDeadline s
  | .telemFrame L syms => Sys2Proof.Machine.execTelemFrame L syms s
  | .echoGroup L t syms bads a b crc ovf => Sys2Proof.Machine.execEchoGroup L t syms bads a b crc ovf s
  | .proofWindowClose c ssq idx t => Sys2Proof.Machine.execProofWindowClose c ssq idx t s
  | .proofRecordRelease c ovf => Sys2Proof.Machine.execProofRecordRelease c ovf s
  | .proofSummaryBreach c => Sys2Proof.Machine.execProofSummaryBreach c s
  | .sheetLaunch L t0 t1 within => Sys2Proof.Machine.execSheetLaunch L t0 t1 within s
  | .beacon L => Sys2Proof.Machine.execBeacon L s
  | .admitRequest L syms also => Sys2Proof.Machine.execAdmitRequest L syms also s
  | .approve ctx same => Sys2Proof.Machine.execApprove ctx same s
  | .deny same => Sys2Proof.Machine.execDeny same s
  | .retire c => Sys2Proof.Machine.execRetire c s
  | .resume c => Sys2Proof.Machine.execResume c s
  | .relocate path c L same => Sys2Proof.Machine.execRelocate path c L same s
  | .mgmtResponse L syms => Sys2Proof.Machine.execMgmtResponse L syms s
  | .mgmtTimeout q => Sys2Proof.Machine.execMgmtTimeout q s
  | .bulkFrameReceive L syms => Sys2Proof.Machine.execBulkFrameReceive L syms s
  | .bulkPacketSend L => Sys2Proof.Machine.execBulkPacketSend L s
  | .bulkResendTimeout L => Sys2Proof.Machine.execBulkResendTimeout L s
  | .bulkCreditReport L => Sys2Proof.Machine.execBulkCreditReport L s
  | .ledDarkLatch L slots => Sys2Proof.Machine.execLedDarkLatch L slots s
  | .ledLitLatch L slots => Sys2Proof.Machine.execLedLitLatch L slots s
  | .ledRearm path L => Sys2Proof.Machine.execLedRearm path L s
  | .sluiceSyncAcquire k => Sys2Proof.Machine.execSluiceSyncAcquire k s
  | .sluiceSyncLoss k codes openFrame => Sys2Proof.Machine.execSluiceSyncLoss k codes openFrame s
  | .reamFrame k ta fr bs ovf => Sys2Proof.Machine.execReamFrame k ta fr bs ovf s
  | .reamCutoff ovf => Sys2Proof.Machine.execReamCutoff ovf s
  | .safeholdEntry c => Sys2Proof.Machine.execSafeholdEntry c s
  | .sluiceTransmit k now => Sys2Proof.Machine.execSluiceTransmit k now s
  | .ctrlMode k tag args same => Sys2Proof.Machine.execCtrlMode k tag args same s
  | .ctrlTarget k tag args => Sys2Proof.Machine.execCtrlTarget k tag args s
  | .ctrlCouch k tag args same => Sys2Proof.Machine.execCtrlCouch k tag args same s
  | .ctrlPing k tag t args => Sys2Proof.Machine.execCtrlPing k tag t args s
  | .ctrlStatus k tag args => Sys2Proof.Machine.execCtrlStatus k tag args s
  | .ctrlUnknown k op tag => Sys2Proof.Machine.execCtrlUnknown k op tag s
  | .couchRequest src pol same => Sys2Proof.Machine.execCouchRequest src pol same s
  | .couchCancel => Sys2Proof.Machine.execCouchCancel s
  | .couchTimeout => Sys2Proof.Machine.execCouchTimeout s
  | .pcieLinkDown => Sys2Proof.Machine.execPcieLinkDown s
  | .functionLevelReset => Sys2Proof.Machine.execFunctionLevelReset s
  | .pcieLinkUp w gen => Sys2Proof.Machine.execPcieLinkUp w gen s
  | .dmaError q readable c bs => Sys2Proof.Machine.execDmaError q readable c bs s
  | .raceEnable q v => Sys2Proof.Machine.execRaceEnable q v s
  | .raceDoorbell q v => Sys2Proof.Machine.execRaceDoorbell q v s
  | .descriptorFetch q bs data => Sys2Proof.Machine.execDescriptorFetch q bs data s
  | .bulkOutPacketRead q c data => Sys2Proof.Machine.execBulkOutPacketRead q c data s
  | .descriptorComplete q => Sys2Proof.Machine.execDescriptorComplete q s
  | .raceIrqTimer q => Sys2Proof.Machine.execRaceIrqTimer q s
  | .raceFlushTimer q => Sys2Proof.Machine.execRaceFlushTimer q s
  | .raceStop q => Sys2Proof.Machine.execRaceStop q s
  | .raceResume q => Sys2Proof.Machine.execRaceResume q s
  | .raceRearm q => Sys2Proof.Machine.execRaceRearm q s
  | .vatArm => Sys2Proof.Machine.execVatArm s
  | .vatTrigger => Sys2Proof.Machine.execVatTrigger s
  | .vatDiscard => Sys2Proof.Machine.execVatDiscard s
  | .vatFreeze => Sys2Proof.Machine.execVatFreeze s
  | .vatPortRead => Sys2Proof.Machine.execVatPortRead s
  | .gpioVatTrig pin => Sys2Proof.Machine.execGpioVatTrig pin s
  | .spiWriteFrame bs => Sys2Proof.Machine.execSpiWriteFrame bs s
  | .spiReadFrame bs => Sys2Proof.Machine.execSpiReadFrame bs s
  | .polderRunStart p => Sys2Proof.Machine.execPolderRunStart p s
  | .runDeadline p => Sys2Proof.Machine.execRunDeadline p s
  | .budgetExhausted p => Sys2Proof.Machine.execBudgetExhausted p s
  | .pldNop p w => Sys2Proof.Machine.execPldNop p w s
  | .pldAdd p w => Sys2Proof.Machine.execPldAdd p w s
  | .pldSub p w => Sys2Proof.Machine.execPldSub p w s
  | .pldAnd p w => Sys2Proof.Machine.execPldAnd p w s
  | .pldOr p w => Sys2Proof.Machine.execPldOr p w s
  | .pldXor p w => Sys2Proof.Machine.execPldXor p w s
  | .pldShl p w => Sys2Proof.Machine.execPldShl p w s
  | .pldShr p w => Sys2Proof.Machine.execPldShr p w s
  | .pldSar p w => Sys2Proof.Machine.execPldSar p w s
  | .pldMul p w => Sys2Proof.Machine.execPldMul p w s
  | .pldMulh p w => Sys2Proof.Machine.execPldMulh p w s
  | .pldMin p w => Sys2Proof.Machine.execPldMin p w s
  | .pldMax p w => Sys2Proof.Machine.execPldMax p w s
  | .pldSlt p w => Sys2Proof.Machine.execPldSlt p w s
  | .pldSltu p w => Sys2Proof.Machine.execPldSltu p w s
  | .pldAddi p w => Sys2Proof.Machine.execPldAddi p w s
  | .pldAndi p w => Sys2Proof.Machine.execPldAndi p w s
  | .pldOri p w => Sys2Proof.Machine.execPldOri p w s
  | .pldXori p w => Sys2Proof.Machine.execPldXori p w s
  | .pldShli p w => Sys2Proof.Machine.execPldShli p w s
  | .pldShri p w => Sys2Proof.Machine.execPldShri p w s
  | .pldSari p w => Sys2Proof.Machine.execPldSari p w s
  | .pldLui p w => Sys2Proof.Machine.execPldLui p w s
  | .pldLdw p w => Sys2Proof.Machine.execPldLdw p w s
  | .pldLdh p w => Sys2Proof.Machine.execPldLdh p w s
  | .pldLdb p w => Sys2Proof.Machine.execPldLdb p w s
  | .pldStw p w => Sys2Proof.Machine.execPldStw p w s
  | .pldSth p w => Sys2Proof.Machine.execPldSth p w s
  | .pldStb p w => Sys2Proof.Machine.execPldStb p w s
  | .pldBeq p w => Sys2Proof.Machine.execPldBeq p w s
  | .pldBne p w => Sys2Proof.Machine.execPldBne p w s
  | .pldBlt p w => Sys2Proof.Machine.execPldBlt p w s
  | .pldBge p w => Sys2Proof.Machine.execPldBge p w s
  | .pldBltu p w => Sys2Proof.Machine.execPldBltu p w s
  | .pldBgeu p w => Sys2Proof.Machine.execPldBgeu p w s
  | .pldJmp p w => Sys2Proof.Machine.execPldJmp p w s
  | .pldCall p w => Sys2Proof.Machine.execPldCall p w s
  | .pldRet p w => Sys2Proof.Machine.execPldRet p w s
  | .pldEmit p w => Sys2Proof.Machine.execPldEmit p w s
  | .pldEnd p w => Sys2Proof.Machine.execPldEnd p w s
  | .pldDemand p w => Sys2Proof.Machine.execPldDemand p w s
  | .pldRelease p w => Sys2Proof.Machine.execPldRelease p w s
  | .pldMark p w => Sys2Proof.Machine.execPldMark p w s
  | .pldNextp p w => Sys2Proof.Machine.execPldNextp p w s
  | .pldNextb p w => Sys2Proof.Machine.execPldNextb p w s
  | .pldPostb p w => Sys2Proof.Machine.execPldPostb p w s
  | .pldSignal p w => Sys2Proof.Machine.execPldSignal p w s
  | .pldTime p w => Sys2Proof.Machine.execPldTime p w s
  | .dikeInputPhase => Sys2Proof.Machine.execDikeInputPhase s
  | .dikeProgramStart => Sys2Proof.Machine.execDikeProgramStart s
  | .dikeSwapPerform => Sys2Proof.Machine.execDikeSwapPerform s
  | .dikeOverrun => Sys2Proof.Machine.execDikeOverrun s
  | .wardenStall => Sys2Proof.Machine.execWardenStall s
  | .dikeCrcCheck crc => Sys2Proof.Machine.execDikeCrcCheck crc s
  | .dikeNop w => Sys2Proof.Machine.execDikeNop w s
  | .dikeLd w => Sys2Proof.Machine.execDikeLd w s
  | .dikeLdn w => Sys2Proof.Machine.execDikeLdn w s
  | .dikeAnd w => Sys2Proof.Machine.execDikeAnd w s
  | .dikeAndn w => Sys2Proof.Machine.execDikeAndn w s
  | .dikeOr w => Sys2Proof.Machine.execDikeOr w s
  | .dikeOrn w => Sys2Proof.Machine.execDikeOrn w s
  | .dikeXor w => Sys2Proof.Machine.execDikeXor w s
  | .dikeSt w => Sys2Proof.Machine.execDikeSt w s
  | .dikeStn w => Sys2Proof.Machine.execDikeStn w s
  | .dikeSet w => Sys2Proof.Machine.execDikeSet w s
  | .dikeRst w => Sys2Proof.Machine.execDikeRst w s
  | .dikeNot w => Sys2Proof.Machine.execDikeNot w s
  | .dikePush w => Sys2Proof.Machine.execDikePush w s
  | .dikePop w => Sys2Proof.Machine.execDikePop w s
  | .dikePe w => Sys2Proof.Machine.execDikePe w s
  | .dikeNe w => Sys2Proof.Machine.execDikeNe w s
  | .dikeTon w => Sys2Proof.Machine.execDikeTon w s
  | .dikeTof w => Sys2Proof.Machine.execDikeTof w s
  | .dikeTp w => Sys2Proof.Machine.execDikeTp w s
  | .dikeTres w => Sys2Proof.Machine.execDikeTres w s
  | .dikeCtu w => Sys2Proof.Machine.execDikeCtu w s
  | .dikeCtd w => Sys2Proof.Machine.execDikeCtd w s
  | .dikeCres w => Sys2Proof.Machine.execDikeCres w s
  | .dikeLw w => Sys2Proof.Machine.execDikeLw w s
  | .dikeSw w => Sys2Proof.Machine.execDikeSw w s
  | .dikeLk w => Sys2Proof.Machine.execDikeLk w s
  | .dikeLkh w => Sys2Proof.Machine.execDikeLkh w s
  | .dikeAddw w => Sys2Proof.Machine.execDikeAddw w s
  | .dikeSubw w => Sys2Proof.Machine.execDikeSubw w s
  | .dikeAndw w => Sys2Proof.Machine.execDikeAndw w s
  | .dikeOrw w => Sys2Proof.Machine.execDikeOrw w s
  | .dikeCeq w => Sys2Proof.Machine.execDikeCeq w s
  | .dikeClt w => Sys2Proof.Machine.execDikeClt w s
  | .dikeCge w => Sys2Proof.Machine.execDikeCge w s
  | .dikeXbit w => Sys2Proof.Machine.execDikeXbit w s
  | .dikeJmp w => Sys2Proof.Machine.execDikeJmp w s
  | .dikeJc w => Sys2Proof.Machine.execDikeJc w s
  | .dikeJnc w => Sys2Proof.Machine.execDikeJnc w s
  | .dikeEnd w same => Sys2Proof.Machine.execDikeEnd w same s
  | .dikeArm path => Sys2Proof.Machine.execDikeArm path s
  | .dikeSwap path => Sys2Proof.Machine.execDikeSwap path s
  | .forceClear path => Sys2Proof.Machine.execForceClear path s
  | .programWindowWrite path v => Sys2Proof.Machine.execProgramWindowWrite path v s
  | .symbolWindowWrite path v => Sys2Proof.Machine.execSymbolWindowWrite path v s
  | .onlineParamWrite path which v => Sys2Proof.Machine.execOnlineParamWrite path which v s
  | .forceSet path area addr => Sys2Proof.Machine.execForceSet path area addr s
  | .forceRelease path => Sys2Proof.Machine.execForceRelease path s
  | .isoFrameTx => Sys2Proof.Machine.execIsoFrameTx s
  | .bermFrameReceive crcOk => Sys2Proof.Machine.execBermFrameReceive crcOk s
  | .terpFrameReceive crcOk => Sys2Proof.Machine.execTerpFrameReceive crcOk s
  | .bermSilence => Sys2Proof.Machine.execBermSilence s
  | .terpSilence => Sys2Proof.Machine.execTerpSilence s
  | .bermSelfcheckFail => Sys2Proof.Machine.execBermSelfcheckFail s
  | .inputSample x iin last => Sys2Proof.Machine.execInputSample x iin last s
  | .inputDebounce x => Sys2Proof.Machine.execInputDebounce x s
  | .inputInvalidTimeout x => Sys2Proof.Machine.execInputInvalidTimeout x s
  | .testPulseStart k => Sys2Proof.Machine.execTestPulseStart k s
  | .testPulseEnd => Sys2Proof.Machine.execTestPulseEnd s
  | .inrushWindowEnd k => Sys2Proof.Machine.execInrushWindowEnd k s
  | .outputOverload k => Sys2Proof.Machine.execOutputOverload k s
  | .outputSample k pin => Sys2Proof.Machine.execOutputSample k pin s
  | .darkTestStart k => Sys2Proof.Machine.execDarkTestStart k s
  | .darkTestEnd k pin => Sys2Proof.Machine.execDarkTestEnd k pin s
  | .correlationPulse k pin => Sys2Proof.Machine.execCorrelationPulse k pin s
  | .lampProofSample k iout pin => Sys2Proof.Machine.execLampProofSample k iout pin s
  | .lampDeadline k => Sys2Proof.Machine.execLampDeadline k s
  | .lampFlashToggle => Sys2Proof.Machine.execLampFlashToggle s
  | .lampFailedClear k => Sys2Proof.Machine.execLampFailedClear k s
  | .isoOkDwell => Sys2Proof.Machine.execIsoOkDwell s
  | .grpaRearm path => Sys2Proof.Machine.execGrpaRearm path s
  | .grpbRearm path => Sys2Proof.Machine.execGrpbRearm path s
  | .supplySample rail v => Sys2Proof.Machine.execSupplySample rail v s
  | .supplyDropout => Sys2Proof.Machine.execSupplyDropout s
  | .releaseOkCount => Sys2Proof.Machine.execReleaseOkCount s
  | .bermReset => Sys2Proof.Machine.execBermReset s
  | .bermStart => Sys2Proof.Machine.execBermStart s
  | .safeDemandWord p flips => Sys2Proof.Machine.execSafeDemandWord p flips s
  | .safeDemandTimeout p => Sys2Proof.Machine.execSafeDemandTimeout p s
  | .contactorTonExpiry j => Sys2Proof.Machine.execContactorTonExpiry j s
  | .contactorToffExpiry j => Sys2Proof.Machine.execContactorToffExpiry j s
  | .twinFrame k fcsOk etype bs => Sys2Proof.Machine.execTwinFrame k fcsOk etype bs s
  | .twinPairingTimeout => Sys2Proof.Machine.execTwinPairingTimeout s
  | .twinWatchdog => Sys2Proof.Machine.execTwinWatchdog s
  | .breachRaise src ecc addr code more => Sys2Proof.Machine.execBreachRaise src ecc addr code more s
  | .graceExpiry => Sys2Proof.Machine.execGraceExpiry s
  | .breachAck path k v => Sys2Proof.Machine.execBreachAck path k v s
  | .breachClear path k v => Sys2Proof.Machine.execBreachClear path k v s
  | .injectGo path w => Sys2Proof.Machine.execInjectGo path w s
  | .injectAbort path => Sys2Proof.Machine.execInjectAbort path s
  | .injectedRead synd dbl other => Sys2Proof.Machine.execInjectedRead synd dbl other s
  | .injectTimeout => Sys2Proof.Machine.execInjectTimeout s
  | .bistRun v => Sys2Proof.Machine.execBistRun v s
  | .bistAbort => Sys2Proof.Machine.execBistAbort s
  | .bistTestStart => Sys2Proof.Machine.execBistTestStart s
  | .bistTestEnd t count sig failAt => Sys2Proof.Machine.execBistTestEnd t count sig failAt s
  | .bistOvertime t count => Sys2Proof.Machine.execBistOvertime t count s
  | .bistReinitDone t => Sys2Proof.Machine.execBistReinitDone t s
  | .bistSequencerStall => Sys2Proof.Machine.execBistSequencerStall s
  | .rollCheckStart => Sys2Proof.Machine.execRollCheckStart s
  | .rollCheckEnd steps failAt sigOk => Sys2Proof.Machine.execRollCheckEnd steps failAt sigOk s
  | .softRepair path w => Sys2Proof.Machine.execSoftRepair path w s
  | .fuseRepair path w => Sys2Proof.Machine.execFuseRepair path w s
  | .loadComplete jedec bad retEcc => Sys2Proof.Machine.execLoadComplete jedec bad retEcc s
  | .flashTimeout ofLog => Sys2Proof.Machine.execFlashTimeout ofLog s
  | .reload path => Sys2Proof.Machine.execReload path s
  | .coldRequest path => Sys2Proof.Machine.execColdRequest path s
  | .passwordCheck path len => Sys2Proof.Machine.execPasswordCheck path len s
  | .passwordResult => Sys2Proof.Machine.execPasswordResult s
  | .lockoutEnd => Sys2Proof.Machine.execLockoutEnd s
  | .imageWriteBegin path => Sys2Proof.Machine.execImageWriteBegin path s
  | .imageEraseDone => Sys2Proof.Machine.execImageEraseDone s
  | .imageWriteData path v => Sys2Proof.Machine.execImageWriteData path v s
  | .pageProgramDone => Sys2Proof.Machine.execPageProgramDone s
  | .imageCommit path => Sys2Proof.Machine.execImageCommit path s
  | .imageCommitDone => Sys2Proof.Machine.execImageCommitDone s
  | .imageWriteAbort path => Sys2Proof.Machine.execImageWriteAbort path s
  | .logEntryWrite => Sys2Proof.Machine.execLogEntryWrite s
  | .logRetry => Sys2Proof.Machine.execLogRetry s
  | .lcsAdvance path v => Sys2Proof.Machine.execLcsAdvance path v s
  | .keyFirst path => Sys2Proof.Machine.execKeyFirst path s
  | .keySecond path => Sys2Proof.Machine.execKeySecond path s
  | .keyClose path => Sys2Proof.Machine.execKeyClose path s
  | .keyFailedWrite path v => Sys2Proof.Machine.execKeyFailedWrite path v s
  | .keyStepTimeout => Sys2Proof.Machine.execKeyStepTimeout s
  | .keyIdleTimeout => Sys2Proof.Machine.execKeyIdleTimeout s
  | .ficNop w => Sys2Proof.Machine.execFicNop w s
  | .ficLdi w => Sys2Proof.Machine.execFicLdi w s
  | .ficLdh w => Sys2Proof.Machine.execFicLdh w s
  | .ficMov w => Sys2Proof.Machine.execFicMov w s
  | .ficAdd w => Sys2Proof.Machine.execFicAdd w s
  | .ficSub w => Sys2Proof.Machine.execFicSub w s
  | .ficAnd w => Sys2Proof.Machine.execFicAnd w s
  | .ficOr w => Sys2Proof.Machine.execFicOr w s
  | .ficXor w => Sys2Proof.Machine.execFicXor w s
  | .ficShr w => Sys2Proof.Machine.execFicShr w s
  | .ficShl w => Sys2Proof.Machine.execFicShl w s
  | .ficCeq w => Sys2Proof.Machine.execFicCeq w s
  | .ficCltu w => Sys2Proof.Machine.execFicCltu w s
  | .ficTst w => Sys2Proof.Machine.execFicTst w s
  | .ficRd w => Sys2Proof.Machine.execFicRd w s
  | .ficWr w => Sys2Proof.Machine.execFicWr w s
  | .ficPoll w w1 => Sys2Proof.Machine.execFicPoll w w1 s
  | .ficPollRead => Sys2Proof.Machine.execFicPollRead s
  | .ficPollTimeout => Sys2Proof.Machine.execFicPollTimeout s
  | .ficJmp w => Sys2Proof.Machine.execFicJmp w s
  | .ficBf w => Sys2Proof.Machine.execFicBf w s
  | .ficBnf w => Sys2Proof.Machine.execFicBnf w s
  | .ficDjnz w => Sys2Proof.Machine.execFicDjnz w s
  | .ficDelay w => Sys2Proof.Machine.execFicDelay w s
  | .ficDelayEnd => Sys2Proof.Machine.execFicDelayEnd s
  | .ficDeck w => Sys2Proof.Machine.execFicDeck w s
  | .ficDeckEnd => Sys2Proof.Machine.execFicDeckEnd s
  | .ficMark w => Sys2Proof.Machine.execFicMark w s
  | .ficTest w => Sys2Proof.Machine.execFicTest w s
  | .ficTestEnd => Sys2Proof.Machine.execFicTestEnd s
  | .ficEnd w => Sys2Proof.Machine.execFicEnd w s
  | .ficTimeLimit => Sys2Proof.Machine.execFicTimeLimit s
  | .ledgerTick lit temps dbl => Sys2Proof.Machine.execLedgerTick lit temps dbl s
  | .ledgerCommit => Sys2Proof.Machine.execLedgerCommit s
  | .trendInterval means => Sys2Proof.Machine.execTrendInterval means s
  | .weekRollover => Sys2Proof.Machine.execWeekRollover s
  | .warnClear k v => Sys2Proof.Machine.execWarnClear k v s
  | .eventEnable k v => Sys2Proof.Machine.execEventEnable k v s
  | .msixUnmask fn v => Sys2Proof.Machine.execMsixUnmask fn v s
  | .modeWordTimeout => Sys2Proof.Machine.execModeWordTimeout s
  | .railWarning rail => Sys2Proof.Machine.execRailWarning rail s
  | .railRecover rail => Sys2Proof.Machine.execRailRecover rail s
  | .railAction rail => Sys2Proof.Machine.execRailAction rail s
  | .serialiserRestart => Sys2Proof.Machine.execSerialiserRestart s
  | .ledDriverRestore => Sys2Proof.Machine.execLedDriverRestore s
  | .thermalWarning sensor t => Sys2Proof.Machine.execThermalWarning sensor t s
  | .thermalReset sensor t => Sys2Proof.Machine.execThermalReset sensor t s
  | .powerOn => Sys2Proof.Machine.execPowerOn s
  | .resetPin => Sys2Proof.Machine.execResetPin s
  | .perst => Sys2Proof.Machine.execPerst s
  | .trst => Sys2Proof.Machine.execTrst s
  | .resetRelease prog => Sys2Proof.Machine.execResetRelease prog s
  | .islandClockRecover isl => Sys2Proof.Machine.execIslandClockRecover isl s
  | .thermalCooldown sensor t => Sys2Proof.Machine.execThermalCooldown sensor t s
  | .refclkRestore => Sys2Proof.Machine.execRefclkRestore s
  | .retentionLoss => Sys2Proof.Machine.execRetentionLoss s
  | .lcsFuseBlown => Sys2Proof.Machine.execLcsFuseBlown s
  | .ledgerWindowRead off => Sys2Proof.Machine.execLedgerWindowRead off s

end Sys2Proof.Machine
end

