-- ==== Sys2Proof/Safety.lean ====
section
/-! DEFINITION. What counts as a safe run, in the terms that the statements use: every command completes, the pins tell
the truth about the device, and the register file stays in its canonical form. -/

namespace Sys2Proof

open Sys2Proof.Machine Sys2Proof.Machine.Reg

/-- A command completes on a state: it answers a next state, neither a fault nor a refusal. -/
def Completes (c : Instr) (s : State) : Prop := ∃ t, exec c s = .next t

/-- What R569 lists, and a reset of the core die, hold SAFE_N low. -/
def SafeNLow (d : Dev) : Prop :=
  d.awake = false ∨ d.effMode = 8 ∨ d.effMode = 9 ∨
  d.flag SAF_STATUS_ALL = true ∨ d.flag SAF_STATUS_WDEMAND = true ∨ d.flag SAF_STATUS_DSTOP = true ∨
  d.flag FLD_STATUS_SILENCED = true ∨ d.flag FLD_STATUS_DROPLATCH = true ∨ d.flag EVT_STATUS_LINKOK = false

/-- EVT_N is low while a source has both EVT_PEND and EVT_PIN equal to 1 (R568). -/
def EvtNLow (d : Dev) : Prop := ∃ e, e < 192 ∧ d.flag (EVT_PEND e) = true ∧ d.flag (EVT_PIN e) = true

/-- Both pins show what drives them. -/
def PinsTrue (d : Dev) : Prop :=
  (d.flag EVT_STATUS_SAFE_N = false ↔ SafeNLow d) ∧ (d.flag EVT_STATUS_EVT_N = false ↔ EvtNLow d)

/-- The register file is in its canonical form. -/
def RegsCanonical (d : Dev) : Prop := Table.wf 0 d.regs = true

/-! ### The terms of the statements about one command -/

/-- The core die is out of reset and nothing imposed is outstanding: what every command leaves. -/
abbrev Ready (s : State) : Prop := s.dev.awake = true ∧ s.dev.mode.due = 0 ∧ s.dev.mode.dueSafe = false

/-- The invariant of the block: both pins show what drives them, and nothing imposed is outstanding. -/
def BlockInv (s : State) : Prop := PinsTrue s.dev ∧ s.dev.mode.due = 0 ∧ s.dev.mode.dueSafe = false

/-- The state with another device, whose pins show what drives them; the queue stays. -/
def Machine.State.shows (s : State) (d : Dev) : State := { s with dev := d.showPins }

/-- The state with another device, once what it has reached is imposed (R49, R434) and its messages are one for each
vector (R567). -/
def Machine.State.settles (s : State) (d : Dev) : State := s.after fun _ => d

/-- The device, with one more item sent to a partner. -/
def Machine.Dev.emits (d : Dev) (o : Out) : Dev := { d with out := d.out ++ [o] }

/-- Commands that act whether or not the core die is in reset: the supplies, the clocks and the reset pins (chapter 19)
and the berm, which has a supply and a reset of its own (R581). -/
def actsInReset : Instr → Bool
  | .bermFrameReceive _ | .bermSilence | .bermSelfcheckFail | .inputSample _ _ _ | .inputDebounce _
  | .inputInvalidTimeout _ | .testPulseStart _ | .testPulseEnd | .inrushWindowEnd _ | .outputOverload _
  | .outputSample _ _ | .darkTestStart _ | .darkTestEnd _ _ | .correlationPulse _ _ | .lampProofSample _ _ _
  | .lampFlashToggle | .supplySample _ _ | .supplyDropout | .releaseOkCount | .bermReset | .bermStart
  | .refclkRestore | .railWarning _ | .railRecover _ | .railAction _ | .serialiserRestart | .ledDriverRestore
  | .thermalWarning _ _ | .thermalReset _ _ | .powerOn | .resetPin | .perst | .trst | .resetRelease _
  | .thermalCooldown _ _ | .retentionLoss => true
  | _ => false

/-! ### Polder engines -/

/-- Program x of run r is in progress in polder p, it is due and its context may run programs, the word at the PC has a
listed opcode, and the budget has n cycles left. -/
def Machine.Dev.canIssue (d : Dev) (p : Nat) (r : Run) (x : Prog) (n : Nat) : Prop :=
  d.current p = some (r, x) ∧ d.progModes = true ∧ d.ctxState x.ctx = 3 ∧ d.progDue x = true ∧ d.pcListed p = true ∧
    n ≤ d.cyclesLeft r x.ctx

/-- From s to t polder p has issued one instruction of n cycles and goes on at `pc`; no other polder, lane, cell or race
has changed, nothing was sent, and of the registers only LASTCYC of the context and the pins may have. -/
def Machine.State.issued (s t : State) (p : Nat) (r : Run) (x : Prog) (n pc : Nat) : Prop :=
  t.pending = s.pending ∧
  (t.dev.polder p).run = some { r with used := r.used + n, total := r.total + n } ∧ (t.dev.polder p).pc = pc ∧
  (∀ q, q ≠ p → t.dev.polder q = s.dev.polder q) ∧ t.dev.lanes = s.dev.lanes ∧ t.dev.cells = s.dev.cells ∧
  t.dev.races = s.dev.races ∧ t.dev.out = s.dev.out ∧ t.dev.now = s.dev.now ∧ t.dev.tide = s.dev.tide ∧
  ∀ g : Fld, g.key ∉ [(CTX_PSTAT_LASTCYC x.ctx).key, EVT_STATUS_EVT_N.key, EVT_STATUS_SAFE_N.key] →
    t.dev.get g = s.dev.get g

/-- From s to t only general register i of polder p has changed, to v; g0 discards its writes.  The polder's memories
and its stack stay. -/
def Machine.State.setsGpr (s t : State) (p i : Nat) (v : Word) : Prop :=
  t.dev.gpr p i = (if i = 0 then 0 else v) ∧ (∀ j, j ≠ i → t.dev.gpr p j = s.dev.gpr p j) ∧
  (t.dev.polder p).dmem = (s.dev.polder p).dmem ∧ (t.dev.polder p).scratch = (s.dev.polder p).scratch ∧
  (t.dev.polder p).stack = (s.dev.polder p).stack

/-- From s to t the registers and the memories of polder p have stayed. -/
def Machine.State.keepsPolder (s t : State) (p : Nat) : Prop :=
  (t.dev.polder p).regs = (s.dev.polder p).regs ∧ (t.dev.polder p).dmem = (s.dev.polder p).dmem ∧
  (t.dev.polder p).scratch = (s.dev.polder p).scratch

end Sys2Proof
end

