-- ==== Sys2Proof/Certificates/Slice0/Obligations.lean ====
section
/-! DEFINITION. The statements for the provers.  Each says what commands of one shape do: when they complete, the whole
state after them (`State.shows`, `State.settles`: everything that the given device does not name is as before) or the
facts about it that the rules give.  `Ready` is what every command leaves. -/

open Sys2Proof Sys2Proof.Machine Sys2Proof.Machine.Reg Sys2Proof.Machine.Dev

/-! ### Clocks, tideline, holdover (chapters 1 and 3) -/

/-- TIDELINE_STROBE, TERP_CLOCK_COMPARE, CLOCK_MONITOR_FAULT, ISLAND_CLOCK_RECOVER, REFCLK_RESTORE, LOCKSENSE_QUALIFY,
CLKOUT_CONFIG: R20, R21, R22, R57, R59, R94, R95, R579, R580. HOLDOVER_ENTRY, REFCLK_LOSS, HOLDOVER_RELOCK,
HOLDOVER_EXIT: R91 to R93, R579. -/
def Obligations.ClockCommandsComplete : Prop :=
  (∀ s : State, Ready s →
  -- the tideline reaches the instant 64 increments after the latest strobe, and every polder has its phase
  (∀ ph : BitVec 48, ∃ t, exec (.tidelineStrobe ph) s = .next t ∧
    t.dev.now = max s.dev.now (s.dev.tide.strobe + 64 * s.dev.tide.inc) ∧ t.dev.up = s.dev.up + 64 ∧
    t.dev.tide = { s.dev.tide with strobe := s.dev.tide.strobe + 64 * s.dev.tide.inc } ∧ ∀ p, p < 8 → (t.dev.polder p).phase = ph.toNat / 2 ^ (6 * p) % 64) ∧
  -- a comparison while LOCKSENSE is unlocked counts as passed; else TERP_OK and source 37 follow it
  (∀ b, s.dev.flag TIDE_STATUS_LOCKSENSE = false →
    exec (.terpClockCompare b) s = .next (s.shows (s.dev.set GLB_ISLAND_TERP_OK))) ∧
  (∀ b, s.dev.flag TIDE_STATUS_LOCKSENSE = true →
    exec (.terpClockCompare b) s = .next (s.settles ((s.dev.put GLB_ISLAND_TERP_OK (!b).toNat).breachCond 37 b 0))) ∧
  -- a failing clock shows in GLB_ISLAND and in source 30
  exec (.clockMonitorFault .hub) s =
    .next (s.settles (((s.dev.clr GLB_ISLAND_HUB_OK).onBrch fun b => { b with clk := b.clk ||| 2 ^ 8 }).breachCond 30 true 8)) ∧
  exec (.clockMonitorFault .mgmt) s =
    .next (s.settles (((s.dev.clr GLB_ISLAND_MGMT_OK).onBrch fun b => { b with clk := b.clk ||| 2 ^ 9 }).breachCond 30 true 9)) ∧
  (∀ p : Fin 8, s.dev.inBist p = false → exec (.clockMonitorFault (.polder p)) s =
    .next (s.settles (((s.dev.putBit GLB_ISLAND_POLDER_OK p false).onBrch fun b =>
      { b with clk := b.clk ||| 2 ^ p.val }).breachCond 30 true p))) ∧
  -- a polder in BIST is not monitored
  (∀ p : Fin 8, s.dev.inBist p = true → exec (.clockMonitorFault (.polder p)) s = .next (s.shows s.dev)) ∧
  -- the last failing clock recovers: source 30 ends
  (s.dev.brch.clk = 2 ^ 8 → exec (.islandClockRecover .hub) s =
    .next (s.settles (((s.dev.set GLB_ISLAND_HUB_OK).onBrch fun b => { b with clk := 0 }).breachCond 30 false 8))) ∧
  (s.dev.brch.clk = 2 ^ 9 → exec (.islandClockRecover .mgmt) s =
    .next (s.settles (((s.dev.set GLB_ISLAND_MGMT_OK).onBrch fun b => { b with clk := 0 }).breachCond 30 false 9))) ∧
  -- another clock still fails: source 30 stays
  (∀ p : Fin 8, s.dev.inBist p = false → s.dev.brch.clk = 2 ^ 8 + 2 ^ p.val → s.dev.brch.cond.testBit 30 = true →
    exec (.islandClockRecover (.polder p)) s =
      .next (s.shows ((s.dev.putBit GLB_ISLAND_POLDER_OK p true).onBrch fun b => { b with clk := 2 ^ 8 }))) ∧
  -- REFCLK edges and the qualified LOCKSENSE
  exec .refclkRestore s = .next (s.shows ((s.dev.set PWR_STATUS_REFCLK).onTide fun t => { t with refLost := false })) ∧
  exec (.locksenseQualify true) s = .next (s.shows (((s.dev.set TIDE_STATUS_LOCKSENSE).set PWR_STATUS_LSQUAL).set
    PWR_STATUS_LSRAW)) ∧
  -- while it is low the comparison of the terp oscillator is suspended, and TERP_OK reads 1
  exec (.locksenseQualify false) s = .next (s.shows ((((s.dev.clr TIDE_STATUS_LOCKSENSE).clr PWR_STATUS_LSQUAL).clr
    PWR_STATUS_LSRAW).set GLB_ISLAND_TERP_OK)) ∧
  -- the CLKOUT pins drive for the selections 1 to 5
  (∀ (en : Bool) (sel : BitVec 3), ∃ t, exec (.clkoutConfig en sel) s = .next t ∧ t.dev.get TIDE_CLKOUT_SEL = sel.toNat ∧
    t.dev.flag TIDE_CLKOUT_EN = en ∧
    (t.dev.flag TIDE_CLKOUT_ACTIVE = true ↔ en = true ∧ 1 ≤ sel.toNat ∧ sel.toNat ≤ 5) ∧
    ∀ g : Fld, g.key ∉ [TIDE_CLKOUT_EN.key, TIDE_CLKOUT_SEL.key, TIDE_CLKOUT_ACTIVE.key, EVT_STATUS_EVT_N.key,
      EVT_STATUS_SAFE_N.key] → t.dev.get g = s.dev.get g)) ∧
  (∀ s : State, Ready s →
  -- LOCKSENSE low for 10 µs: HOLDOVER is set, the entry is counted, source 29 stands, event 184 is raised
  (s.dev.flag TIDE_STATUS_LOCKSENSE = false → s.dev.flag TIDE_STATUS_HOLDOVER = false → exec .holdoverEntry s =
    .next (s.settles (((((((s.dev.set TIDE_STATUS_HOLDOVER).clr GLB_ISLAND_TIDE_OK).inc TIDE_HOLD_ENTRIES).onTide fun t =>
      { t with pullBack := false }).breachCond 29 true 0)).event 184))) ∧
  -- LOCKSENSE high: nothing
  (s.dev.flag TIDE_STATUS_LOCKSENSE = true → exec .holdoverEntry s = .next (s.shows s.dev)) ∧
  -- REFCLK stops: the same at once
  (s.dev.flag TIDE_STATUS_HOLDOVER = false → exec .refclkLoss s =
    .next (s.settles ((((((((s.dev.clr PWR_STATUS_REFCLK).onTide fun t => { t with refLost := true }).set
      TIDE_STATUS_HOLDOVER).clr GLB_ISLAND_TIDE_OK).inc TIDE_HOLD_ENTRIES).onTide fun t =>
      { t with pullBack := false }).breachCond 29 true 0).event 184))) ∧
  -- in holdover, with LOCKSENSE high and REFCLK present, the pull-back begins; HOLDOVER stays until it is complete
  (s.dev.flag TIDE_STATUS_HOLDOVER = true → s.dev.flag TIDE_STATUS_LOCKSENSE = true → s.dev.tide.refLost = false →
    exec .holdoverRelock s = .next (s.shows (s.dev.onTide fun t => { t with pullBack := true }))) ∧
  (s.dev.flag TIDE_STATUS_HOLDOVER = true → s.dev.tide.pullBack = true → exec .holdoverExit s =
    .next (s.settles (((((s.dev.clr TIDE_STATUS_HOLDOVER).set GLB_ISLAND_TIDE_OK).onTide fun t =>
      { t with pullBack := false }).breachCond 29 false 0).event 184))) ∧
  -- neither the entry nor the exit stops CLKOUT: TIDE_CLKOUT stays as it was configured
  ∀ g, g ∈ [TIDE_CLKOUT_EN, TIDE_CLKOUT_SEL, TIDE_CLKOUT_ACTIVE] → s.dev.enterHoldover.get g = s.dev.get g ∧
    (((((s.dev.clr TIDE_STATUS_HOLDOVER).set GLB_ISLAND_TIDE_OK).onTide fun t =>
      { t with pullBack := false }).breachCond 29 false 0).event 184).get g = s.dev.get g)

/-- TIME_MARK_LAUNCH, TIDE_TIME_SEND, TIDE_POLL_SEND, TIDE_POLL_RECEIVE, TIDE_ECHO_SEND, TIDE_ECHO, TIDE_ECHO_TIMEOUT,
TIDE_TIME_RECEIVE, TIDE_TIME_MISSING: R74 to R76, R85 to R90. -/
def Obligations.TideLinkCommandsComplete : Prop := ∀ s : State, Ready s →
  -- the time mark of deckle n on a bound lane: n, n[10:8] with o(n), and their CRC-8
  (∀ (L : Fin 144) (c : Nat), s.dev.ctxOfLane L = some c → s.dev.lanesLit = true → s.dev.running = true →
    (s.dev.lane L).markFrom ≤ s.dev.tide.n → s.dev.flag PWR_STATUS_OPTOFF = false →
    let b : List Byte := [BitVec.ofNat 8 s.dev.tide.n,
      BitVec.ofNat 8 (s.dev.tide.n / 256 % 8 * 32 + (s.dev.gridOf s.dev.tide.n).1)]
    let d := s.dev.emits (.mark L (s.dev.fineLine L) (b ++ [BitVec.ofNat 8 (crc8 b)]))
    ((∀ m v, (s.dev.lane L).fdAt = some (m, v) → s.dev.tide.n < m) →
      exec (.timeMarkLaunch L) s = .next (s.shows (d.put (LANE_DOUT_FD L) (fineDelay (s.dev.lane L).dout)))) ∧
    -- with a delay change that waits for this deckle the change applies from here on
    ∀ m v, (s.dev.lane L).fdAt = some (m, v) → m ≤ s.dev.tide.n → exec (.timeMarkLaunch L) s =
      .next (s.settles (applyFd L (applyDout L v (d.onLane L fun x => { x with fdAt := none }))))) ∧
  (∀ L : Fin 144, s.dev.ctxOfLane L = none ∨ s.dev.lanesLit = false ∨ s.dev.running = false ∨
    s.dev.tide.n < (s.dev.lane L).markFrom → exec (.timeMarkLaunch L) s = .next (s.shows s.dev)) ∧
  -- a MASTER sends TIME frames, and counts them toward its next POLL
  (s.dev.master = true → s.dev.tide.nextB.isSome = true → exec .tideTimeSend s = .next (s.shows ((s.dev.emits (.tide s.dev.timeFrame)).onTide fun t => { t with timeCnt := t.timeCnt + 1 }))) ∧
  -- after 64 of them it polls the next slave with that slave's delay, and awaits its ECHO
  (∀ tp : BitVec 64, s.dev.master = true → s.dev.tide.nextB.isSome = true → 64 ≤ s.dev.tide.timeCnt →
    exec (.tidePollSend tp) s = .next (s.shows ((s.dev.emits (.tide (tideFrame ([2, BitVec.ofNat 8 s.dev.nextSlave] ++
        le 4 (s.dev.get (TIDE_PEER_DK (s.dev.nextSlave - 1))))))).onTide fun x =>
        { x with timeCnt := 0, lastPoll := s.dev.nextSlave, awaiting := some s.dev.nextSlave, tPoll := tp.toNat }))) ∧
  -- a SLAVE that is polled takes its delay and will answer
  (∀ (bs body : List Byte), tideParse 2 8 bs = some body → s.dev.slave = true →
    (body.getD 1 0).toNat = s.dev.get TIDE_SYNC_ID → 1 ≤ (body.getD 1 0).toNat →
    exec (.tidePollReceive bs) s = .next (s.shows ((s.dev.put (TIDE_PEER_DK ((body.getD 1 0).toNat - 1))
      (nat ((body.drop 2).take 4))).onTide fun t => { t with polled := some (body.getD 1 0).toNat }))) ∧
  (∀ (turn : Word) (k : Nat), s.dev.tide.polled = some k → exec (.tideEchoSend turn) s = .next (s.shows ((s.dev.emits (.tide (tideFrame ([3, BitVec.ofNat 8 k] ++ le 4 turn.toNat)))).onTide fun t =>
        { t with polled := none }))) ∧
  -- the awaited ECHO gives a sample of the slave's delay; the one that does not come counts against it
  (∀ (t : BitVec 64) (bs body : List Byte) (k : Nat), s.dev.tide.awaiting = some k → tideParse 3 8 bs = some body →
    (body.getD 1 0).toNat = k →
    exec (.tideEcho t bs) s = .next (s.settles (s.dev.takeEcho k t.toNat (nat ((body.drop 2).take 4))))) ∧
  (∀ k, s.dev.tide.awaiting = some k → exec .tideEchoTimeout s = .next (s.settles (refresh28
    ((setPeer k { s.dev.peer k with fails := (s.dev.peer k).fails + 1 } s.dev).onTide fun t => { t with awaiting := none })))) ∧
  -- a SLAVE that is LOCKED leaves it at the fourth TIME frame in succession that is missing, and not before
  (s.dev.slave = true → s.dev.tide.missRun < 3 → exec .tideTimeMissing s = .next (s.shows (s.dev.onTide fun t =>
    { t with missRun := t.missRun + 1, goodRun := 0 }))) ∧
  (s.dev.slave = true → 3 ≤ s.dev.tide.missRun → s.dev.get TIDE_STATUS_SYNC = 3 → exec .tideTimeMissing s =
    .next (s.settles (((s.dev.onTide fun t => { t with missRun := t.missRun + 1, goodRun := 0, inc := 65536 }).put
      TIDE_STATUS_SYNC 4).refresh28))) ∧
  -- a TIME frame that passes is taken; one that fails its CRC counts as missing
  (∀ (t : BitVec 80) (bs body : List Byte), s.dev.slave = true → s.dev.tide.nextB.isSome = true →
    tideParse 1 29 bs = some body →
    exec (.tideTimeReceive t bs) s = .next (s.settles (s.dev.takeTime t.toNat body))) ∧
  (∀ (t : BitVec 80) (bs : List Byte), s.dev.slave = true → s.dev.tide.nextB.isSome = true → tideParse 1 29 bs = none →
    exec (.tideTimeReceive t bs) s = exec .tideTimeMissing s)

/-- What a SLAVE's valid TIME frame does to its clock (R87): with no bound context, in ACQUIRE or RANGED, the tideline
is set; with one, only the increment changes, by one unit toward the master. -/
def Obligations.TimeFrameSteersSlave : Prop := ∀ (d : Dev) (t : Nat) (body : List Byte),
  let err : Int := ((nat ((body.drop 1).take 8) * 65536 + nat ((body.drop 9).take 2) : Nat) : Int) * 1000 +
    (d.get (TIDE_PEER_DK (d.get TIDE_SYNC_ID - 1)) : Int) * 65536 - (t : Int) * 1000
  ((d.takeTime t body).now = d.now ∨
    ((d.get TIDE_STATUS_SYNC = 1 ∨ d.get TIDE_STATUS_SYNC = 2) ∧ (∀ c, c < 128 → d.isBound c = false) ∧
      (d.takeTime t body).now = ((d.now : Int) + err / 1000).toNat)) ∧
  ((∃ c, c < 128 ∧ d.isBound c = true) → (d.takeTime t body).now = d.now ∧
    (d.takeTime t body).tide.inc = if err = 0 then 65536 else if 0 < err then 65537 else 65535) ∧
  (d.takeTime t body).tide.missRun = 0

/-! ### Modes, targets, the deckle (chapters 2 and 3) -/

/-- HOST_MODE_REQUEST, AUTO_FILL, AUTO_RUN: R39, R40, R44 to R48, R51. -/
def Obligations.ModeRequestCommandsComplete : Prop := ∀ s : State, Ready s →
  -- one in the hub cycle of a request or imposed mode that ranks at least as high is BUSY
  (∀ (park same : Bool) (m : BitVec 4), s.dev.outranked same m.toNat = true →
    exec (.hostModeRequest park m same) s = .next (s.shows (s.dev.put GLB_MODE_RESULT 2))) ∧
  -- any other is decided, and its rank is kept for the requests of its cycle; a rejected one leaves the rest but RESULT
  (∀ (park same : Bool) (m : BitVec 4), s.dev.outranked same m.toNat = false →
    s.dev.decideMode 1 m.toNat ≠ Rs.accepted → exec (.hostModeRequest park m same) s =
      .next (s.shows ((noteCycle same m.toNat s.dev).put GLB_MODE_RESULT (s.dev.decideMode 1 m.toNat)))) ∧
  -- an accepted boundary transition waits in PENDING while a deckle runs; HOLD keeps its PARK
  (∀ (park same : Bool) (m : BitVec 4) (g : Bool), s.dev.outranked same m.toNat = false →
    s.dev.decideMode 1 m.toNat = Rs.accepted → s.dev.running = true → s.dev.row 1 m.toNat = some (false, g) →
    exec (.hostModeRequest park m same) s = .next (s.shows ((((noteCycle same m.toNat s.dev).put GLB_MODE_PENDING
      m.toNat).onMode fun x => { x with pendAt := s.dev.now, pendCause := 1, pendPark := park && m.toNat == 7 }).put
      GLB_MODE_RESULT 1))) ∧
  -- an accepted immediate one is made
  (∀ (park same : Bool) (m : BitVec 4) (g : Bool), s.dev.outranked same m.toNat = false →
    s.dev.decideMode 1 m.toNat = Rs.accepted → s.dev.row 1 m.toNat = some (true, g) →
    exec (.hostModeRequest park m same) s = .next (s.settles ((enter m.toNat 1 (park && m.toNat == 7)
      (noteCycle same m.toNat s.dev)).put GLB_MODE_RESULT 1))) ∧
  -- SURVEY is left for FILL, and FILL for the run model, by the device itself, with cause 0xD
  (s.dev.get GLB_MODE_MODE = 2 → s.dev.flag GLB_MODE_CFG_AUTO_FILL = true → s.dev.get GLB_MODE_PENDING = 0xF →
    s.dev.row 1 3 = some (false, true) → s.dev.running = true →
    exec .autoFill s = .next (s.shows ((s.dev.put GLB_MODE_PENDING 3).onMode fun x =>
      { x with pendAt := s.dev.now, pendCause := 0xD, pendPark := false }))) ∧
  (s.dev.get GLB_MODE_MODE = 3 → s.dev.flag GLB_MODE_CFG_AUTO_RUN = true → s.dev.get GLB_MODE_PENDING = 0xF →
    s.dev.row 1 (s.dev.get GLB_MODE_CFG_RUN_MODEL) = some (false, true) → s.dev.running = true →
    exec .autoRun s = .next (s.shows ((s.dev.put GLB_MODE_PENDING (s.dev.get GLB_MODE_CFG_RUN_MODEL)).onMode fun x =>
      { x with pendAt := s.dev.now, pendCause := 0xD, pendPark := false }))) ∧
  -- a guard that does not hold, and a device that is not in SURVEY, make no transition
  (s.dev.row 1 3 ≠ some (false, true) ∨ s.dev.get GLB_MODE_MODE ≠ 2 → exec .autoFill s = .next (s.shows s.dev))

/-- The decision of a request (R51): the conditions are tested in order, and the first that holds rejects. The mode
that a breach level imposes on every mode (R49): level 2 stops a run in HOLD, level 3 makes SAFE, or DARK where no
context can be safe, level 4 makes DARK. -/
def Obligations.ModeDecisions : Prop :=
  (∀ (d : Dev) (who m : Nat),
  (d.permitted who m = false → d.decideMode who m = 7) ∧
  (d.permitted who m = true → d.get GLB_MODE_PENDING ≠ 0xF → rank m ≤ rank (d.get GLB_MODE_PENDING) →
    d.decideMode who m = 2) ∧
  (d.permitted who m = true → (d.get GLB_MODE_PENDING = 0xF ∨ rank (d.get GLB_MODE_PENDING) < rank m) →
    (m = 0xA ∧ 2 ≤ d.lcs ∨ d.lcs = 3 ∧ (m = 0xB ∨ d.get GLB_MODE_MODE = 9) ∧ (d.row who m).isSome = true) →
    d.decideMode who m = 6) ∧
  (d.permitted who m = true → (d.get GLB_MODE_PENDING = 0xF ∨ rank (d.get GLB_MODE_PENDING) < rank m) →
    (m = 0xA → d.lcs < 2) → d.row who m = none → d.decideMode who m = 5) ∧
  (∀ now g, d.permitted who m = true → (d.get GLB_MODE_PENDING = 0xF ∨ rank (d.get GLB_MODE_PENDING) < rank m) →
    d.lcs < 2 → d.row who m = some (now, g) → 2 ≤ d.get BRCH_STATUS_LEVEL → rank m < d.imposedRank →
    d.decideMode who m = 4) ∧
  (∀ now g, d.permitted who m = true → (d.get GLB_MODE_PENDING = 0xF ∨ rank (d.get GLB_MODE_PENDING) < rank m) →
    d.lcs < 2 → d.row who m = some (now, g) → d.get BRCH_STATUS_LEVEL < 2 →
    d.decideMode who m = if g then 1 else 3)) ∧
  (∀ m : Nat,
  imposed 0 m = none ∧ imposed 1 m = none ∧
  (imposed 2 m = if m = 3 ∨ m = 4 ∨ m = 5 ∨ m = 6 then some 7 else none) ∧
  (imposed 3 m = if m = 0 ∨ m = 1 ∨ m = 0xA then some 9 else if m = 8 ∨ m = 9 then none else some 8) ∧
  (imposed 4 m = if m = 9 then none else some 9)) ∧
  -- in SERVICE the level acts on the base, and the device stays in SERVICE; where the level imposes nothing, only the
  -- rank of a mode of its own name that stands already is kept
  (∀ (d : Dev) (level m : Nat),
  (d.get GLB_MODE_MODE ≠ 0xB → imposed level (d.get GLB_MODE_MODE) = some m → (impose level d).get GLB_MODE_MODE = m) ∧
  (d.get GLB_MODE_MODE ≠ 0xB → imposed level (d.get GLB_MODE_MODE) = none → impose level d =
    if d.get GLB_MODE_MODE = levelMode level then d.onMode fun x => { x with imposed := max x.imposed level } else d) ∧
  (d.get GLB_MODE_MODE = 0xB → imposed level (d.get GLB_MODE_BASE) = some m →
    (impose level d).get GLB_MODE_MODE = 0xB ∧ (impose level d).get GLB_MODE_BASE = m) ∧
  (d.get GLB_MODE_MODE = 0xB → imposed level (d.get GLB_MODE_BASE) = none → impose level d =
    if d.get GLB_MODE_BASE = levelMode level then d.onMode fun x => { x with imposed := max x.imposed level } else d))

/-- What a transition among SURVEY, FILL, LOCKSTEP and TIDE writes (R37, R46, R48): MODE, PREV, CAUSE, no waiting
transition any more, event 191 pending; BASE and the bindings of the contexts stay. -/
def Obligations.TransitionRecorded : Prop := ∀ (d : Dev) (m cause : Nat) (park : Bool),
  [2, 3, 4, 5].contains (d.get GLB_MODE_MODE) = true → [3, 4, 5].contains m = true → m ≠ d.get GLB_MODE_MODE →
  cause < 16 →
  (enter m cause park d).get GLB_MODE_MODE = m ∧ (enter m cause park d).get GLB_MODE_PREV = d.get GLB_MODE_MODE ∧
  (enter m cause park d).get GLB_MODE_CAUSE = cause ∧ (enter m cause park d).get GLB_MODE_PENDING = 0xF ∧
  (enter m cause park d).get GLB_MODE_BASE = d.get GLB_MODE_BASE ∧
  (enter m cause park d).flag (EVT_PEND 191) = true ∧ (enter m cause park d).flag EVT_STATUS_LINKOK = true ∧
  (∀ c, c < 128 → (enter m cause park d).ctxState c = d.ctxState c ∧
    (m = 3 → (enter m cause park d).flag (CTX_PSTAT_FILLDONE c) = false)) ∧
  (enter m cause park d).lanes = d.lanes ∧ (enter m cause park d).cells = d.cells

/-- DECKLE_BOUNDARY: R60, R61, R69. The NCO moves toward its target by at most SLEW·P / 2^24 at a boundary, and stays
there (R61); that it stops at 20 µs while R52 binds the device is the model's choice (log 93). -/
def Obligations.DeckleBoundaryCompletes : Prop :=
  (∀ s : State, Ready s → exec .deckleBoundary s = .next (s.settles (boundary s.dev))) ∧
  (∀ s : State, Ready s → s.dev.tide.nextB = none → exec .deckleBoundary s = .next (s.shows s.dev)) ∧
  (∀ (s : State) (b : Nat), Ready s → s.dev.tide.nextB = some b →
  s.dev.get GLB_MODE_PENDING = 0xF → ∃ t, exec .deckleBoundary s = .next t ∧ t.pending = s.pending ∧
    t.dev.now = max s.dev.now b ∧
    t.dev.tide.bs = (b :: s.dev.tide.bs).take 6 ∧
    t.dev.tide.n = (if s.dev.tide.bs = [] then s.dev.tide.n else s.dev.tide.n + 1) ∧
    t.dev.tide.nextB = some (b + t.dev.tide.p) ∧
    (s.dev.slave = false → s.dev.tide.bs ≠ [] → s.dev.tide.jump = true →
      t.dev.tide.p = s.dev.target ∧ t.dev.tide.jump = false) ∧
    (s.dev.slave = false → s.dev.tide.bs ≠ [] → s.dev.tide.jump = false →
      t.dev.tide.p = s.dev.nextPeriod s.dev.tide.p) ∧
    t.dev.tide.cut = s.dev.tide.cut) ∧
  (∀ (d : Dev) (p : Nat),
  (d.nextPeriod p ≤ p + p * d.get TIDE_NCO_CFG_SLEW / 2 ^ 24) ∧
  (p ≤ d.nextPeriod p + p * d.get TIDE_NCO_CFG_SLEW / 2 ^ 24) ∧
  (p ≤ d.target → d.lockstepStays = false → p ≤ d.nextPeriod p ∧ d.nextPeriod p ≤ d.target) ∧
  (d.target ≤ p → d.lockstepStays = false → d.nextPeriod p ≤ p ∧ d.target ≤ d.nextPeriod p) ∧
  (d.lockstepStays = false ∨ 1310720000 ≤ d.target → d.nextPeriod d.target = d.target) ∧
  -- while R52 binds the device, a period of 20 µs or longer never becomes shorter than 20 µs
  (d.lockstepStays = true → 1310720000 ≤ p → 1310720000 ≤ d.nextPeriod p))

/-- TIDE_TGT_WRITE, JUMP, RERANGE, HOLD_LIMIT: R43, R64, R65, R67, R69, R87. -/
def Obligations.TargetCommandsComplete : Prop := ∀ s : State, Ready s →
  let answer (r : Nat) : Dev := (s.dev.put TIDE_STATUS_RESULT r).onTide fun x => { x with engTaken := false }
  -- a target is decided in order: permission, role, range, window; the first that fails is the result
  (∀ hi same, s.dev.flag TIDE_NCO_CFG_HOST_TGT = false →
    exec (.tideTgtWrite hi same) s = .next (s.shows (answer 7))) ∧
  (∀ hi same, s.dev.flag TIDE_NCO_CFG_HOST_TGT = true → s.dev.slave = true →
    exec (.tideTgtWrite hi same) s = .next (s.shows (answer 6))) ∧
  (∀ (hi : BitVec 16) same, s.dev.flag TIDE_NCO_CFG_HOST_TGT = true → s.dev.slave = false →
    s.dev.targetInRange (s.dev.tide.tgtLo + 2 ^ 32 * hi.toNat) = false →
    exec (.tideTgtWrite hi same) s = .next (s.shows (answer 3))) ∧
  (∀ (hi : BitVec 16) same, s.dev.flag TIDE_NCO_CFG_HOST_TGT = true → s.dev.slave = false →
    s.dev.targetInRange (s.dev.tide.tgtLo + 2 ^ 32 * hi.toNat) = true →
    s.dev.targetInWindow (s.dev.tide.tgtLo + 2 ^ 32 * hi.toNat) = false →
    exec (.tideTgtWrite hi same) s = .next (s.shows (answer 4))) ∧
  -- one that passes in the tideline cycle of a target of the control engine is BUSY
  (∀ hi : BitVec 16, s.dev.flag TIDE_NCO_CFG_HOST_TGT = true → s.dev.slave = false →
    s.dev.targetInRange (s.dev.tide.tgtLo + 2 ^ 32 * hi.toNat) = true →
    s.dev.targetInWindow (s.dev.tide.tgtLo + 2 ^ 32 * hi.toNat) = true → s.dev.tide.engTaken = true →
    exec (.tideTgtWrite hi true) s = .next (s.shows (answer 2))) ∧
  -- any other that passes is in force; SLEWING tells whether the period has to move
  (∀ (hi : BitVec 16) (same : Bool), (same && s.dev.tide.engTaken) = false →
    s.dev.flag TIDE_NCO_CFG_HOST_TGT = true → s.dev.slave = false →
    s.dev.targetInRange (s.dev.tide.tgtLo + 2 ^ 32 * hi.toNat) = true →
    s.dev.targetInWindow (s.dev.tide.tgtLo + 2 ^ 32 * hi.toNat) = true → s.dev.tide.tgtLo < 2 ^ 32 →
    s.dev.running = true →
    ∃ t, exec (.tideTgtWrite hi same) s = .next t ∧ t.dev.target = s.dev.tide.tgtLo + 2 ^ 32 * hi.toNat ∧
      t.dev.get TIDE_STATUS_RESULT = 1 ∧
      (t.dev.flag TIDE_STATUS_SLEWING = true ↔ s.dev.tide.p ≠ t.dev.target) ∧ t.dev.tide.p = s.dev.tide.p) ∧
  -- a jump needs a parked HOLD
  (s.dev.slave = false → s.dev.effMode = 7 → s.dev.mode.parked = true → s.dev.targetInRange s.dev.target = true →
    s.dev.targetInWindow s.dev.target = true →
    exec .jump s = .next (s.shows ((s.dev.put TIDE_STATUS_RESULT 1).onTide fun t => { t with jump := true }))) ∧
  (s.dev.slave = false → ¬(s.dev.effMode = 7 ∧ s.dev.mode.parked = true) →
    exec .jump s = .next (s.shows (s.dev.put TIDE_STATUS_RESULT 5))) ∧
  -- ranging of the slaves starts again on a MASTER
  (s.dev.master = true → ∃ t, exec .rerange s = .next t ∧
    ∀ k, k < 3 → t.dev.flag (TIDE_PEER_VALID k) = false ∧ (t.dev.peer (k + 1)).echoes = []) ∧
  (s.dev.master = false → exec .rerange s = .next (s.shows s.dev)) ∧
  -- the cut-off of HOLD deckle LIMIT + 1 is worked as every cut-off; before it, and when parked, nothing happens
  (s.dev.effMode = 7 → s.dev.mode.parked = false → s.dev.running = true →
    s.dev.tide.cut < s.dev.mode.holdM + s.dev.get SLU_HOLD_LIMIT →
    s.dev.mode.holdM + s.dev.get SLU_HOLD_LIMIT = s.dev.tide.n + 1 →
    exec .holdLimit s = .next (s.settles (cutOff (s.dev.tide.n + 1) s.dev))) ∧
  (s.dev.mode.parked = true → exec .holdLimit s = .next (s.shows s.dev))

/-! ### Lanes: receiver, ranging, survey, LED latches (chapters 4 to 6) -/

/-- LINK_SYNC_ACQUIRE, LINK_SYNC_LOSS, LOSS_OF_LIGHT, BEACON, DARK_INTERVAL_END: R41, R101, R102, R112, R139, R141,
R187, R199. LED_DARK_LATCH, LED_LIT_LATCH, LED_REARM: R170 to R172, R558, R629. -/
def Obligations.LaneCommandsComplete : Prop :=
  (∀ (s : State) (L : Fin 144), Ready s →
  -- sync on a lane that no context is bound to: SYNC, no LOS, the level, STATE = 2
  (∀ cur : BitVec 20, s.dev.get GLB_MODE_MODE ≠ 0 → s.dev.inBist (L / 18) = false → s.dev.ctxOfLane L = none →
    ∃ t, exec (.linkSyncAcquire L cur) s = .next t ∧
    t.dev.flag (LANE_LINK_SYNC L) = true ∧ t.dev.flag (LANE_LINK_LOS L) = false ∧
    t.dev.get (LANE_LINK_RSSI L) = rssiOf cur.toNat ∧ t.dev.get (LANE_LINK_STATE L) = 2) ∧
  -- every receiver is off in LOAD, and those of a polder in BIST take no part
  (∀ cur : BitVec 20, s.dev.get GLB_MODE_MODE = 0 ∨ s.dev.inBist (L / 18) = true →
    exec (.linkSyncAcquire L cur) s = .next (s.shows s.dev)) ∧
  -- a bound lane that leaves sync counts its symbols' errors and the frames that were cut, and keeps its filter
  (∀ (cur : BitVec 20) (syms : List Sym) (c : Nat), s.dev.flag (LANE_LINK_SYNC L) = true →
    s.dev.ctxOfLane L = some c → exec (.linkSyncLoss L cur syms) s =
      .next (s.shows (((receive L cur (laneSyms L syms s.dev)).clr (LANE_LINK_SYNC L)).cutFrames L))) ∧
  -- a lane that is not bound also empties its filter and leaves the host queue
  (∀ (cur : BitVec 20) (syms : List Sym), s.dev.flag (LANE_LINK_SYNC L) = true → s.dev.ctxOfLane L = none →
    exec (.linkSyncLoss L cur syms) s = .next (s.shows (showLink L (dropCell L
      (((receive L cur (laneSyms L syms s.dev)).clr (LANE_LINK_SYNC L)).cutFrames L))))) ∧
  -- out of sync only the level follows the light
  (∀ (cur : BitVec 20) (syms : List Sym), s.dev.flag (LANE_LINK_SYNC L) = false →
    exec (.linkSyncLoss L cur syms) s = .next (s.shows (receive L cur s.dev))) ∧
  -- loss of light on a free lane: LOS, its count, the ledger's count, an empty filter
  (∀ (cur : BitVec 20) (syms : List Sym), s.dev.flag (LANE_LINK_LOS L) = false → s.dev.ctxOfLane L = none →
    exec (.lossOfLight L cur syms) s = .next (s.shows (dropCell L
      (((((receive L cur (laneSyms L syms s.dev)).set (LANE_LINK_LOS L)).inc (LANE_ERR_LOSCNT L)).count
        (0x4000 + 128 * L + 12) 4 1).cutFrames L)))) ∧
  -- loss of light on a bound lane raises the event of its context, which becomes LOST with cause 1
  (∀ (cur : BitVec 20) (syms : List Sym) (c : Nat), s.dev.flag (LANE_LINK_LOS L) = false →
    s.dev.ctxOfLane L = some c → exec (.lossOfLight L cur syms) s = .next (s.settles (lose 1 c
      (((((receive L cur (laneSyms L syms s.dev)).set (LANE_LINK_LOS L)).inc (LANE_ERR_LOSCNT L)).count
        (0x4000 + 128 * L + 12) 4 1).cutFrames L |>.event c)))) ∧
  -- while LOS stands, a second loss counts only what the symbols gave
  (∀ (cur : BitVec 20) (syms : List Sym), s.dev.flag (LANE_LINK_LOS L) = true →
    exec (.lossOfLight L cur syms) s = .next (s.shows (receive L cur (laneSyms L syms s.dev)))) ∧
  -- invalid code groups are counted; every open and suspended frame that is cut is counted and discarded
  (∀ n : Nat, s.dev.flag (LANE_LINK_SYNC L) = true → (laneSyms L (List.replicate n .bad) s.dev).get (LANE_ERR_CODE L) =
    min (s.dev.get (LANE_ERR_CODE L) + n) (2 ^ (LANE_ERR_CODE L).w - 1)) ∧
  (((s.dev.cutFrames L).lane L).rx = {} ∧ (s.dev.cutFrames L).get (LANE_ERR_CRC L) =
      min (s.dev.get (LANE_ERR_CRC L) + ((s.dev.lane L).rx.cur.toList.length + (s.dev.lane L).rx.wait.length))
        (2 ^ (LANE_ERR_CRC L).w - 1)) ∧
  -- the dark interval ends: a survey lane again
  ((s.dev.lane L).darkIv = true → s.dev.bist.roll ≠ some L.val →
    exec (.darkIntervalEnd L) s = .next (s.shows ((s.dev.put (LANE_CFG_ROLE L) 1).onLane L fun x =>
      { x with darkIv := false }))) ∧
  ((s.dev.lane L).darkIv = false → exec (.darkIntervalEnd L) s = .next (s.shows s.dev)) ∧
  -- a survey lane sends its beacon in the deckles of its residue, and in no other
  (∀ f, f = nymFrame 7 (le 2 0x0100 ++ le 2 L ++ le 4 s.dev.tide.n ++ le 6 s.dev.tide.p ++
      [BitVec.ofNat 8 (s.dev.admitOpen L).toNat, 0]) →
    s.dev.surveyed L = true → s.dev.running = true → s.dev.tide.n % 16 = L.val % 16 →
    s.dev.flag PWR_STATUS_OPTOFF = false → exec (.beacon L) s =
      .next (s.shows ((s.dev.emits (.lane L f)).onLane L fun x => { x with tx := f.length + 2 }))) ∧
  (s.dev.tide.n % 16 ≠ L.val % 16 → exec (.beacon L) s = .next (s.shows s.dev))) ∧
  (∀ (s : State) (L : Fin 144), Ready s →
  -- the slots are evaluated one after another, and the mean sense current is shown
  (∀ slots, exec (.ledDarkLatch L slots) s = .next (s.settles (ledSlots L slots s.dev)) ∧
    exec (.ledLitLatch L slots) s = .next (s.settles (ledSlots L slots s.dev))) ∧
  -- with the drivers off, or VOPT out of range, nothing is evaluated
  (∀ slots, s.dev.slotsSeen = false → ledSlots L slots s.dev = s.dev) ∧
  -- a slot moves both counters by one between 0 and 30, and NOW shows a counter of 30
  (∀ bs : List LedBit, s.dev.slotsSeen = true →
    let lit := s.dev.litLane L
    let darkFails := lit && halfFail (bs.filter (·.one)) (s.dev.oneFails L)
    let litFails := halfFail (if lit then bs.filter (!·.one) else bs) zeroFails
    let dark := if darkFails then min 30 ((s.dev.lane L).dark + 1) else (s.dev.lane L).dark - 1
    let litc := if litFails then min 30 ((s.dev.lane L).lit + 1) else (s.dev.lane L).lit - 1
    let e := ((s.dev.onLane L fun x => { x with dark := dark, lit := litc }).putB (LANE_LED_DARK_NOW L)
      (dark == 30)).putB (LANE_LED_LIT_NOW L) (litc == 30)
    ((dark ≠ 30 ∨ s.dev.flag (LANE_LED_LED_DARK L) = true) → (litc ≠ 30 ∨ s.dev.flag (LANE_LED_LED_LIT L) = true) →
      ledSlot L bs s.dev = e) ∧
    -- LED_DARK latches without the reaction of DARKACT
    (dark = 30 → s.dev.flag (LANE_LED_LED_DARK L) = false → litc ≠ 30 → s.dev.flag (LANE_LED_DARKACT L) = false →
      ledSlot L bs s.dev = (e.set (LANE_LED_LED_DARK L)).count (0x4000 + 128 * L + 16) 2 1) ∧
    -- with it, and at every LED_LIT, the driver is held off
    (dark = 30 → s.dev.flag (LANE_LED_LED_DARK L) = false → litc ≠ 30 → s.dev.flag (LANE_LED_DARKACT L) = true →
      ledSlot L bs s.dev = driveOff L ((e.set (LANE_LED_LED_DARK L)).count (0x4000 + 128 * L + 16) 2 1)) ∧
    (litc = 30 → s.dev.flag (LANE_LED_LED_LIT L) = false → dark ≠ 30 →
      ledSlot L bs s.dev = driveOff L ((e.set (LANE_LED_LED_LIT L)).count (0x4000 + 128 * L + 18) 2 1))) ∧
  -- REARM in SERVICE with the key open on its path clears the latches and gives the driver back; it is logged
  (∀ p : Path, s.dev.keyed p = true → s.dev.get GLB_MODE_MODE = 0xB → s.dev.logFull = false →
    exec (.ledRearm p L) s = .next (s.settles (refreshLed (L / 18) ((((((((s.dev.keyUsed).stage 6 [BitVec.ofNat 8 L]).clr
      (LANE_LED_LED_DARK L)).clr (LANE_LED_LED_LIT L)).clr (LANE_LED_DRIVE_OFF L)).clr (LANE_LED_DARK_NOW L)).clr
      (LANE_LED_LIT_NOW L)).onLane L fun x => { x with dark := 0, lit := 0 })))) ∧
  -- without the key it is rejected and counted
  (∀ p : Path, s.dev.keyed p = false → exec (.ledRearm p L) s = .next (s.shows (rejectKey p (laneOff L + 0x14) s.dev))) ∧
  (∀ off : Nat, rejectKey .pcie off s.dev = (s.dev.inc GLB_KEY_STAT_REJ).put GLB_KEY_REJ_OFF off))

/-- RANGE_REQUEST, RANGE_REPLY, RANGE_TIMEOUT: R79, R80, R111, R127, R128, R187; that a reply with TVALID 0 leaves the
request outstanding is the model's choice (log 104). -/
def Obligations.RangingCommandsComplete : Prop := ∀ (s : State) (L : Fin 144), Ready s →
  -- a request that is due leaves with the lane's RID; its pin instant and its deckle are kept
  (∀ t : BitVec 64, s.dev.surveyed L = true → s.dev.flag (LANE_LINK_SYNC L) = true → (s.dev.lane L).ttx = none →
    s.dev.rangeDue L = true → s.dev.laneFree L = true → s.dev.flag PWR_STATUS_OPTOFF = false →
    let f := nymFrame 4 [BitVec.ofNat 8 (s.dev.lane L).rid, 0]
    exec (.rangeRequest L t) s = .next (s.shows ((s.dev.emits (.lane L f)).onLane L fun x =>
        { x with tx := f.length + 2, rid := (x.rid + 1) % 256, ttx := some t.toNat, rangeAt := some s.dev.tide.n }))) ∧
  -- one request at a time, and none before it is due
  (∀ t : BitVec 64, (s.dev.lane L).ttx.isSome = true ∨ s.dev.rangeDue L = false →
    exec (.rangeRequest L t) s = .next (s.shows s.dev)) ∧
  -- a request is due in the deckle after the latest one until the filter is valid, then RINT deckles after it
  (∀ m, (s.dev.lane L).rangeAt = some m → (s.dev.rangeDue L = true ↔
    if s.dev.ctxOfLane L ≠ none ∨ s.dev.flag (LANE_DOUT_VALID L) = true
    then m + s.dev.get TIDE_ALIGN_RINT ≤ s.dev.tide.n else m + 1 ≤ s.dev.tide.n)) ∧
  -- 20 µs without a reply end the wait
  exec (.rangeTimeout L) s = .next (s.shows (s.dev.onLane L fun x => { x with ttx := none })) ∧
  -- a reply in time, with the request's RID and a measured turn, gives RTT_f = trip − turn − TXD − RXD
  (∀ (t : BitVec 64) (cur : BitVec 20) (bs pl : List Byte) (ch t0 : Nat), s.dev.flag (LANE_LINK_SYNC L) = true →
    (s.dev.lane L).rx = {} → nymParse bs = some (4, ch, pl) → (s.dev.lane L).ttx = some t0 →
    ((t.toNat : Int) - t0) * 250 ≤ 20000000 →
    byteAt pl 0 = ((s.dev.lane L).rid + 255) % 256 → byteAt pl 1 % 2 = 1 →
    exec (.rangeReply L t cur (frameSyms bs)) s = .next (s.settles (takeSample L
      (((t.toNat : Int) - t0) * 250 - numAt pl 2 4 - txd L - rxd L)
      ((hearLane L (frameSyms bs) (receive L cur s.dev)).onLane L fun x => { x with ttx := none })))) ∧
  -- a late reply, one with another RID, and one without a measured turn give none
  (∀ (t : BitVec 64) (cur : BitVec 20) (bs pl : List Byte) (ch t0 : Nat), s.dev.flag (LANE_LINK_SYNC L) = true →
    (s.dev.lane L).rx = {} → nymParse bs = some (4, ch, pl) → (s.dev.lane L).ttx = some t0 →
    20000000 < ((t.toNat : Int) - t0) * 250 ∨ byteAt pl 0 ≠ ((s.dev.lane L).rid + 255) % 256 ∨ byteAt pl 1 % 2 = 0 →
    exec (.rangeReply L t cur (frameSyms bs)) s =
      .next (s.shows (hearLane L (frameSyms bs) (receive L cur s.dev)))) ∧
  -- a frame that fails its CRC, or is ill formed, is counted
  (∀ (t : BitVec 64) (cur : BitVec 20) (bs : List Byte), s.dev.flag (LANE_LINK_SYNC L) = true →
    (s.dev.lane L).rx = {} → nymParse bs = none → exec (.rangeReply L t cur (frameSyms bs)) s =
      .next (s.shows ((hearLane L (frameSyms bs) (receive L cur s.dev)).inc (LANE_ERR_CRC L)))) ∧
  -- the symbols of one whole frame leave the receiver as it was
  (∀ bs : List Byte, (s.dev.lane L).rx = {} → ((hearLane L (frameSyms bs) s.dev).lane L).rx = {} ∧
    (Rx.hear {} (frameSyms bs)).done = [bs] ∧ (Rx.hear {} (frameSyms bs)).framing = 0) ∧
  -- a K28.0 with no frame to resume is a framing error, and so is a class A frame that starts within another
  (∀ (t : BitVec 64) (cur : BitVec 20) (ss : List Sym), s.dev.flag (LANE_LINK_SYNC L) = true →
    (s.dev.lane L).rx = {} → ss = [.resume] ∨ (∃ b, classA [b] = true ∧ ss = [.start, .data b, .start]) →
    ∃ u, exec (.rangeReply L t cur ss) s = .next u ∧ (u.dev.lane L).rx = {} ∧
      u.dev.get (LANE_ERR_FRAMING L) = min (s.dev.get (LANE_ERR_FRAMING L) + 1) (2 ^ (LANE_ERR_FRAMING L).w - 1))

/-- A ranging sample (R80): one that lies more than 4 ns off a valid filtered value changes no applied delay, and the
sixteenth in succession restarts the lane's ranging; a sample on a bound lane outside a gang moves the applied delay by
at most 250 ps. -/
def Obligations.SampleMovesDelayByOneStep : Prop := ∀ (d : Dev) (L : Nat) (rtt : Int),
  (d.flag (LANE_DOUT_VALID L) = true → 64000 < 16 * rtt - (d.lane L).rtt ∨ 64000 < (d.lane L).rtt - 16 * rtt →
    ((takeSample L rtt d).lane L).dout = (d.lane L).dout ∧
    ((d.lane L).disc + 1 = 16 → ((takeSample L rtt d).lane L).samples = [] ∧
      (takeSample L rtt d).flag (LANE_DOUT_VALID L) = false) ∧
    ((d.lane L).disc + 1 ≠ 16 → ((takeSample L rtt d).lane L).samples = (d.lane L).samples ∧
      ((takeSample L rtt d).lane L).disc = (d.lane L).disc + 1)) ∧
  (∀ c, d.ctxOfLane L = some c → d.gangOf c = none →
    ((takeSample L rtt d).lane L).dout - (d.lane L).dout ≤ 8000 ∧
    (d.lane L).dout - ((takeSample L rtt d).lane L).dout ≤ 8000)


/-! ### Cells and contexts (chapters 6 and 5) -/

/-- RETURN_FRAME, RETURN_MISS, SNAPSHOT_DEADLINE: R109, R129 to R131, R198, R242. -/
def Obligations.ReturnCommandsComplete : Prop := ∀ s : State, Ready s →
  -- a RETURN that is not older than the last accepted one is taken
  (∀ (L : Fin 144) (cur : BitVec 20) (bs pl : List Byte) (ch c : Nat), s.dev.flag (LANE_LINK_SYNC L) = true →
    (s.dev.lane L).rx = {} → nymParse bs = some (2, ch, pl) → s.dev.ctxOfLane L = some c →
    (s.dev.lane L).gotRet = true →
    1 ≤ (byteAt pl 0 + 256 - s.dev.get (LANE_SEQ_RSEQ L)) % 256 →
    (byteAt pl 0 + 256 - s.dev.get (LANE_SEQ_RSEQ L)) % 256 < 128 → s.dev.runModel = 4 → s.dev.slu.snap = none →
    ∃ t, exec (.returnFrame L cur (frameSyms bs) false) s = .next t ∧ t.dev.get (LANE_SEQ_RSEQ L) = byteAt pl 0 ∧
      t.dev.get (LANE_SEQ_ACKSEQ L) = byteAt pl 1 ∧
      t.dev.get (LANE_SEQ_RGAP L) = min (s.dev.get (LANE_SEQ_RGAP L) +
        ((byteAt pl 0 + 256 - s.dev.get (LANE_SEQ_RSEQ L)) % 256 - 1)) (2 ^ (LANE_SEQ_RGAP L).w - 1) ∧
      t.dev.get (CTX_STATE_AGE c) = 0 ∧ (t.dev.cell c).ret = some pl ∧ (t.dev.cell c).missed = 0 ∧
      (s.dev.flag (LANE_LINK_LOS L) = false → t.dev.get (LANE_LINK_STATE L) = 4)) ∧
  -- one that meets a full class A buffer is discarded, counted, and raises source 53
  (∀ (L : Fin 144) (cur : BitVec 20) (bs pl : List Byte) (ch c : Nat), s.dev.flag (LANE_LINK_SYNC L) = true →
    (s.dev.lane L).rx = {} → nymParse bs = some (2, ch, pl) → s.dev.ctxOfLane L = some c →
    exec (.returnFrame L cur (frameSyms bs) true) s = .next (s.settles
      (((hearLane L (frameSyms bs) (receive L cur s.dev)).inc (CTX_PAUX_OVFL c)).breach 53 0))) ∧
  -- an older one is dropped: only the receiver has taken its symbols
  (∀ (L : Fin 144) (cur : BitVec 20) (bs pl : List Byte) (ch c : Nat), s.dev.flag (LANE_LINK_SYNC L) = true →
    (s.dev.lane L).rx = {} → nymParse bs = some (2, ch, pl) → s.dev.ctxOfLane L = some c →
    (s.dev.lane L).gotRet = true → 128 ≤ (byteAt pl 0 + 256 - s.dev.get (LANE_SEQ_RSEQ L)) % 256 →
    exec (.returnFrame L cur (frameSyms bs) false) s =
      .next (s.shows (hearLane L (frameSyms bs) (receive L cur s.dev)))) ∧
  -- a frame that does not pass is counted
  (∀ (L : Fin 144) (cur : BitVec 20) (bs : List Byte) (ovf : Bool), s.dev.flag (LANE_LINK_SYNC L) = true →
    (s.dev.lane L).rx = {} → nymParse bs = none → exec (.returnFrame L cur (frameSyms bs) ovf) s =
      .next (s.shows ((hearLane L (frameSyms bs) (receive L cur s.dev)).inc (LANE_ERR_CRC L)))) ∧
  -- RMISS deckles without one: the context is LOST with cause 2; not before
  (∀ c : Fin 128, s.dev.isBound c = true → (s.dev.cell c).gotAny = false → (s.dev.cell c).nb ≤ s.dev.tide.n →
    s.dev.get CTX_ADMIT_CFG_RMISS ≤ (s.dev.cell c).missed + 1 →
    exec (.returnMiss c) s = .next (s.settles (lose 2 c s.dev))) ∧
  (∀ c : Fin 128, (s.dev.cell c).missed + 1 < s.dev.get CTX_ADMIT_CFG_RMISS →
    exec (.returnMiss c) s = .next (s.shows s.dev)) ∧
  -- the deadline releases the LOCKSTEP SNAPSHOT that still waits
  (∀ n, s.dev.slu.snap = some n → exec .snapshotDeadline s = .next (s.settles s.dev.snapshot)) ∧
  (s.dev.slu.snap = none → exec .snapshotDeadline s = .next (s.shows s.dev))

/-- What a loss does to its context (R198 to R201, R339, R348): it is LOST with its cause, nothing of its sheets,
windows and schedules is left, its demand and FILLDONE are gone, and no other context's cell record changes. -/
def Obligations.LostContextIsCleared : Prop := ∀ (d : Dev) (cause c : Nat), d.isBound c = true → cause < 8 → c < 128 →
  (lose cause c d).ctxState c = St.lost ∧ (lose cause c d).get (CTX_STATE_LCAUSE c) = cause ∧
  (lose cause c d).isBound c = false ∧ (lose cause c d).isMember c = true ∧
  (lose cause c d).laneOf c = d.laneOf c ∧
  ((lose cause c d).cell c).buf = [] ∧ ((lose cause c d).cell c).supply = [] ∧ ((lose cause c d).cell c).wins = [] ∧
  ((lose cause c d).cell c).sched = [] ∧ ((lose cause c d).cell c).fails = [] ∧ ((lose cause c d).cell c).hc = 0 ∧
  ((lose cause c d).cell c).safeHold = false ∧
  (lose cause c d).flag (CTX_PSTAT_SAFEREQ c) = false ∧ (lose cause c d).flag (CTX_PSTAT_FILLDONE c) = false ∧
  (∀ L, d.laneOf c = some L → L < 144 → (lose cause c d).get (LANE_CFG_ROLE L) = 0 ∧ ((lose cause c d).lane L).darkIv = true) ∧
  (∀ e, e ≠ c → (lose cause c d).cell e = d.cell e)

/-- ADMIT_REQUEST, APPROVE, DENY, RETIRE, RESUME, RELOCATE: R188 to R193, R203, R204, R211, R239. The first row of R189
that applies decides a request: what is refused, with which reason, before anything of the cell is admitted. -/
def Obligations.AdmissionCommandsComplete : Prop :=
  (∀ s : State, Ready s →
  -- a request on a survey lane: the cell's receive delay enters the lane, and R189 decides
  (∀ (L : Fin 144) (bs pl : List Byte) (ch : Nat), s.dev.flag (LANE_LINK_SYNC L) = true →
    (s.dev.lane L).rx = {} → nymParse bs = some (8, ch, pl) → s.dev.surveyed L = true →
    s.dev.flag (LANE_DOUT_VALID L) = false → exec (.admitRequest L (frameSyms bs) []) s =
    .next (s.settles (decideAdmit (Applicant.ofBytes L pl) (numAt pl 8 2) (byteAt pl 19)
      ((((hearLane L (frameSyms bs) s.dev).onSurvey fun x => { x with deciding := some L.val, removed := false }).onLane
        L fun x => { x with tcrx := numAt pl 12 4 }).put (LANE_LINK_STATE L) 3)))) ∧
  -- on any other lane it has no effect
  (∀ (L : Fin 144) (bs pl : List Byte) (ch : Nat), s.dev.flag (LANE_LINK_SYNC L) = true →
    (s.dev.lane L).rx = {} → nymParse bs = some (8, ch, pl) → s.dev.surveyed L = false →
    exec (.admitRequest L (frameSyms bs) []) s = .next (s.shows (hearLane L (frameSyms bs) s.dev))) ∧
  -- of two in one hub cycle the lower lane is decided first, and the other one against what that leaves
  (∀ (L M : Fin 144) (sL sM : List Sym), L < M →
    let dec (K : Nat) (ss : List Sym) : Dev → Dev := laneFrame K ss 8 (fun _ pl d => takeRequest K pl d)
    exec (.admitRequest L sL [(M, sM)]) s = .next (s.settles (dec M sM (dec L sL s.dev))) ∧
    exec (.admitRequest M sM [(L, sL)]) s = .next (s.settles (dec M sM (dec L sL s.dev)))) ∧
  -- an approval or a denial of a request that was removed in its hub cycle is GONE
  (∀ b : Byte, s.dev.survey.removed = true →
    exec (.approve b true) s = .next (s.shows (s.dev.put CTX_APPROVE_RESULT 3)) ∧
    exec (.deny true) s = .next (s.shows (s.dev.put CTX_APPROVE_RESULT 3))) ∧
  -- an approval with an empty queue, of a context that does not exist, and one that is made
  (∀ (b : Byte) (same : Bool), (same && s.dev.survey.removed) = false → s.dev.survey.queue = [] →
    exec (.approve b same) s = .next (s.shows (s.dev.put CTX_APPROVE_RESULT 5))) ∧
  (∀ (b : Byte) (same : Bool) (a : Applicant) (q : List Applicant), (same && s.dev.survey.removed) = false →
    s.dev.survey.queue = a :: q → 128 ≤ b.toNat → b.toNat ≠ 0xFF →
    exec (.approve b same) s = .next (s.shows (s.dev.put CTX_APPROVE_RESULT 4))) ∧
  (∀ (b : Byte) (same : Bool) (a : Applicant) (q : List Applicant), (same && s.dev.survey.removed) = false →
    s.dev.survey.queue = a :: q → b.toNat < 128 →
    s.dev.ctxState b.toNat = St.free → s.dev.gangOk b.toNat a.lane = true →
    s.dev.polderFull (some b.toNat) a.lane = false → s.dev.lockstepFull (some b.toNat) = false →
    s.dev.surveyed a.lane = true →
    exec (.approve b same) s = .next (s.settles (((admitCell b.toNat a s.dev).onSurvey fun x =>
      { x with deciding := some a.lane }).put CTX_APPROVE_RESULT 1))) ∧
  -- a denial refuses the head of the queue with reason 9
  (∀ same : Bool, (same && s.dev.survey.removed) = false → s.dev.survey.queue = [] →
    exec (.deny same) s = .next (s.shows (s.dev.put CTX_APPROVE_RESULT 5))) ∧
  (∀ (same : Bool) (a : Applicant) (q : List Applicant), (same && s.dev.survey.removed) = false →
    s.dev.survey.queue = a :: q → exec (.deny same) s = .next (s.settles
    ((refuse a.lane a.id 9 ((s.dev.onSurvey fun x => { x with queue := q }).showQueue)).put CTX_APPROVE_RESULT 1))) ∧
  -- retiring a bound context makes it RETIRING, and its exclusion waits for the next map version
  (∀ c : Fin 128, s.dev.ctxState c = St.bound →
    exec (.retire c) s = .next (s.settles (mapChange c false (setSafeHold c false (setCtxState c St.retiring s.dev))))) ∧
  (∀ c : Fin 128, s.dev.ctxState c = St.reserved → exec (.retire c) s = .next (s.settles (setCtxState c St.free
    (((s.dev.put (CTX_BIND_LANE c) 0xFF).clr (CTX_BIND_VALID c)).put2 (CTX_ID_LO c) (CTX_ID_HI c) 0)))) ∧
  (∀ c : Fin 128, s.dev.ctxState c = St.free → exec (.retire c) s = .next (s.shows s.dev)) ∧
  -- RESUME holds for a context in SAFEHOLD on source S; the first one stands
  (∀ c : Fin 128, (s.dev.cell c).safeHold = true → s.dev.srcOf c = 2 →
    exec (.resume c) s = .next (s.shows (s.dev.onCell c fun x => { x with resumeAt := some (x.resumeAt.getD s.dev.now) }))) ∧
  (∀ c : Fin 128, (s.dev.cell c).safeHold = false → exec (.resume c) s = .next (s.shows s.dev)) ∧
  -- a relocation without the key is rejected; with it, and no cause against it, the context moves its reservation
  (∀ (p : Path) (c : Fin 128) (b : Byte) (same : Bool), s.dev.keyed p = false → exec (.relocate p c b same) s =
    .next (s.shows (rejectKey p (0x80018 + 0x100 * c.val) s.dev))) ∧
  (∀ (p : Path) (c : Fin 128) (b : Byte) (same : Bool), s.dev.keyed p = true →
    ((s.dev.keyUsed).put (CTX_RELOC_TARGET c) b.toNat).relocResult c b.toNat
      (same && s.dev.survey.deciding == some b.toNat) = 1 →
    ∃ t, exec (.relocate p c b same) s = .next t ∧ t.dev.get (CTX_RELOC_RESULT c) = 1 ∧ t.dev.ctxState c = St.lost ∧
      t.dev.get (CTX_STATE_LCAUSE c) = 6 ∧ t.dev.get (CTX_BIND_LANE c) = b.toNat ∧
      (t.dev.lane b.toNat).darkIv = true) ∧
  -- one whose target an admission decides or claims in its hub cycle is BUSY
  (∀ (p : Path) (c : Fin 128) (b : Byte), s.dev.keyed p = true → s.dev.survey.deciding = some b.toNat →
    ((s.dev.keyUsed).put (CTX_RELOC_TARGET c) b.toNat).relocResult c b.toNat true = 2 →
    exec (.relocate p c b true) s = .next (s.settles (arbBusy 4 b.toNat 1 1 0xA 3
      (((s.dev.keyUsed).put (CTX_RELOC_TARGET c) b.toNat).put (CTX_RELOC_RESULT c) 2))))) ∧
  (∀ (d : Dev) (a : Applicant) (version reserved : Nat),
  (version / 256 ≠ 1 → decideAdmit a version reserved d = refuse a.lane a.id 3 d) ∧
  (version / 256 = 1 → requestOk a reserved = false → decideAdmit a version reserved d = refuse a.lane a.id 4 d) ∧
  (version / 256 = 1 → requestOk a reserved = true →
    (∃ c, c < 128 ∧ d.isBound c = true ∧ d.ctxId c = a.id ∧ d.laneOf c ≠ some a.lane) →
    decideAdmit a version reserved d = refuse a.lane a.id 2 d) ∧
  (version / 256 = 1 → requestOk a reserved = true →
    (∀ c, c < 128 → d.isBound c = true → d.ctxId c = a.id → d.laneOf c = some a.lane) →
    d.outOfRange (d.lane a.lane).dout = true → decideAdmit a version reserved d = refuse a.lane a.id 8 d) ∧
  (version / 256 = 1 → requestOk a reserved = true →
    (∀ c, c < 128 → d.isBound c = true → d.ctxId c = a.id → d.laneOf c = some a.lane) →
    d.outOfRange (d.lane a.lane).dout = false → d.flag (LANE_DOUT_VALID a.lane) = false →
    decideAdmit a version reserved d = decision a.lane a.id 3 0 0 0 d))

/-! ### Sheets and proof (chapter 5) -/

/-- SHEET_LAUNCH, ECHO_GROUP, PROOF_WINDOW_CLOSE, PROOF_RECORD_RELEASE, PROOF_SUMMARY_BREACH: R119, R120, R148, R160,
R163, R164, R168, R174, R175. -/
def Obligations.ProofCommandsComplete : Prop := ∀ s : State, Ready s →
  -- the oldest sheet of the lane's context leaves
  (∀ (L : Fin 144) (t0 t1 : BitVec 64) (within : BitVec 10) (c : Nat), s.dev.ctxOfLane L = some c →
    s.dev.lanesLit = true → (s.dev.cell c).buf ≠ [] →
    exec (.sheetLaunch L t0 t1 within) s =
      .next (s.settles (launch c L t0.toNat t1.toNat within.toNat s.dev))) ∧
  (∀ (L : Fin 144) (t0 t1 : BitVec 64) (within : BitVec 10) (c : Nat), s.dev.ctxOfLane L = some c →
    (s.dev.cell c).buf = [] → exec (.sheetLaunch L t0 t1 within) s = .next (s.shows s.dev)) ∧
  (∀ (L : Fin 144) (t0 t1 : BitVec 64) (within : BitVec 10), s.dev.ctxOfLane L = none →
    exec (.sheetLaunch L t0 t1 within) s = .next (s.shows s.dev)) ∧
  -- an echo group with an invalid code group, or that fails its CRC-8, is rejected and counted; one that passes acts on
  -- the lane's context, or is discarded where its buffer is full
  (∀ (L : Fin 144) (t : BitVec 64) (syms : List Sym) (bads : Fin 4) (a b crc : Byte),
    s.dev.flag (LANE_LINK_SYNC L) = true →
    let d := (laneSyms L syms s.dev).onLane L fun x => { x with rx := x.rx.group }
    (∀ ovf, bads.val ≠ 0 ∨ crc8 [a, b] ≠ crc.toNat → exec (.echoGroup L t syms bads a b crc ovf) s =
      .next (s.shows (d.add (LANE_ERR_CODE L) (bads.val + 1)))) ∧
    (crc8 [a, b] = crc.toNat → exec (.echoGroup L t syms 0 a b crc false) s =
      .next (s.settles (echo L t.toNat (Echo.ofBytes [a, b]) d))) ∧
    (∀ c, crc8 [a, b] = crc.toNat → d.ctxOfLane L = some c → exec (.echoGroup L t syms 0 a b crc true) s =
      .next (s.settles ((d.inc (CTX_PAUX_OVFL c)).breach 53 0)))) ∧
  -- a window that closes without its echo is SILENT with cause 5; before its closing cycle it stays open
  (∀ (c : Fin 128) (q : Byte) (k : Fin 4) (t : BitVec 64) (L : Nat) (w : Window), s.dev.laneOf c = some L →
    (s.dev.cell c).wins.find? (fun w => w.ssq == q.toNat && w.idx == k.val) = some w →
    (s.dev.closing L w ≤ polderCycle (tdcU t.toNat) → ∃ u, exec (.proofWindowClose c q k t) s = .next u ∧
      (u.dev.cell c).wins = (s.dev.cell c).wins.filter (· ≠ w) ∧
      (u.dev.cell c).recs = (s.dev.cell c).recs ++ [⟨c, 2, w.idx, w.asp, 0xF, 5, w.ssq, w.tgt, 0x7FFF, w.cfg⟩]) ∧
    (polderCycle (tdcU t.toNat) < s.dev.closing L w →
      exec (.proofWindowClose c q k t) s = .next (s.shows s.dev))) ∧
  (∀ (c : Fin 128) (q : Byte) (k : Fin 4) (t : BitVec 64), (s.dev.cell c).wins = [] →
    exec (.proofWindowClose c q k t) s = .next (s.shows s.dev)) ∧
  -- the oldest decided outcome is released to every route
  (∀ (c : Fin 128) (ovf : Bool) (r : Rec) (rs : List Rec), (s.dev.cell c).recs = r :: rs →
    exec (.proofRecordRelease c ovf) s =
      .next (s.settles (release c r ovf (s.dev.onCell c fun x => { x with recs := rs })))) ∧
  (∀ (c : Fin 128) (ovf : Bool), (s.dev.cell c).recs = [] →
    exec (.proofRecordRelease c ovf) s = .next (s.shows s.dev)) ∧
  -- FAILLIM failing target deckles raise source 50
  (∀ c : Fin 128, (s.dev.cell c).failDue = true → exec (.proofSummaryBreach c) s =
    .next (s.settles ((s.dev.onCell c fun x => { x with failDue := false }).breach 50 0))) ∧
  (∀ c : Fin 128, (s.dev.cell c).failDue = false → exec (.proofSummaryBreach c) s = .next (s.shows s.dev))

/-- A matching echo decides its window (R164): contradicted before the opening or with another aspect, proven within
the switching time, late after it; and the window is gone. A window whose closing cycle lies before that of an echo has
closed for it (R163). -/
def Obligations.EchoDecidesWindow : Prop := ∀ (d : Dev) (c L t : Nat) (e : Echo) (w : Window),
  (∀ (cycle : Int) (v : Window), v ∈ ((closeWins c L cycle d).cell c).wins ↔
    v ∈ (d.cell c).wins ∧ cycle ≤ d.closing L v) ∧
  ((echoDecides c L t e w d).cell c).wins = (d.cell c).wins.filter (· ≠ w) ∧
  (∀ c', c' ≠ c → (echoDecides c L t e w d).cell c' = d.cell c') ∧
  ∃ r, ((echoDecides c L t e w d).cell c).recs = (d.cell c).recs ++ [r] ∧ r.ctx = c ∧ r.entry = w.idx ∧ r.cmd = w.asp ∧
    r.fb = e.asp ∧ r.deckle = w.tgt ∧ r.cfg = w.cfg ∧
    (tdcU t < d.opening L w → r.outcome = 1 ∧ r.cause = 2) ∧
    (d.opening L w ≤ tdcU t → e.asp ≠ w.asp → r.outcome = 1 ∧ r.cause = 1) ∧
    (d.opening L w ≤ tdcU t → e.asp = w.asp → d.echoDelta L t e w ≤ w.tsw → r.outcome = 0 ∧ r.cause = 0) ∧
    (d.opening L w ≤ tdcU t → e.asp = w.asp → w.tsw < d.echoDelta L t e w → r.outcome = 3)


/-! ### Sluice port and couch (chapters 7 and 8) -/

/-- SLUICE_SYNC_ACQUIRE, SLUICE_SYNC_LOSS, REAM_FRAME, REAM_CUTOFF, SAFEHOLD_ENTRY, SLUICE_TRANSMIT: R220, R221, R227
to R231, R237, R238, R241, R245. The checks on a ream (R229), in order: the first that fails discards it with its cause
and its counter. -/
def Obligations.SluiceCommandsComplete : Prop :=
  (∀ (s : State) (k : Fin 2), Ready s →
  -- an enabled lane that waits for sync becomes UP, its next frame sets RSQ; event 185
  (s.dev.get (SLU_LINK_STATE k) = 1 → exec (.sluiceSyncAcquire k) s = .next (s.settles
    (refreshSluice (((s.dev.onSluLane k fun x => { x with firstRx := true }).put (SLU_LINK_STATE k) 2).event 185)))) ∧
  (s.dev.get (SLU_LINK_STATE k) = 0 → exec (.sluiceSyncAcquire k) s = .next (s.shows s.dev)) ∧
  -- a lane that leaves sync counts its code errors and the frame that was cut, and waits for sync
  (∀ n : Byte, s.dev.get (SLU_LINK_STATE k) = 2 → exec (.sluiceSyncLoss k n false) s = .next (s.settles
    (refreshSluice (setSluState k 1 (s.dev.add (SLU_LINK_CODE k) n.toNat))))) ∧
  (∀ n : Byte, s.dev.get (SLU_LINK_STATE k) = 2 → exec (.sluiceSyncLoss k n true) s = .next (s.settles
    (refreshSluice (setSluState k 1 (noteCause k 1 ((s.dev.add (SLU_LINK_CODE k) n.toNat).inc (SLU_LINK_CRC k))))))) ∧
  -- a frame that is cut by a control symbol, one that fails R227, and one that passes
  (∀ (ta : BitVec 64) (bs : List Byte) (o : List (Fin 128)), s.dev.sluUp k = true →
    exec (.reamFrame k ta .framing bs o) s = .next (s.shows (s.dev.inc (SLU_LINK_FRAMING k)))) ∧
  (∀ (ta : BitVec 64) (bs : List Byte) (o : List (Fin 128)), s.dev.sluUp k = true → sluParse bs = none →
    exec (.reamFrame k ta .whole bs o) s = .next (s.settles (noteFrame k (sluCrcOk bs)
      (noteCause k 1 (s.dev.inc (SLU_LINK_CRC k)))))) ∧
  (∀ (ta : BitVec 64) (bs pl : List Byte) (o : List (Fin 128)) (seq : Nat), s.dev.sluUp k = true →
    sluParse bs = some (1, seq, pl) →
    exec (.reamFrame k ta .whole bs o) s = .next (s.settles (takeReam k seq ta.toNat pl (o.map (·.val))
      (noteFrame k true s.dev)))) ∧
  (∀ (ta : BitVec 64) (fr : FrameEnd) (bs : List Byte) (o : List (Fin 128)), s.dev.sluUp k = false →
    exec (.reamFrame k ta fr bs o) s = .next (s.shows s.dev)) ∧
  -- the next cut-off gives every bound context its sheet; each cut-off is worked once; the sheet that meets a full
  -- polder buffer is discarded
  (∀ o : List (Fin 128), s.dev.running = true → s.dev.tide.cut ≤ s.dev.tide.n →
    exec (.reamCutoff o) s =
      .next (s.settles (each o (fun c d => dropSheet c.val d) (cutOff (s.dev.tide.n + 1) s.dev)))) ∧
  (∀ o : List (Fin 128), s.dev.tide.n < s.dev.tide.cut → exec (.reamCutoff o) s = .next (s.shows s.dev)) ∧
  -- a discarded sheet is the newest; it is counted and raises source 53
  (∀ c : Fin 128, (s.dev.cell c).buf ≠ [] → dropSheet c s.dev =
    (((s.dev.onCell c fun x => { x with buf := x.buf.dropLast }).inc (CTX_PAUX_OVFL c)).breach 53 0)) ∧
  -- a BOUND context whose repeats have reached the limit enters SAFEHOLD
  (∀ c : Fin 128, s.dev.applies = true → s.dev.ctxState c = St.bound → (s.dev.cell c).safeHold = false →
    s.dev.done c s.dev.nextCut = false → s.dev.get SLU_HOLD_LIMIT ≤ (s.dev.cell c).hc →
    s.dev.supplyFor c (s.dev.srcFor c s.dev.nextCut) s.dev.nextCut = none → s.dev.demanded c = false →
    exec (.safeholdEntry c) s = .next (s.settles ((enterHold c s.dev.nextCut s.dev).breach 49 0))) ∧
  (∀ c : Fin 128, (s.dev.cell c).hc < s.dev.get SLU_HOLD_LIMIT →
    exec (.safeholdEntry c) s = .next (s.shows s.dev)) ∧
  -- a free transmitter sends a frame of the oldest waiting class A item; in LOAD, RAISE and TEST it sends none
  (∀ now : BitVec 64, s.dev.sluEnabled k = true → s.dev.get GLB_MODE_MODE ≠ 0 → s.dev.get GLB_MODE_MODE ≠ 1 →
    s.dev.get GLB_MODE_MODE ≠ 0xA → exec (.sluiceTransmit k now) s = .next (s.settles (sluTransmit k now.toNat s.dev))) ∧
  (∀ now : BitVec 64, s.dev.get GLB_MODE_MODE = 0 → exec (.sluiceTransmit k now) s = .next (s.shows s.dev))) ∧
  (∀ (d : Dev) (k seq ta : Nat) (pl : List Byte) (ovf : List Nat), k < 2 →
  (d.reamForm (ReamFrame.ofBytes (d.fullDeckle (numAt pl 0 4)) pl) pl = false →
    takeReam k seq ta pl ovf d = (noteCause k 2 d).inc (SLU_RERR_OTHER k)) ∧
  (d.reamForm (ReamFrame.ofBytes (d.fullDeckle (numAt pl 0 4)) pl) pl = true → (d.sluLane k).firstRx = false →
    ((seq + 65536 - d.get (SLU_RSQ_RSQ k)) % 65536 = 0 ∨ 32768 ≤ (seq + 65536 - d.get (SLU_RSQ_RSQ k)) % 65536) →
    takeReam k seq ta pl ovf d = (noteCause k 3 d).inc (SLU_RERR_SEQ k)) ∧
  (d.reamForm (ReamFrame.ofBytes (d.fullDeckle (numAt pl 0 4)) pl) pl = true → (d.sluLane k).firstRx = true →
    d.reamMap (ReamFrame.ofBytes (d.fullDeckle (numAt pl 0 4)) pl) = false → d.sluSplit = false →
    takeReam k seq ta pl ovf d = (noteCause k 4 ((d.onSluLane k fun x => { x with firstRx := false }).put
      (SLU_RSQ_RSQ k) seq)).inc (SLU_RERR_MAP k)) ∧
  -- the cause is the lane's and, for the SNAPSHOT, the source's
  (∀ cause, cause < 16 → (noteCause k cause d).get (SLU_LINK_LCAUSE k) = cause ∧
    ((noteCause k cause d).source (d.laneSource k)).cause = cause))

/-- CTRL_MODE, CTRL_TARGET, CTRL_COUCH, CTRL_PING, CTRL_STATUS, CTRL_UNKNOWN: R44, R64, R248, R249, R260.
COUCH_REQUEST, COUCH_CANCEL, COUCH_TIMEOUT: R260, R261, R267 to R270, R277. -/
def Obligations.CtrlAndCouchCommandsComplete : Prop :=
  (∀ (s : State) (k : Fin 2) (tag : Byte), Ready s →
  (s.dev.sluUp k = true → (s.dev.sluLane k).busy = false →
    let d := (noteFrame k true s.dev).onSluLane k fun x => { x with busy := true }
    -- each is decided, and its RESULT is answered
    (∀ (a : Byte) (same : Bool), let q := request 2 (a.toNat % 16) (a.toNat.testBit 4) same d
      exec (.ctrlMode k tag [a] same) s = .next (s.settles (answer k 1 tag.toNat q.1 [] q.2))) ∧
    (∀ bs : List Byte, bs.length = 6 → d.decideTarget (d.flag TIDE_NCO_CFG_ENG_TGT) (Dev.nat bs) = 1 →
      exec (.ctrlTarget k tag bs) s = .next (s.settles (answer k 2 tag.toNat 1 []
        ((takeTarget (Dev.nat bs) d).onTide fun x => { x with engTaken := true })))) ∧
    (∀ (bs : List Byte) (r : Nat), bs.length = 6 → d.decideTarget (d.flag TIDE_NCO_CFG_ENG_TGT) (Dev.nat bs) = r → r ≠ 1 →
      exec (.ctrlTarget k tag bs) s = .next (s.shows (answer k 2 tag.toNat r [] d))) ∧
    -- a couch request in the hub cycle of a request or imposed mode that ranks at least as high is BUSY
    (∀ (a b : Byte) (same : Bool), d.outranked same 6 = true → exec (.ctrlCouch k tag [a, b] same) s =
      .next (s.shows (answer k 3 tag.toNat 2 [] d))) ∧
    (∀ (a b : Byte) (same : Bool), d.outranked same 6 = false → d.decideCouch true a.toNat ≠ 1 →
      exec (.ctrlCouch k tag [a, b] same) s =
        .next (s.shows (answer k 3 tag.toNat (d.decideCouch true a.toNat) [] (noteCycle same 6 d)))) ∧
    (∀ (a b : Byte) (same : Bool), d.outranked same 6 = false → d.decideCouch true a.toNat = 1 →
      exec (.ctrlCouch k tag [a, b] same) s =
        .next (s.settles (answer k 3 tag.toNat 1 [] (requestCouch true a.toNat b.toNat same d).2))) ∧
    (∀ t : BitVec 64, exec (.ctrlPing k tag t []) s = .next (s.shows (d.onSluLane k fun x =>
      { x with queue := x.queue ++ [.ping tag.toNat t.toNat] }))) ∧
    (exec (.ctrlStatus k tag []) s = .next (s.shows (answer k 5 tag.toNat 1 (le 4 (d.storedWord (0x30010 + 4 * k.val)) ++
      le 4 (d.storedWord (0x30018 + 4 * k.val)) ++ le 4 (d.storedWord (0x30028 + 4 * k.val))) d))) ∧
    -- an unknown OP, or arguments that are not the OP's, are answered with OP 0xFF and RESULT 0xFF
    (∀ op : Byte, exec (.ctrlUnknown k op tag) s = .next (s.shows (answer k 127 tag.toNat 0xFF [] d))) ∧
    (∀ (bs : List Byte) (same : Bool), bs.length ≠ 1 →
      exec (.ctrlMode k tag bs same) s = .next (s.shows (answer k 127 tag.toNat 0xFF [] d)))) ∧
  -- while the previous request of the lane waits, BUSY
  (s.dev.sluUp k = true → (s.dev.sluLane k).busy = true → ∀ (bs : List Byte) (same : Bool),
    exec (.ctrlMode k tag bs same) s = .next (s.shows ((noteFrame k true s.dev).onSluLane k fun x => { x with queue := x.queue ++ [.ctrl false [0x81, tag, 2, 0]] }))) ∧
  -- a lane that is not in sync receives nothing
  (s.dev.sluUp k = false → ∀ (bs : List Byte) (same : Bool), exec (.ctrlMode k tag bs same) s = .next (s.shows s.dev) ∧
    exec (.ctrlTarget k tag bs) s = .next (s.shows s.dev) ∧ exec (.ctrlStatus k tag bs) s = .next (s.shows s.dev))) ∧
  (∀ s : State, Ready s →
  (∀ (src pol : BitVec 2) (same : Bool), s.dev.outranked same 6 = true → exec (.couchRequest src pol same) s =
    .next (s.shows (s.dev.put COUCH_STATUS_RESULT 2))) ∧
  (∀ (src pol : BitVec 2) (same : Bool), s.dev.outranked same 6 = false → s.dev.decideCouch false src.toNat ≠ 1 →
    exec (.couchRequest src pol same) s =
      .next (s.shows ((noteCycle same 6 s.dev).put COUCH_STATUS_RESULT (s.dev.decideCouch false src.toNat)))) ∧
  -- an accepted one waits for the boundary with its source and its policy
  (∀ (src pol : BitVec 2) (same : Bool), s.dev.outranked same 6 = false → s.dev.decideCouch false src.toNat = 1 →
    s.dev.running = true →
    ∃ t, exec (.couchRequest src pol same) s = .next t ∧ t.dev.get COUCH_STATUS_RESULT = 1 ∧
      t.dev.get GLB_MODE_PENDING = 6 ∧ t.dev.mode.pendCause = 1 ∧
      t.dev.get GLB_MODE_MODE = s.dev.get GLB_MODE_MODE ∧ t.dev.couch.wait = some (src.toNat, pol.toNat)) ∧
  -- at its start the couch takes FORCE for policy 1, ABORT for 2, and else the default that then stands
  (∀ (src pol : Nat), src < 4 → s.dev.couch.wait = some (src, pol) → s.dev.get COUCH_CFG_POLICY < 2 →
    (couchStart s.dev).get COUCH_STATUS_POLICY = (if pol = 1 then 0 else if pol = 2 then 1 else s.dev.get COUCH_CFG_POLICY)) ∧
  -- a cancel ends the couch, back on the outgoing source, at a target deckle whose cut-off lies 1 µs ahead
  (s.dev.flag COUCH_STATUS_ACTIVE = true → s.dev.couch.ending = none →
    exec .couchCancel s = .next (s.shows (s.dev.onCouch fun x =>
      { x with ending := some (s.dev.firstAhead 4 s.dev.nextCut, 7) }))) ∧
  -- unless FORCE ends it sooner
  (∀ b code : Nat, s.dev.couch.ending = some (b, code) → b < s.dev.firstAhead 4 s.dev.nextCut →
    exec .couchCancel s = .next (s.shows s.dev)) ∧
  (s.dev.flag COUCH_STATUS_ACTIVE = false → exec .couchCancel s = .next (s.shows s.dev)) ∧
  -- the timeout under FORCE: the couch completes after the target of the device-built sheets
  (s.dev.flag COUCH_STATUS_ACTIVE = true → s.dev.get COUCH_PROG_REMAIN ≠ 0 →
    s.dev.couch.m1 + s.dev.couch.timeout ≤ s.dev.tide.cut + 1 → s.dev.couch.ending = none →
    s.dev.get COUCH_STATUS_POLICY = 0 →
    ∃ t, exec .couchTimeout s = .next t ∧ t.dev.couch.ending = some (s.dev.couch.m1 + s.dev.couch.timeout + 1, 2) ∧
      t.dev.flag COUCH_STATUS_ACTIVE = true) ∧
  -- under ABORT: every context is on the outgoing source, END = 3, source 48
  (s.dev.flag COUCH_STATUS_ACTIVE = true → s.dev.get COUCH_PROG_REMAIN ≠ 0 →
    s.dev.couch.m1 + s.dev.couch.timeout ≤ s.dev.tide.cut + 1 → s.dev.couch.ending = none →
    s.dev.get COUCH_STATUS_POLICY = 1 → s.dev.brch.on = true →
    ∃ t, exec .couchTimeout s = .next t ∧ t.dev.flag COUCH_STATUS_ACTIVE = false ∧ t.dev.get COUCH_STATUS_END = 3 ∧
      t.dev.get SLU_SRC_ACTIVE = s.dev.get COUCH_STATUS_OUT % 4 ∧ t.dev.flag (BRCH_STICKY 48) = true) ∧
  -- a couch that is complete has no timeout
  (s.dev.get COUCH_PROG_REMAIN = 0 → exec .couchTimeout s = .next (s.shows s.dev)))


/-! ### Bulk, management and telemetry of the cells; the endpoint; races; the vat (chapters 4 and 9) -/

/-- TELEM_FRAME, MGMT_RESPONSE, MGMT_TIMEOUT, BULK_FRAME_RECEIVE, BULK_PACKET_SEND, BULK_RESEND_TIMEOUT,
BULK_CREDIT_REPORT: R115, R132 to R134, R295, R296, R298, R301, R304. -/
def Obligations.CellTrafficCommandsComplete : Prop := ∀ (s : State) (L : Fin 144), Ready s →
  (∀ (bs pl : List Byte) (ch c : Nat), s.dev.flag (LANE_LINK_SYNC L) = true → (s.dev.lane L).rx = {} →
    let h := hearLane L (frameSyms bs) s.dev
    -- telemetry of a stream that the host wants goes into its race's open buffer
    (∀ (q : Nat) (x : Desc), nymParse bs = some (3, ch, pl) → s.dev.ctxOfLane L = some c → ch < 4 →
      s.dev.bit (CTX_HROUTE_TCHEN c) ch = true → s.dev.get (CTX_HROUTE_TRACE c) = q → s.dev.raceKind q = 1 →
      s.dev.raceServes q = true → s.dev.openDesc q = some x → x.dlen + (s.dev.telemRec c ch pl).length ≤ x.len →
      exec (.telemFrame L (frameSyms bs)) s = .next (s.settles ((writeRec q x (s.dev.telemRec c ch pl) h).onCell c fun y =>
        { y with tseq := Table.put 0 y.tseq ch (byteAt pl 0 + 1) }))) ∧
    -- with no open buffer it is dropped and counted
    (∀ q : Nat, nymParse bs = some (3, ch, pl) → s.dev.ctxOfLane L = some c → ch < 4 →
      s.dev.bit (CTX_HROUTE_TCHEN c) ch = true → s.dev.get (CTX_HROUTE_TRACE c) = q → s.dev.raceServes q = true →
      s.dev.openDesc q = none →
      exec (.telemFrame L (frameSyms bs)) s = .next (s.shows (h.inc (RACE_STAT_DROPS q)))) ∧
    -- the answer of the context that was asked ends the request
    (nymParse bs = some (6, ch, pl) → s.dev.ctxOfLane L = some c → byteAt pl 1 < 32 →
      (s.dev.race (byteAt pl 1)).asked = some c → byteAt pl 0 = 0x82 →
      exec (.mgmtResponse L (frameSyms bs)) s = .next (s.settles (mgmtEnd (byteAt pl 1) 7 (byteAt pl 4) h))) ∧
    (nymParse bs = some (6, ch, pl) → s.dev.ctxOfLane L = some c → (s.dev.race (byteAt pl 1)).asked ≠ some c →
      exec (.mgmtResponse L (frameSyms bs)) s = .next (s.shows h)) ∧
    -- a BULK frame of a BOUND cell: its credit is taken, its packet staged, and what a race can take moves on
    (nymParse bs = some (5, ch, pl) → s.dev.bulkCtx L = some c → exec (.bulkFrameReceive L (frameSyms bs)) s =
      .next (s.settles (drainIn 256 c L (takePacket L pl (takeCredit L (byteAt pl 4) (byteAt pl 5) h))))) ∧
    -- a frame that fails its CRC is counted
    (nymParse bs = none → ∀ i, i ∈ [Instr.telemFrame L (frameSyms bs), .mgmtResponse L (frameSyms bs),
      .bulkFrameReceive L (frameSyms bs)] → exec i s = .next (s.shows (h.inc (LANE_ERR_CRC L))))) ∧
  (∀ (q : Fin 32) (c : Nat), (s.dev.race q).asked = some c →
    exec (.mgmtTimeout q) s = .next (s.settles (mgmtEnd q 8 0 s.dev))) ∧
  (∀ q : Fin 32, (s.dev.race q).asked = none → exec (.mgmtTimeout q) s = .next (s.shows s.dev)) ∧
  -- a staged packet leaves while the cell has credit
  (∀ (c : Nat) (p : Packet) (ps : List Packet), s.dev.bulkCtx L = some c → (s.dev.lane L).staged = p :: ps →
    s.dev.laneFree L = true → s.dev.inFlight L < (s.dev.lane L).cellC0 →
    ∃ t, exec (.bulkPacketSend L) s = .next t ∧ t.dev.get (LANE_BULK_PSEQ L) = (s.dev.get (LANE_BULK_PSEQ L) + 1) % 256 ∧
      (t.dev.lane L).staged = ps ∧ (t.dev.lane L).unacked = (s.dev.lane L).unacked ++ [p] ∧
      (t.dev.lane L).owed = false) ∧
  (∀ c : Nat, s.dev.bulkCtx L = some c → (s.dev.lane L).cellC0 ≤ s.dev.inFlight L →
    exec (.bulkPacketSend L) s = .next (s.shows s.dev)) ∧
  -- while a sheet of the lane's context waits, no frame of a lower class starts
  (s.dev.laneFree L = false → exec (.bulkPacketSend L) s = .next (s.shows s.dev) ∧
    exec (.bulkResendTimeout L) s = .next (s.shows s.dev) ∧ exec (.bulkCreditReport L) s = .next (s.shows s.dev)) ∧
  -- the packets from NEXT on are sent again, and the repetition is counted once (the model's choice: log 103)
  (∀ c : Nat, s.dev.bulkCtx L = some c → s.dev.laneFree L = true →
    (s.dev.lane L).unacked.drop (((s.dev.lane L).peerNext + 256 - (s.dev.lane L).peerCack) % 256) ≠ [] →
    ∃ t, exec (.bulkResendTimeout L) s = .next t ∧
      t.dev.get (LANE_BULK_RETX L) = min (s.dev.get (LANE_BULK_RETX L) + 1) (2 ^ (LANE_BULK_RETX L).w - 1) ∧
      (t.dev.lane L).unacked = (s.dev.lane L).unacked ∧ t.dev.get (LANE_BULK_PSEQ L) = s.dev.get (LANE_BULK_PSEQ L)) ∧
  ((s.dev.lane L).unacked = [] → exec (.bulkResendTimeout L) s = .next (s.shows s.dev)) ∧
  -- a report that is owed goes out alone; its XID and PSEQ are the model's choice (log 103)
  (∀ (c : Nat) (f : List Byte), s.dev.bulkCtx L = some c → (s.dev.lane L).owed = true → s.dev.laneFree L = true →
    s.dev.flag PWR_STATUS_OPTOFF = false → f = nymFrame 5 (s.dev.bulkBytes L (s.dev.get (LANE_BULK_PSEQ L)) 4 0 []) →
    exec (.bulkCreditReport L) s = .next (s.shows ((s.dev.emits (.lane L f)).onLane L fun x =>
      { x with owed := false, tx := f.length + 2 }))) ∧
  ((s.dev.lane L).owed = false → exec (.bulkCreditReport L) s = .next (s.shows s.dev))

/-- PCIE_LINK_DOWN, FUNCTION_LEVEL_RESET, PCIE_LINK_UP, DMA_ERROR: R284, R285, R319. RACE_ENABLE, RACE_DOORBELL,
DESCRIPTOR_FETCH, BULK_OUT_PACKET_READ, DESCRIPTOR_COMPLETE, RACE_IRQ_TIMER, RACE_FLUSH_TIMER, RACE_STOP, RACE_RESUME,
RACE_REARM: R286 to R298, R308, R309, R315. -/
def Obligations.EndpointAndRaceCommandsComplete : Prop :=
  (∀ s : State, Ready s →
  (s.dev.pcie.up = true → ∃ t, exec .pcieLinkDown s = .next t ∧ t.dev.pcie.up = false ∧
    t.dev.flag RACE_DMA_LINKUP = false ∧ t.dev.pcie.fnMask = false ∧ t.dev.pcie.mask = 0xFFFFFFFF ∧
    (∀ q, q < 32 → s.dev.flag (RACE_CFG_EN q) = true →
      t.dev.flag (RACE_STAT_STOPPED q) = true ∧ t.dev.get (RACE_STAT_ERR q) = 6) ∧ t.dev.flag (EVT_PEND 188) = true) ∧
  (s.dev.pcie.up = false → exec .pcieLinkDown s = .next (s.shows s.dev)) ∧
  (s.dev.pcie.up = true → ∃ t, exec .functionLevelReset s = .next t ∧ t.dev.pcie.up = true ∧
    t.dev.pcie.tbl = [] ∧ t.dev.get RACE_DMA_FLRCNT = min (s.dev.get RACE_DMA_FLRCNT + 1) (2 ^ RACE_DMA_FLRCNT.w - 1) ∧
    t.dev.flag (EVT_PEND 188) = true ∧
    ∀ q, q < 32 → s.dev.flag (RACE_CFG_EN q) = true → t.dev.flag (RACE_STAT_STOPPED q) = true) ∧
  (∀ w g : Fin 3, s.dev.pcie.up = false → exec (.pcieLinkUp w g) s = .next (s.shows (((((s.dev.onPcie fun p =>
    { p with up := true }).set RACE_DMA_LINKUP).put RACE_DMA_WIDTH (2 ^ w.val)).put RACE_DMA_GEN (g.val + 1)).event 188))) ∧
  -- an error stops its race with ERR = 5, is counted, and raises source 27
  (∀ (q : Fin 32) (b : Bool) (c : Fin 128) (bs : List Byte), s.dev.raceRuns q = true → s.dev.brch.on = true →
    ∃ t, exec (.dmaError q b c bs) s = .next t ∧ t.dev.flag (RACE_STAT_STOPPED q) = true ∧
      t.dev.get (RACE_STAT_ERR q) = 5 ∧
      t.dev.get RACE_DMA_DMAERR = min (s.dev.get RACE_DMA_DMAERR + 1) (2 ^ RACE_DMA_DMAERR.w - 1) ∧
      t.dev.flag (BRCH_STICKY 27) = true ∧ t.dev.flag (EVT_PEND (128 + q)) = true ∧
      -- the MGMT WRITE whose descriptor was read, and whose data were not, is held with STATUS DMA
      (b = true → s.dev.raceKind q = 6 → s.dev.openDesc q = none → s.dev.mayFetch q = true → bs.length = 32 →
        (t.dev.race q).descs = (s.dev.race q).descs ++ [{ s.dev.descOf q bs [] with status := some 6 }])) ∧
  (∀ (q : Fin 32) (b : Bool) (c : Fin 128) (bs : List Byte), s.dev.raceRuns q = false →
    exec (.dmaError q b c bs) s = .next (s.shows s.dev))) ∧
  (∀ (s : State) (q : Fin 32), Ready s →
  -- an enable writes SIZE, KIND and the class, and turns away a kind of the other direction with ERR = 1
  (∀ v : Word, v.toNat.testBit 31 = true → s.dev.raceRuns q = false → kindFits q (v.toNat % 16) = false →
    exec (.raceEnable q v) s = .next (s.shows (((((s.dev.put (RACE_CFG_SIZE q)
      (max 4 (min 16 (v.toNat / 2 ^ 24 % 16)))).put (RACE_CFG_KIND q) (v.toNat % 16)).put (RACE_CFG_CLASS q)
      (kindClass (v.toNat % 16))).clr (RACE_CFG_EN q)).put (RACE_STAT_ERR q) 1))) ∧
  (∀ v : Word, v.toNat.testBit 31 = true → s.dev.raceOn q = false → kindFits q (v.toNat % 16) = true →
    v.toNat % 16 ≠ 4 → ∃ t, exec (.raceEnable q v) s = .next t ∧ t.dev.flag (RACE_CFG_EN q) = true ∧
      t.dev.get (RACE_CFG_KIND q) = v.toNat % 16 ∧
      (t.dev.race q).base = s.dev.get (RACE_BASE_LO_ADDR q) * 4096 + s.dev.get (RACE_BASE_HI q) * 2 ^ 32) ∧
  -- a second enabled VAT race is turned away with ERR = 2, and recorded
  (∀ (v : Word) (r : Nat), v.toNat.testBit 31 = true → s.dev.raceRuns q = false → v.toNat % 16 = 4 → q.val < 16 →
    s.dev.vatTested = false → r < 32 → r ≠ q.val → s.dev.raceOn r = true → s.dev.raceKind r = 4 →
    ∃ t, exec (.raceEnable q v) s = .next t ∧ t.dev.flag (RACE_CFG_EN q) = false ∧ t.dev.get (RACE_STAT_ERR q) = 2 ∧
      t.dev.get GLB_BUSY_RKIND = 8) ∧
  (∀ v : Word, v.toNat.testBit 31 = false → s.dev.raceRuns q = true →
    exec (.raceEnable q v) s = .next (s.shows (s.dev.clr (RACE_CFG_EN q)))) ∧
  -- a doorbell that posts more than the ring holds stops the race with ERR = 3
  (∀ v : Word, s.dev.raceOn q = true → 2 ^ (s.dev.race q).size < (v.toNat + 2 ^ 32 - s.dev.get (RACE_NSEQ q)) % 2 ^ 32 →
    exec (.raceDoorbell q v) s = .next (s.settles (stopRace q 3 s.dev))) ∧
  (∀ v : Word, s.dev.raceOn q = true → (v.toNat + 2 ^ 32 - s.dev.get (RACE_NSEQ q)) % 2 ^ 32 ≤ 2 ^ (s.dev.race q).size →
    s.dev.raceKind q ≠ 5 → exec (.raceDoorbell q v) s = .next (s.shows (s.dev.put (RACE_TAIL q) v.toNat))) ∧
  -- a descriptor that may be fetched, in the race's turn: an H2D one whose number is not HEAD stops it with ERR = 4
  (∀ bs data : List Byte, s.dev.mayFetch q = true → s.dev.dmaTurn q = true → 16 ≤ q.val →
    numAt bs 12 4 ≠ s.dev.get (RACE_HEAD q) →
    ∃ t, exec (.descriptorFetch q bs data) s = .next t ∧ t.dev.flag (RACE_STAT_STOPPED q) = true ∧
      t.dev.get (RACE_STAT_ERR q) = 4 ∧ t.dev.get (RACE_HEAD q) = (s.dev.get (RACE_HEAD q) + 1) % 2 ^ 32) ∧
  (∀ bs data : List Byte, s.dev.mayFetch q = true → s.dev.dmaTurn q = true →
    let e := (dmaServed q s.dev).put (RACE_HEAD q) (s.dev.get (RACE_HEAD q) + 1)
    (q.val < 16 → exec (.descriptorFetch q bs data) s =
      .next (s.settles (postBuffer q (s.dev.descOf q bs data) e))) ∧
    (16 ≤ q.val → numAt bs 12 4 = s.dev.get (RACE_HEAD q) → exec (.descriptorFetch q bs data) s = .next (s.settles
      (if s.dev.raceKind q = 5 then postBulk q (s.dev.descOf q bs data) e
       else postMgmt q (s.dev.descOf q bs data) e)))) ∧
  (∀ bs data : List Byte, s.dev.mayFetch q = false ∨ s.dev.dmaTurn q = false →
    exec (.descriptorFetch q bs data) s = .next (s.shows s.dev)) ∧
  -- a packet of the request that its context's transfers serve goes into the lane's staging, in the race's turn
  (∀ (c : Fin 128) (data : List Byte) (x : Desc) (rs : List Desc) (L : Nat), s.dev.wantsPacket q c = true →
    s.dev.dmaTurn q = true → s.dev.servedFor c = some (q.val, x :: rs) → s.dev.laneOf c = some L →
    begun (x :: rs) = true ∨ s.dev.bulkTarget c = true → data.length = min 512 (uncut (x :: rs)) →
    exec (.bulkOutPacketRead q c data) s = .next (s.shows (dmaServed q (cutBytes q data.length (x :: rs)
      (s.dev.onLane L fun y => { y with staged := y.staged ++
        [⟨x.arg, !begun (x :: rs), data.length == uncut (x :: rs), data, q + 1⟩] }))))) ∧
  -- a request that its context cannot take ends with STATUS TARGET
  (∀ (c : Fin 128) (data : List Byte) (req : List Desc), s.dev.wantsPacket q c = true → s.dev.dmaTurn q = true →
    s.dev.servedFor c = some (q.val, req) → begun req = false → s.dev.bulkTarget c = false →
    exec (.bulkOutPacketRead q c data) s = .next (s.shows (each req (fun y d => endDesc q y 4 0 d) s.dev))) ∧
  (∀ (c : Fin 128) (data : List Byte), s.dev.wantsPacket q c = false ∨ s.dev.dmaTurn q = false →
    exec (.bulkOutPacketRead q c data) s = .next (s.shows s.dev)) ∧
  -- the oldest descriptor completes when its transfer has ended: one writeback, NSEQ, and the descriptor is gone
  (∀ (x : Desc) (xs : List Desc), s.dev.pcie.up = true → (s.dev.race q).descs = x :: xs → x.status ≠ none →
    ∃ t, exec (.descriptorComplete q) s = .next t ∧ (t.dev.race q).descs = xs ∧
      t.dev.get (RACE_NSEQ q) = (s.dev.get (RACE_NSEQ q) + 1) % 2 ^ 32 ∧
      t.dev.out.take (s.dev.out.length + 1) = s.dev.out ++ [.hostWrite (s.dev.slotAt q x.k + (if q.val < 16 then 12 else 24))
        (s.dev.writeback q x)] ∧
      (x.irq = true → t.dev.flag (EVT_PEND (128 + q)) = true ∧ (t.dev.race q).unsig = 0)) ∧
  -- timers
  ((s.dev.race q).unsig ≠ 0 → s.dev.get (RACE_IRQ_TIME q) ≠ 0 → exec (.raceIrqTimer q) s = .next (s.shows
    ((s.dev.onRace q fun r => { r with unsig := 0 }).event (128 + q)))) ∧
  ((s.dev.race q).unsig = 0 → exec (.raceIrqTimer q) s = .next (s.shows s.dev)) ∧
  (∀ x : Desc, s.dev.openDesc q = some x → 0 < x.recs →
    exec (.raceFlushTimer q) s = .next (s.shows (endDesc q x 0 x.dlen s.dev))) ∧
  (s.dev.openDesc q = none → exec (.raceFlushTimer q) s = .next (s.shows s.dev)) ∧
  -- STOP with no request outstanding stops with ERR = 7; a MGMT race first awaits its answer
  (s.dev.flag (RACE_STAT_STOPPED q) = false → (s.dev.race q).asked = none → ∃ t, exec (.raceStop q) s = .next t ∧
    t.dev.flag (RACE_STAT_STOPPED q) = true ∧ t.dev.get (RACE_STAT_ERR q) = 7 ∧
    t.dev.flag (EVT_PEND (128 + q)) = true) ∧
  (∀ c, s.dev.flag (RACE_STAT_STOPPED q) = false → (s.dev.race q).asked = some c →
    exec (.raceStop q) s = .next (s.shows (s.dev.onRace q fun r => { r with stopping := true }))) ∧
  (∃ t, exec (.raceResume q) s = .next t ∧ t.dev.flag (RACE_STAT_STOPPED q) = false) ∧
  -- REARM of a stopped race: HEAD and TAIL at NSEQ, no descriptor, base and size read again
  (s.dev.flag (RACE_STAT_STOPPED q) = true → ∃ t, exec (.raceRearm q) s = .next t ∧
    t.dev.flag (RACE_STAT_STOPPED q) = false ∧ t.dev.get (RACE_HEAD q) = s.dev.get (RACE_NSEQ q) % 2 ^ 32 ∧
    t.dev.get (RACE_TAIL q) = s.dev.get (RACE_NSEQ q) % 2 ^ 32 ∧ (t.dev.race q).descs = [] ∧
    (t.dev.race q).size = s.dev.get (RACE_CFG_SIZE q)) ∧
  (s.dev.flag (RACE_STAT_STOPPED q) = false → exec (.raceRearm q) s = .next (s.shows s.dev)))

/-- VAT_ARM, VAT_TRIGGER, VAT_DISCARD, VAT_FREEZE, VAT_PORT_READ, GPIO_VAT_TRIG: R305, R306, R322, R600, R602. -/
def Obligations.VatCommandsComplete : Prop := ∀ s : State, Ready s → s.dev.vatTested = false →
  -- ARM starts an empty capture, unless a race drains the vat or a capture stands
  (s.dev.vatRace = none → s.dev.get RACE_VAT_STAT_STATE ≠ 3 → s.dev.get RACE_VAT_STAT_STATE ≠ 4 →
    ∃ t, exec .vatArm s = .next t ∧ t.dev.get RACE_VAT_STAT_STATE = 1 ∧ t.dev.get RACE_VAT_STAT_RESULT = 1 ∧
      t.dev.vat.lens = [] ∧ t.dev.vat.trig = false ∧ t.dev.get RACE_VAT_FILL_FILL = 0) ∧
  (s.dev.vatRace = none → s.dev.get RACE_VAT_STAT_STATE = 3 → exec .vatArm s =
    .next (s.settles ((s.dev.put RACE_VAT_STAT_RESULT 2).arbBusy 8 0 0xE 3 0xE 3))) ∧
  (s.dev.vatRace ≠ none → exec .vatArm s =
    .next (s.settles ((s.dev.put RACE_VAT_STAT_RESULT 2).arbBusy 8 0 0xD 3 0xE 3))) ∧
  -- the first trigger while ARMED counts
  (s.dev.get RACE_VAT_STAT_STATE = 1 → exec .vatTrigger s = .next (s.shows
    { s.dev.put RACE_VAT_STAT_STATE 2 with vat := { s.dev.vat with trig := true, after := 0, since := 0 } })) ∧
  (s.dev.get RACE_VAT_STAT_STATE ≠ 1 → exec .vatTrigger s = .next (s.shows s.dev)) ∧
  (∀ p : Fin 8, s.dev.get GLB_GPIO_FN_F6 = 8 + p.val → exec (.gpioVatTrig p) s = exec .vatTrigger s) ∧
  (∀ p : Fin 8, s.dev.get GLB_GPIO_FN_F6 ≠ 8 + p.val → exec (.gpioVatTrig p) s = .next (s.shows s.dev)) ∧
  -- DISCARD gives the capture up
  (∃ t, exec .vatDiscard s = .next t ∧ t.dev.get RACE_VAT_STAT_STATE = 0 ∧ t.dev.vat.lens = [] ∧
    t.dev.get RACE_VAT_FILL_FILL = 0) ∧
  -- a complete capture freezes; one that is not complete stays
  (s.dev.get RACE_VAT_STAT_STATE = 2 → s.dev.vatComplete s.dev.vatBytes.length = true →
    exec .vatFreeze s = .next (s.settles ((s.dev.put RACE_VAT_STAT_STATE 3).vatServe))) ∧
  (s.dev.get RACE_VAT_STAT_STATE ≠ 2 → exec .vatFreeze s = .next (s.shows s.dev)) ∧
  -- the port gives the next four bytes of a frozen capture, the oldest first; the last of them drains it
  (s.dev.vatRace = none → (s.dev.get RACE_VAT_STAT_STATE = 3 ∨ s.dev.get RACE_VAT_STAT_STATE = 4) →
    s.dev.vat.drained < s.dev.get RACE_VAT_FILL_FILL → ∃ t, exec .vatPortRead s = .next t ∧
      t.dev.out = s.dev.out ++ [.read (Dev.nat (s.dev.vatStream s.dev.vat.drained 4))] ∧
      t.dev.vat.drained = s.dev.vat.drained + 4 ∧
      t.dev.get RACE_VAT_STAT_STATE = if s.dev.vat.drained + 4 < s.dev.get RACE_VAT_FILL_FILL then 4 else 5) ∧
  -- with no stream it reads 0; while a race drains the vat it is BUSY, and the loss is recorded
  (s.dev.vatRace = none → s.dev.get RACE_VAT_STAT_STATE ≠ 3 → s.dev.get RACE_VAT_STAT_STATE ≠ 4 →
    exec .vatPortRead s = .next (s.shows ((s.dev.put RACE_VAT_STAT_RESULT 1).emits (.read 0)))) ∧
  (s.dev.vatRace ≠ none → exec .vatPortRead s = .next (s.settles
    (((s.dev.put RACE_VAT_STAT_RESULT 2).arbBusy 8 0 0xD 3 0xE 3).emits (.read 0))))

/-! ### Polder engines (chapter 10) -/

/-- POLDER_RUN_START, RUN_DEADLINE, BUDGET_EXHAUSTED: R324, R325, R327, R346, R347. -/
def Obligations.PolderRunCommandsComplete : Prop := ∀ (s : State) (p : Fin 8), Ready s →
  -- the run for target n + 1 starts once: its invocations are those of R325, and the first one is dispatched; its
  -- contexts have used no cycles yet
  (s.dev.running = true → s.dev.progModes = true → s.dev.get (PLD_CTRL_STATE p) = 0 → (s.dev.polder p).run = none →
    (s.dev.polder p).lastM ≠ s.dev.tide.n + 1 → exec (.polderRunStart p) s = .next (s.shows (nextInvocation p
      (((each (s.dev.boundIn p) (fun c d => d.clr (CTX_PSTAT_LASTCYC c)) s.dev).onPolder p fun y =>
        { y with lastM := s.dev.tide.n + 1, run := some { m := s.dev.tide.n + 1, todo := s.dev.runList p,
                                                          ns := s.dev.now / 65536 % 2 ^ 32 } }).put (PLD_CTRL_STATE p) 1)))) ∧
  ((s.dev.polder p).lastM = s.dev.tide.n + 1 → exec (.polderRunStart p) s = .next (s.shows s.dev)) ∧
  (s.dev.progModes = false → exec (.polderRunStart p) s = .next (s.shows s.dev)) ∧
  -- a run that has not ended at its deadline ends, with cause 8 and source 8 + p
  (∀ r : Run, (s.dev.polder p).run = some r → s.dev.brch.on = true → s.dev.inBist p = false →
    ∃ t, exec (.runDeadline p) s = .next t ∧ t.dev.get (PLD_FAULT_CAUSE p) = 8 ∧ (t.dev.polder p).run = none ∧
      t.dev.flag (BRCH_STICKY (8 + p)) = true ∧ t.dev.flag (EVT_PEND (160 + p)) = true) ∧
  ((s.dev.polder p).run = none → exec (.runDeadline p) s = .next (s.shows s.dev)) ∧
  -- an exhausted budget: cause 7; with enough cycles left nothing happens
  (∀ (r : Run) (x : Prog) (w : Word), s.dev.current p = some (r, x) →
    Table.get 0 (s.dev.polder p).imem (s.dev.polder p).pc = w →
    s.dev.cyclesLeft r x.ctx < s.dev.cyclesOf p (w.toNat / 2 ^ 26) (w.setWidth 26) →
    exec (.budgetExhausted p) s = .next (s.settles (engineFail p 7 s.dev))) ∧
  (∀ (r : Run) (x : Prog), s.dev.current p = some (r, x) → 4 ≤ s.dev.cyclesLeft r x.ctx →
    exec (.budgetExhausted p) s = .next (s.shows s.dev))

/-- The R-format instructions and TIME (R332, R333): the value goes to rd, one instruction's cycles are counted,
nothing else changes. -/
def Obligations.PolderRegisterInstructions : Prop :=
  ∀ (s : State) (p : Fin 8) (r : Run) (x : Prog) (w : BitVec 26), Ready s → iImm w = 0 →
  let a := s.dev.gpr p (iA w)
  let b := s.dev.gpr p (iB w)
  let pc := ((s.dev.polder p).pc + 1) % 4096
  let gives (c : Instr) (n : Nat) (v : Word) : Prop := s.dev.canIssue p r x n →
    ∃ t, exec c s = .next t ∧ s.issued t p r x n pc ∧ s.setsGpr t p (iD w) v
  gives (.pldAdd p w) 1 (a + b) ∧ gives (.pldSub p w) 1 (a - b) ∧ gives (.pldAnd p w) 1 (a &&& b) ∧
  gives (.pldOr p w) 1 (a ||| b) ∧ gives (.pldXor p w) 1 (a ^^^ b) ∧ gives (.pldShl p w) 1 (a <<< (b.toNat % 32)) ∧
  gives (.pldShr p w) 1 (a >>> (b.toNat % 32)) ∧ gives (.pldSar p w) 1 (a.sshiftRight (b.toNat % 32)) ∧
  gives (.pldMul p w) 2 (a * b) ∧
  -- the upper half of the signed 64-bit product
  gives (.pldMulh p w) 3 (((a.signExtend 64 * b.signExtend 64) >>> 32).setWidth 32) ∧
  gives (.pldMin p w) 1 (BitVec.ofInt 32 (min a.toInt b.toInt)) ∧
  gives (.pldMax p w) 1 (BitVec.ofInt 32 (max a.toInt b.toInt)) ∧
  gives (.pldSlt p w) 1 (if a.toInt < b.toInt then 1 else 0) ∧ gives (.pldSltu p w) 1 (if a.toNat < b.toNat then 1 else 0) ∧
  gives (.pldTime p w) 1 (BitVec.ofNat 32 (s.dev.now / 65536))

/-- The I-format instructions, LUI and NOP (R332, R333). -/
def Obligations.PolderImmediateInstructions : Prop :=
  ∀ (s : State) (p : Fin 8) (r : Run) (x : Prog) (w : BitVec 26), Ready s → s.dev.canIssue p r x 1 →
  let a := s.dev.gpr p (iA w)
  let imm : Nat := w.toNat % 2 ^ 14
  let pc := ((s.dev.polder p).pc + 1) % 4096
  let gives (c : Instr) (v : Word) : Prop := ∃ t, exec c s = .next t ∧ s.issued t p r x 1 pc ∧ s.setsGpr t p (iD w) v
  (iB w = 0 →
    gives (.pldAddi p w) (a + BitVec.ofInt 32 (if imm < 2 ^ 13 then (imm : Int) else imm - 2 ^ 14)) ∧
    gives (.pldAndi p w) (a &&& BitVec.ofNat 32 imm) ∧ gives (.pldOri p w) (a ||| BitVec.ofNat 32 imm) ∧
    gives (.pldXori p w) (a ^^^ BitVec.ofNat 32 imm) ∧ gives (.pldShli p w) (a <<< (imm % 32)) ∧
    gives (.pldShri p w) (a >>> (imm % 32)) ∧ gives (.pldSari p w) (a.sshiftRight (imm % 32))) ∧
  (w.toNat / 2 ^ 18 % 16 = 0 → gives (.pldLui p w) (BitVec.ofNat 32 (w.toNat % 2 ^ 18 * 2 ^ 14))) ∧
  (∃ t, exec (.pldNop p 0) s = .next t ∧ s.issued t p r x 1 pc ∧ s.keepsPolder t p)

/-- Loads and stores of data memory (R329, R333): an aligned load gives its bytes, little-endian, zero-extended; an
aligned store writes the low bytes of rd at its address and leaves every other byte. -/
def Obligations.PolderMemoryInstructions : Prop :=
  ∀ (s : State) (p : Fin 8) (r : Run) (x : Prog) (w : BitVec 26), Ready s → iB w = 0 → s.dev.canIssue p r x 2 →
  let a := (s.dev.gpr p (iA w) + iSimm w).toNat % 65536
  let m := (s.dev.polder p).dmem
  let v := s.dev.gpr p (iD w)
  let pc := ((s.dev.polder p).pc + 1) % 4096
  let byte (k : Nat) : Nat := (Table.get 0 m (a + k)).toNat
  let loads (c : Instr) (n : Nat) : Prop := ∃ t, exec c s = .next t ∧ s.issued t p r x 2 pc ∧
    s.setsGpr t p (iD w) (BitVec.ofNat 32 n)
  let stores (c : Instr) (n : Nat) : Prop := ∃ t, exec c s = .next t ∧ s.issued t p r x 1 pc ∧
    (t.dev.polder p).regs = (s.dev.polder p).regs ∧ (t.dev.polder p).scratch = (s.dev.polder p).scratch ∧
    (∀ k, k < n → Table.get 0 (t.dev.polder p).dmem (a + k) = v.extractLsb' (8 * k) 8) ∧
    (∀ b, b < a ∨ a + n ≤ b → Table.get 0 (t.dev.polder p).dmem b = Table.get 0 m b)
  a < 0x2000 →
  (loads (.pldLdb p w) (byte 0) ∧ stores (.pldStb p w) 1) ∧
  (a % 2 = 0 → loads (.pldLdh p w) (byte 0 + 256 * byte 1) ∧ stores (.pldSth p w) 2) ∧
  (a % 4 = 0 → loads (.pldLdw p w) (byte 0 + 256 * (byte 1 + 256 * (byte 2 + 256 * byte 3))) ∧ stores (.pldStw p w) 4)

/-- Branches, jumps, calls and returns (R333): a taken branch goes to PC + simm14 and takes two cycles. -/
def Obligations.PolderControlInstructions : Prop :=
  ∀ (s : State) (p : Fin 8) (r : Run) (x : Prog) (w : BitVec 26), Ready s → s.dev.canIssue p r x 2 →
  let a := s.dev.gpr p (iD w)
  let b := s.dev.gpr p (iA w)
  let pc := (s.dev.polder p).pc
  let goes (c : Instr) (taken : Prop) : Prop :=
    (taken → ∃ t, exec c s = .next t ∧ s.keepsPolder t p ∧ (t.dev.polder p).stack = (s.dev.polder p).stack ∧
      s.issued t p r x 2 ((BitVec.ofNat 12 pc + (iSimm w).setWidth 12).toNat)) ∧
    (¬taken → ∃ t, exec c s = .next t ∧ s.keepsPolder t p ∧ (t.dev.polder p).stack = (s.dev.polder p).stack ∧
      s.issued t p r x 1 ((pc + 1) % 4096))
  (iB w = 0 →
    goes (.pldBeq p w) (a = b) ∧ goes (.pldBne p w) (a ≠ b) ∧ goes (.pldBlt p w) (a.toInt < b.toInt) ∧
    goes (.pldBge p w) (b.toInt ≤ a.toInt) ∧ goes (.pldBltu p w) (a.toNat < b.toNat) ∧
    goes (.pldBgeu p w) (b.toNat ≤ a.toNat) ∧
    (∃ t, exec (.pldJmp p w) s = .next t ∧ s.issued t p r x 2 (w.toNat % 4096) ∧ s.keepsPolder t p ∧
      (t.dev.polder p).stack = (s.dev.polder p).stack) ∧
    -- CALL pushes PC + 1
    ((s.dev.polder p).stack.length < 8 → ∃ t, exec (.pldCall p w) s = .next t ∧ s.issued t p r x 2 (w.toNat % 4096) ∧
      s.keepsPolder t p ∧ (t.dev.polder p).stack = (pc + 1) % 4096 :: (s.dev.polder p).stack)) ∧
  -- RET pops
  (∀ (k : Nat) (ks : List Nat), (s.dev.polder p).stack = k :: ks → ∃ t, exec (.pldRet p 0) s = .next t ∧
    s.issued t p r x 2 (k % 4096) ∧ s.keepsPolder t p ∧ (t.dev.polder p).stack = ks)

/-- EMIT, END, DEMAND, RELEASE, MARK, NEXTP, NEXTB, POSTB, SIGNAL: R337 to R342, R348. -/
def Obligations.PolderDeviceInstructions : Prop :=
  ∀ (s : State) (p : Fin 8) (r : Run) (x : Prog), Ready s → s.dev.canIssue p r x 4 → x.ctx < 128 →
  -- the first EMIT of a producer gives its sheet, a second one none; END ends the invocation
  (x.kind ≠ 1 → r.emitted = false → ∃ t, exec (.pldEmit p 0) s = .next t ∧
    (t.dev.polder p).run = some { r with used := r.used + 4, total := r.total + 4, emitted := true } ∧
    (x.kind ≠ 4 → (t.dev.cell x.ctx).supply = (s.dev.cell x.ctx).supply ++
      [⟨3, Sheet.ofBytes r.m r.sheet, false, s.dev.get CTX_MAPVER_CUR % 2⟩])) ∧
  (x.kind ≠ 1 → r.emitted = true → ∃ t, exec (.pldEmit p 0) s = .next t ∧
    s.issued t p r x 4 (((s.dev.polder p).pc + 1) % 4096) ∧ s.keepsPolder t p) ∧
  (x.kind = 1 → r.todo = [] → ∃ t, exec (.pldEnd p 0) s = .next t ∧ (t.dev.polder p).run = none ∧
    t.dev.get (PLD_LOAD_LAST p) = min (r.total + 2) 65535 ∧ t.dev.cells = s.dev.cells) ∧
  -- DEMAND sets SAFEREQ and sends the safe aspect at once, behind the sheets that are already written; RELEASE clears it
  (x.kind = 1 → s.dev.flag (CTX_PSTAT_SAFEREQ x.ctx) = false → ∃ t, exec (.pldDemand p 0) s = .next t ∧
    t.dev.flag (CTX_PSTAT_SAFEREQ x.ctx) = true ∧
    (t.dev.cell x.ctx).buf = (s.dev.cell x.ctx).buf ++
      [{ s.dev.safeSheet x.ctx s.dev.nextCut with mapv := s.dev.mapvFor s.dev.nextCut }]) ∧
  (x.kind = 1 → ∃ t, exec (.pldRelease p 0) s = .next t ∧ t.dev.flag (CTX_PSTAT_SAFEREQ x.ctx) = false ∧
    s.keepsPolder t p ∧ t.dev.cells = s.dev.cells) ∧
  (∃ t, exec (.pldMark p 1) s = .next t ∧ t.dev.flag (CTX_PSTAT_FILLDONE x.ctx) = true ∧ s.keepsPolder t p) ∧
  (∃ t, exec (.pldMark p 0) s = .next t ∧ t.dev.flag (CTX_PSTAT_FILLDONE x.ctx) = false ∧ s.keepsPolder t p) ∧
  -- NEXTP drops the head record, NEXTB releases the inbound packet
  (∃ t, exec (.pldNextp p 0) s = .next t ∧ (t.dev.cell x.ctx).mbx = (s.dev.cell x.ctx).mbx.drop 1 ∧
    s.keepsPolder t p ∧ ∀ c, c ≠ x.ctx → t.dev.cell c = s.dev.cell c) ∧
  (∀ (L : Nat) (q : Packet) (qs : List Packet), s.dev.laneOf x.ctx = some L → s.dev.flag (CTX_PROG_BMBX x.ctx) = true →
    (s.dev.lane L).inbound = q :: qs → ∃ t, exec (.pldNextb p 0) s = .next t ∧ (t.dev.lane L).inbound = qs ∧
      (t.dev.lane L).cack = ((s.dev.lane L).cack + 1) % 256 ∧ (t.dev.lane L).owed = true) ∧
  -- POSTB queues a packet of the scratch buffer, and answers 1; with no staging buffer free it answers 0
  (∀ (w : BitVec 26) (L : Nat), iImm w = 0 → (s.dev.gpr p (iA w)).toNat % 1024 ≤ 512 → s.dev.laneOf x.ctx = some L →
    s.dev.flag (CTX_PROG_BMBX x.ctx) = true →
    (s.dev.lane L).staged.length + (s.dev.lane L).unacked.length < s.dev.get CTX_ADMIT_CFG_CRED →
    ∃ t, exec (.pldPostb p w) s = .next t ∧ s.setsGpr t p (iD w) 1 ∧
      (t.dev.lane L).staged = (s.dev.lane L).staged ++
        [{ xid := (s.dev.gpr p (iB w)).toNat % 65536, first := (s.dev.gpr p (iA w)).getLsbD 16,
           last := (s.dev.gpr p (iA w)).getLsbD 17,
           data := peekB (s.dev.polder p).scratch 0 ((s.dev.gpr p (iA w)).toNat % 1024) }]) ∧
  (∀ (w : BitVec 26), iImm w = 0 → (s.dev.gpr p (iA w)).toNat % 1024 ≤ 512 → s.dev.flag (CTX_PROG_BMBX x.ctx) = false →
    ∃ t, exec (.pldPostb p w) s = .next t ∧ s.issued t p r x 4 (((s.dev.polder p).pc + 1) % 4096) ∧
      s.setsGpr t p (iD w) 0) ∧
  -- SIGNAL shows its code and its context, and raises event 160 + p
  (∀ w : BitVec 26, iB w = 0 → ∃ t, exec (.pldSignal p w) s = .next t ∧
    t.dev.get (PLD_CTRL_SIG p) = w.toNat % 256 ∧ t.dev.get (PLD_CTRL_SIGCTX p) = x.ctx ∧
    t.dev.flag (EVT_PEND (160 + p)) = true ∧ s.keepsPolder t p)

/-- An instruction whose fixed fields are not 0, and a word at the PC with an opcode that is not listed, raise ILLEGAL; an
access outside the areas, a misaligned one and a store to a window raise BADADDR, ALIGN and ROWRITE (R332 to R334); the
exception is recorded and counted, source 8 + p and event 160 + p are raised (R335). -/
def Obligations.PolderExceptions : Prop :=
  ∀ (s : State) (p : Fin 8) (r : Run) (x : Prog) (w : BitVec 26), Ready s → x.ctx < 128 →
  s.dev.brch.on = true → s.dev.inBist p = false →
  let a := (s.dev.gpr p (iA w) + iSimm w).toNat % 65536
  let raises (c : Instr) (cause : Nat) : Prop := ∃ t, exec c s = .next t ∧ t.dev.get (PLD_FAULT_CAUSE p) = cause ∧
    t.dev.get (PLD_FAULT_CTX p) = x.ctx ∧ t.dev.get (PLD_FAULT_PC p) = (s.dev.polder p).pc % 4096 ∧
    t.dev.get (CTX_PSTAT_EXCEPT x.ctx) =
      min (s.dev.get (CTX_PSTAT_EXCEPT x.ctx) + 1) (2 ^ (CTX_PSTAT_EXCEPT x.ctx).w - 1) ∧
    t.dev.flag (BRCH_STICKY (8 + p)) = true ∧ t.dev.flag (EVT_PEND (160 + p)) = true
  (s.dev.current p = some (r, x) → s.dev.progModes = true → s.dev.ctxState x.ctx = 3 → s.dev.progDue x = true →
    s.dev.pcListed p = false → 1 ≤ s.dev.cyclesLeft r x.ctx →
    raises (.pldNop p w) 1 ∧ raises (.pldMulh p w) 1 ∧ raises (.pldEmit p w) 1) ∧
  (s.dev.canIssue p r x 4 →
  (iImm w ≠ 0 → raises (.pldAdd p w) 1 ∧ raises (.pldMulh p w) 1) ∧
  (iB w ≠ 0 → raises (.pldAddi p w) 1 ∧ raises (.pldLdw p w) 1 ∧ raises (.pldJmp p w) 1) ∧
  (x.kind = 1 → raises (.pldEmit p 0) 1) ∧ (x.kind ≠ 1 → raises (.pldDemand p 0) 1) ∧
  (iB w = 0 → 0x2000 ≤ a → a < 0x8000 → raises (.pldLdb p w) 2 ∧ raises (.pldStw p w) 2) ∧
  (iB w = 0 → a < 0x2000 → a % 4 ≠ 0 → raises (.pldLdw p w) 3 ∧ raises (.pldStw p w) 3) ∧
  (iB w = 0 → 0xC000 ≤ a → a < 0xC020 → raises (.pldStb p w) 4) ∧
  ((s.dev.polder p).stack.length = 8 → iB w = 0 → raises (.pldCall p w) 5) ∧
  ((s.dev.polder p).stack = [] → raises (.pldRet p 0) 5))

/-! ### LOAD, management engine, image, log, life-cycle state, key (chapters 16 and 17, 21) -/

/-- LOAD_COMPLETE, RELOAD, COLD_REQUEST, MGMT_ENGINE_STOP, MGMT_SUPERVISOR_TIMEOUT, MGMT_ENGINE_RESTART,
PASSWORD_CHECK, PASSWORD_RESULT, LOCKOUT_END: R24, R47, R503, R512, R514, R516 to R518, R532, R551. -/
def Obligations.LoadAndEngineCommandsComplete : Prop := ∀ s : State, Ready s →
  -- the image of the directory is read and checked: one that passes is applied, and the device goes to RAISE; one that
  -- does not is rejected with its code, and the device goes to DARK with cause 0xA
  (∀ (j : BitVec 24) (bad : List (Fin 128)) (ecc : Bool), s.dev.get GLB_MODE_MODE = 0 → s.dev.lcs < 3 →
    jedecBad j.toNat = false →
    let d := (s.dev.put WMK_QSPI_JEDEC j.toNat).putB WMK_STATUS_BLANK (!(s.dev.put WMK_QSPI_JEDEC j.toNat).sealOk 0 &&
      !(s.dev.put WMK_QSPI_JEDEC j.toNat).sealOk 1)
    let image (copy gen slot : Nat) : Dev :=
      let e := ((d.onMgmt fun m => { m with dirCopy := copy }).put WMK_GEN_GEN gen).put WMK_STATUS_SLOT slot
      let g := Image.read e slot
      match Image.checkSeal e g with
      | some (code, detail) => reject code detail e
      | none =>
        match g.checkContent (g.setup e) with
        | some (code, detail) => reject code detail (if code = 0x10 then showConflict (g.setup e).conflict e else e)
        | none => applyImage g (g.setup e) (fun c => bad.any fun b => b.val == c) ecc e
    exec (.loadComplete j bad ecc) s = .next (s.settles (match d.directory with
      | none => reject 1 0xFF d
      | some (copy, gen, slot) => image copy gen slot))) ∧
  (∀ (j : BitVec 24) (bad : List (Fin 128)) (ecc : Bool), s.dev.get GLB_MODE_MODE = 0 → s.dev.lcs < 3 →
    jedecBad j.toNat = true → ∃ t, exec (.loadComplete j bad ecc) s = .next t ∧ t.dev.get GLB_MODE_MODE = 9 ∧ t.dev.get GLB_MODE_CAUSE = 0xA ∧
      t.dev.get WMK_STATUS_CODE = 0x12 ∧ t.dev.flag WMK_STATUS_LOADED = false) ∧
  -- in the RETIRED state LOAD leads to DARK without an image
  (∀ (j : BitVec 24) (bad : List (Fin 128)) (ecc : Bool), s.dev.get GLB_MODE_MODE = 0 → s.dev.lcs = 3 →
    ∃ t, exec (.loadComplete j bad ecc) s = .next t ∧ t.dev.get GLB_MODE_MODE = 9) ∧
  -- RELOAD leads from DARK to LOAD
  (∀ p, p ≠ .fic → s.dev.get GLB_MODE_MODE = 9 → s.dev.lcs ≠ 3 →
    exec (.reload p) s = .next (s.settles (enter 0 1 false (s.dev.put GLB_START_SRC 2)))) ∧
  (∀ p, s.dev.get GLB_MODE_MODE ≠ 9 → exec (.reload p) s = .next (s.shows s.dev)) ∧
  (∀ p, p ≠ .fic → exec (.coldRequest p) s = .next (s.shows (s.dev.set GLB_CTRL_COLDREQ))) ∧
  -- the engine stops: source 47, and what it was doing is lost; it runs again after the restart
  (∀ (a : BitVec 24) (y : BitVec 7), s.dev.mgmt.stopped = false →
    (s.dev.brch.on = true → exec (.mgmtEngineStop true a y) s =
      .next (s.settles ((engineStop y.toNat s.dev).put (BRCH_DET_ADDR 47) a.toNat))) ∧
    -- no details are recorded before the collector is on
    (s.dev.brch.on = false → exec (.mgmtEngineStop true a y) s = .next (s.settles (engineStop y.toNat s.dev))) ∧
    -- an exception of the firmware has no code that the spec states
    exec (.mgmtEngineStop false a y) s = exec .mgmtSupervisorTimeout s) ∧
  (s.dev.mgmt.stopped = false → ∃ t, exec .mgmtSupervisorTimeout s = .next t ∧ t.dev.mgmt.stopped = true ∧
    t.dev.mgmt.checking = none ∧ t.dev.brch.cond.testBit 47 = true) ∧
  (s.dev.mgmt.stopped = true → s.dev.brch.cond.testBit 47 = true → exec .mgmtEngineRestart s = .next (s.shows
    (((s.dev.onMgmt fun m => { m with stopped := false }).onBrch fun b => { b with cond := b.cond - 2 ^ 47 }).clr
      (BRCH_PIN 47)))) ∧
  (s.dev.mgmt.stopped = false → exec .mgmtEngineRestart s = .next (s.shows s.dev)) ∧
  -- a password check is refused, or takes the candidate
  (∀ (p : Path) (n : BitVec 7), s.dev.checkRefusal n.toNat ≠ 0 → exec (.passwordCheck p n) s =
    .next (s.shows (s.dev.put WMK_PWD_CTRL_RESULT (s.dev.checkRefusal n.toNat)))) ∧
  (∀ (p : Path) (n : BitVec 7), s.dev.checkRefusal n.toNat = 0 → exec (.passwordCheck p n) s = .next (s.shows
    (s.dev.onMgmt fun m => { m with checking := some (s.dev.candidate n.toNat), cand := [], chkPath := pathNo p }))) ∧
  -- a match is held for the first key word; a mismatch counts, and the fifth locks the password for 600 s
  (∀ cand salt key : List Byte, s.dev.mgmt.checking = some cand → s.dev.mgmt.pwd = some (salt, key) →
    Sha.pbkdf2 cand salt = key → s.dev.flag GLB_KEY_STAT_OPEN = false → ∃ t, exec .passwordResult s = .next t ∧
      t.dev.get WMK_PWD_CTRL_RESULT = 1 ∧ t.dev.get GLB_KEY_STAT_STEP = 1 ∧ t.dev.mgmt.fails = 0 ∧
      t.dev.mgmt.checking = none ∧ t.dev.key.owner = s.dev.mgmt.chkPath) ∧
  (∀ cand salt key : List Byte, s.dev.mgmt.checking = some cand → s.dev.mgmt.pwd = some (salt, key) →
    Sha.pbkdf2 cand salt ≠ key → ∃ t, exec .passwordResult s = .next t ∧ t.dev.get WMK_PWD_CTRL_RESULT = 3 ∧
      t.dev.mgmt.fails = (if s.dev.mgmt.fails < 4 then s.dev.mgmt.fails + 1 else 0) ∧
      t.dev.mgmt.lock = (if s.dev.mgmt.fails < 4 then s.dev.mgmt.lock else 600) ∧
      t.dev.get GLB_KEY_STAT_STEP = s.dev.get GLB_KEY_STAT_STEP) ∧
  (s.dev.mgmt.checking = none → exec .passwordResult s = .next (s.shows s.dev)) ∧
  (∃ t, exec .lockoutEnd s = .next t ∧ t.dev.mgmt.lock = 0 ∧ t.dev.get WMK_PWD_CTRL_LOCKREM = 0 ∧
    t.dev.mgmt.fails = s.dev.mgmt.fails)

/-- IMAGE_WRITE_BEGIN, IMAGE_ERASE_DONE, IMAGE_WRITE_DATA, PAGE_PROGRAM_DONE, IMAGE_COMMIT, IMAGE_COMMIT_DONE,
IMAGE_WRITE_ABORT, FLASH_TIMEOUT: R503, R519 to R523, R526. -/
def Obligations.ImageWriteCommandsComplete : Prop := ∀ s : State, Ready s →
  -- BEGIN in SERVICE, with the key open, starts the erase of the other slot
  (∀ p : Path, s.dev.keyed p = true → s.dev.lcs ≠ 3 → s.dev.get GLB_MODE_MODE = 0xB → s.dev.mgmt.stopped = false →
    s.dev.get WMK_WR_STAT_STATE = 0 → ∃ t, exec (.imageWriteBegin p) s = .next t ∧
      t.dev.get WMK_WR_STAT_STATE = 1 ∧ t.dev.get WMK_WR_COUNT_COUNT = 0 ∧ t.dev.mgmt.write.slot = s.dev.writeSlot ∧
      t.dev.mgmt.write.buf = []) ∧
  -- the erased slot: 2 MiB of 0xFF, room for 512 bytes
  (s.dev.get WMK_WR_STAT_STATE = 1 → exec .imageEraseDone s = .next (s.shows
    ((((flashErase (slotBase s.dev.mgmt.write.slot) 0x200000 s.dev).emits (.flash (slotBase s.dev.mgmt.write.slot) [])).put
      WMK_WR_STAT_STATE 2).put WMK_WR_STAT_SPACE 512))) ∧
  (s.dev.get WMK_WR_STAT_STATE ≠ 1 → exec .imageEraseDone s = .next (s.shows s.dev)) ∧
  -- four bytes are taken while there is room, and lost with OVERRUN when there is none
  (∀ (p : Path) (v : Word), s.dev.keyed p = true → s.dev.get WMK_WR_STAT_STATE = 2 → 4 ≤ s.dev.get WMK_WR_STAT_SPACE →
    s.dev.get WMK_WR_STAT_SPACE ≤ 512 → s.dev.get WMK_WR_COUNT_COUNT < 2097152 → ∃ t, exec (.imageWriteData p v) s = .next t ∧
      t.dev.get WMK_WR_STAT_SPACE = s.dev.get WMK_WR_STAT_SPACE - 4 ∧
      t.dev.get WMK_WR_COUNT_COUNT = min (s.dev.get WMK_WR_COUNT_COUNT + 4) (2 ^ WMK_WR_COUNT_COUNT.w - 1) ∧
      t.dev.mgmt.write.buf = s.dev.mgmt.write.buf ++ le 4 v.toNat) ∧
  (∀ (p : Path) (v : Word), s.dev.keyed p = true → s.dev.get WMK_WR_STAT_STATE = 2 → s.dev.get WMK_WR_STAT_SPACE < 4 →
    exec (.imageWriteData p v) s = .next (s.shows ((s.dev.keyUsed).set WMK_WR_STAT_OVERRUN))) ∧
  -- a page is programmed, and gives its 256 bytes of room back
  (s.dev.get WMK_WR_STAT_STATE = 2 → 256 ≤ s.dev.mgmt.write.buf.length → exec .pageProgramDone s = .next (s.shows
    ((programPage s.dev).put WMK_WR_STAT_SPACE (s.dev.get WMK_WR_STAT_SPACE + 256)))) ∧
  (s.dev.mgmt.write.buf.length < 256 → exec .pageProgramDone s = .next (s.shows s.dev)) ∧
  -- COMMIT outside RECEIVING, before LEN bytes, or after an overrun is refused with RESULT 3; with LEN bytes the checks begin
  (∀ p : Path, s.dev.keyed p = true → s.dev.lcs ≠ 3 → s.dev.get GLB_MODE_MODE = 0xB → s.dev.mgmt.stopped = false →
    s.dev.logFull = false → (s.dev.get WMK_WR_STAT_STATE ≠ 2 ∨
      s.dev.get WMK_WR_COUNT_COUNT ≠ s.dev.get WMK_WR_LEN_LEN ∨ s.dev.flag WMK_WR_STAT_OVERRUN = true) →
    exec (.imageCommit p) s = .next (s.shows ((s.dev.keyUsed).put WMK_WR_CTRL_RESULT 3))) ∧
  (∀ p : Path, s.dev.keyed p = true → s.dev.lcs ≠ 3 → s.dev.get GLB_MODE_MODE = 0xB → s.dev.mgmt.stopped = false →
    s.dev.logFull = false → s.dev.get WMK_WR_STAT_STATE = 2 → s.dev.flag WMK_WR_STAT_OVERRUN = false →
    s.dev.get WMK_WR_COUNT_COUNT = s.dev.get WMK_WR_LEN_LEN → ∃ t, exec (.imageCommit p) s = .next t ∧
      t.dev.get WMK_WR_STAT_STATE = 3 ∧ t.dev.get WMK_WR_CTRL_RESULT = s.dev.get WMK_WR_CTRL_RESULT) ∧
  -- an image that fails its checks is not selected; one that passes is, in a directory of the next generation, and the
  -- entry is staged
  (s.dev.get WMK_WR_STAT_STATE = 3 → s.dev.logFull = false →
    let slot := s.dev.mgmt.write.slot
    let g := Image.read s.dev slot
    let d := (s.dev.clr WMK_WR_STAT_STATE).onMgmt fun m => { m with write := {} }
    exec .imageCommitDone s = .next (s.shows (match g.check d with
      | some (code, _) => (d.put WMK_WR_STAT_CODE code).put WMK_WR_CTRL_RESULT 4
      | none => ((writeDirectory slot (stage 1 (g.mark.take 8 ++ [BitVec.ofNat 8 slot]) d)).clr WMK_STATUS_BLANK).put
          WMK_WR_CTRL_RESULT 1))) ∧
  (∀ (d : Dev) (slot : Nat), (writeDirectory slot d).get WMK_GEN_GEN = (d.get WMK_GEN_GEN + 1) % 2 ^ 32) ∧
  -- an abort before the directory write
  (∀ p : Path, s.dev.keyed p = true → s.dev.get WMK_WR_STAT_STATE = 2 → exec (.imageWriteAbort p) s = .next (s.shows
    (((((s.dev.keyUsed).put WMK_WR_CTRL_RESULT 5).clr WMK_WR_STAT_STATE).clr WMK_WR_STAT_SPACE).onMgmt fun m =>
      { m with write := {} }))) ∧
  -- a flash operation that fails
  (s.dev.mgmt.staged ≠ [] → exec (.flashTimeout true) s = .next (s.shows (s.dev.set WMK_LOG_STAT_FAIL))) ∧
  (s.dev.mgmt.staged = [] → exec (.flashTimeout true) s = .next (s.shows s.dev)) ∧
  (s.dev.get WMK_WR_STAT_STATE ∈ [1, 2, 3, 4] → exec (.flashTimeout false) s = .next (s.shows
    ((((s.dev.put WMK_WR_CTRL_RESULT 6).clr WMK_WR_STAT_STATE).clr WMK_WR_STAT_SPACE).onMgmt fun m =>
      { m with write := {} }))) ∧
  (s.dev.get WMK_WR_STAT_STATE = 0 → exec (.flashTimeout false) s = .next (s.shows s.dev))

/-- LOG_ENTRY_WRITE, LOG_RETRY, LCS_ADVANCE, LCS_FUSE_BLOWN: R515, R524, R526. KEY_FIRST, KEY_SECOND, KEY_CLOSE,
KEY_FAILED_WRITE, KEY_STEP_TIMEOUT, KEY_IDLE_TIMEOUT: R622 to R624. -/
def Obligations.LogAndKeyCommandsComplete : Prop :=
  (∀ s : State, Ready s →
  -- the oldest staged entry goes into the flash with the next index, and the chain goes on from its digest
  (∀ (e : LogEntry) (es : List LogEntry), s.dev.mgmt.stopped = false → s.dev.flag WMK_LOG_STAT_FAIL = false →
    s.dev.mgmt.staged = e :: es → ∃ t, exec .logEntryWrite s = .next t ∧ t.dev.mgmt.staged = es ∧
      t.dev.mgmt.logN = s.dev.mgmt.logN + 1 ∧
      t.dev.mgmt.digest = Sha.sha256 (logBytes s.dev.mgmt.logN (if s.dev.mgmt.logN = 0 then [] else s.dev.mgmt.digest) e) ∧
      t.dev.get WMK_LOG_NEXT_NEXT = (s.dev.mgmt.logN + 1) % 2 ^ 32) ∧
  -- a failure holds the log until a retry
  (s.dev.flag WMK_LOG_STAT_FAIL = true → exec .logEntryWrite s = .next (s.shows s.dev)) ∧
  (∀ (e : LogEntry) (es : List LogEntry), s.dev.mgmt.stopped = false → s.dev.flag WMK_LOG_STAT_FAIL = true →
    s.dev.mgmt.staged = e :: es → ∃ t, exec .logRetry s = .next t ∧ t.dev.mgmt.staged = es ∧
      t.dev.flag WMK_LOG_STAT_FAIL = false ∧ t.dev.mgmt.logN = s.dev.mgmt.logN + 1) ∧
  (s.dev.flag WMK_LOG_STAT_FAIL = false → exec .logRetry s = .next (s.shows s.dev)) ∧
  -- an advance to RETIRED in SERVICE is accepted, staged, and its fuse is blown
  (∀ p : Path, s.dev.keyed p = true → s.dev.get GLB_MODE_MODE = 0xB → s.dev.flag LCS_STATE_PEND = false →
    s.dev.mgmt.blowing = none → s.dev.logFull = false → s.dev.lcs < 3 →
    ∃ t, exec (.lcsAdvance p 0x4C430003) s = .next t ∧ t.dev.get LCS_STATE_RESULT = 1 ∧
      t.dev.mgmt.blowing = some 3 ∧ t.dev.get LCS_STATE_TARGET = 3 ∧ t.dev.lcs = s.dev.lcs ∧
      t.dev.mgmt.staged.length = s.dev.mgmt.staged.length + 1) ∧
  -- one to FIELD comes from COMMISSION and needs a loaded image that admits FIELD
  (∀ p : Path, s.dev.keyed p = true → s.dev.get GLB_MODE_MODE = 0xB → s.dev.flag LCS_STATE_PEND = false →
    s.dev.mgmt.blowing = none → s.dev.logFull = false → s.dev.lcs = 1 →
    ∃ t, exec (.lcsAdvance p 0x4C430002) s = .next t ∧ t.dev.lcs = s.dev.lcs ∧ t.dev.get LCS_STATE_RESULT =
      (if s.dev.flag WMK_STATUS_LOADED = true ∧ s.dev.mgmt.lcsMask.testBit 2 = true then 1 else 4) ∧
      t.dev.mgmt.blowing = (if s.dev.flag WMK_STATUS_LOADED = true ∧ s.dev.mgmt.lcsMask.testBit 2 = true then some 2
        else none)) ∧
  -- the write stores its fields, decides, and starts the blow of an accepted target
  (∀ (p : Path) (v : Word), s.dev.keyed p = true → exec (.lcsAdvance p v) s =
    .next (s.shows (lcsRequest v s.dev.keyUsed))) ∧
  -- without the confirmation it is not
  (∀ (p : Path) (v : Word), s.dev.keyed p = true → v.toNat / 65536 ≠ 0x4C43 → ∃ t, exec (.lcsAdvance p v) s = .next t ∧
    t.dev.get LCS_STATE_RESULT = 6 ∧ t.dev.mgmt.blowing = s.dev.mgmt.blowing) ∧
  -- the state itself is read from the fuses at the next reset release
  (∀ k : Nat, s.dev.mgmt.blowing = some k → exec .lcsFuseBlown s = .next (s.shows ((s.dev.onMgmt fun m =>
    { m with blowing := none, fuse := k }).set LCS_STATE_PEND))) ∧
  (s.dev.mgmt.blowing = none → exec .lcsFuseBlown s = .next (s.shows s.dev))) ∧
  (∀ (s : State) (p : Path), Ready s →
  -- after a MATCH, on its path: 0x5E12, then 0xA1ED
  (s.dev.flag GLB_KEY_STAT_OPEN = false → s.dev.get GLB_KEY_STAT_STEP = 1 → s.dev.ownsKey p = true →
    s.dev.keyRefused = false → exec (.keyFirst p) s = .next (s.shows (s.dev.put GLB_KEY_STAT_STEP 2))) ∧
  (s.dev.flag GLB_KEY_STAT_OPEN = false → s.dev.get GLB_KEY_STAT_STEP = 2 → s.dev.ownsKey p = true →
    s.dev.keyRefused = false → s.dev.logFull = false → ∃ t, exec (.keySecond p) s = .next t ∧
      t.dev.flag GLB_KEY_STAT_OPEN = true ∧ t.dev.get GLB_KEY_STAT_STEP = 3 ∧ t.dev.get GLB_KEY_STAT_IDLE = 600 ∧
      t.dev.mgmt.staged.length = s.dev.mgmt.staged.length + 1) ∧
  -- any other order, or another path, consumes the MATCH
  (s.dev.flag GLB_KEY_STAT_OPEN = false → s.dev.get GLB_KEY_STAT_STEP ≠ 1 →
    exec (.keyFirst p) s = .next (s.shows (s.dev.clr GLB_KEY_STAT_STEP))) ∧
  (s.dev.flag GLB_KEY_STAT_OPEN = false → s.dev.ownsKey p = false →
    exec (.keySecond p) s = .next (s.shows (s.dev.clr GLB_KEY_STAT_STEP))) ∧
  (∀ v : BitVec 16, s.dev.flag GLB_KEY_STAT_OPEN = false → v ≠ 0x5E12 → v ≠ 0xA1ED →
    exec (.keyFailedWrite p v) s = .next (s.shows (s.dev.clr GLB_KEY_STAT_STEP))) ∧
  -- the owner's 0 closes the open sequence with cause 1, any other write with cause 3, its idle time with cause 2
  (s.dev.flag GLB_KEY_STAT_OPEN = true → s.dev.ownsKey p = true →
    exec (.keyClose p) s = .next (s.settles (closeKey 1 s.dev))) ∧
  (∀ v : BitVec 16, s.dev.flag GLB_KEY_STAT_OPEN = true → v ≠ 0 →
    exec (.keyFailedWrite p v) s = .next (s.settles (closeKey 3 s.dev))) ∧
  (s.dev.flag GLB_KEY_STAT_OPEN = true → exec .keyIdleTimeout s = .next (s.settles (closeKey 2 s.dev))) ∧
  (s.dev.flag GLB_KEY_STAT_OPEN = false → exec .keyIdleTimeout s = .next (s.shows s.dev)) ∧
  (s.dev.flag GLB_KEY_STAT_OPEN = false → exec .keyStepTimeout s = .next (s.shows (s.dev.clr GLB_KEY_STAT_STEP))) ∧
  (s.dev.flag GLB_KEY_STAT_OPEN = true → exec .keyStepTimeout s = .next (s.shows s.dev)))


/-! ### Breach collector, fault injection, self-test, ledger, events (chapters 14, 15, 18) -/

/-- BREACH_RAISE, GRACE_EXPIRY, BREACH_ACK, BREACH_CLEAR: R459 to R464, R468, R539. -/
def Obligations.BreachCommandsComplete : Prop := ∀ s : State, Ready s →
  -- sources of one hub cycle, with what a double-bit error ends besides
  (∀ (src : Fin 64) (e : Bool) (a : BitVec 24) (code : Byte) (more : List (Fin 64 × Byte)),
    exec (.breachRaise src e a code more) s = .next (s.settles (raiseSources src e a.toNat code.toNat
      (more.map fun x => (x.1.val, 0, x.2.toNat)) s.dev))) ∧
  -- one source alone, no fault open, in DARK: sticky, unacknowledged, effective at its level, and counted
  (∀ (src : Fin 64) (code : Byte), s.dev.get GLB_MODE_MODE = 9 → s.dev.flag COUCH_STATUS_ACTIVE = false → s.dev.brch.on = true →
    s.dev.pinIgnored src = false → 2 ≤ s.dev.level src → s.dev.level src ≤ 4 → (∀ r, r < 64 → r ≠ src.val → r ∉ s.dev.openFaults) → ∃ t,
    exec (.breachRaise src false 0 code []) s = .next t ∧ t.dev.flag (BRCH_STICKY src) = true ∧
      t.dev.flag (BRCH_UNACK src) = true ∧ t.dev.get (BRCH_DET_ADDR src) = 0 ∧
      t.dev.get (BRCH_DET_COUNT src) = min (s.dev.get (BRCH_DET_COUNT src) + 1) (2 ^ (BRCH_DET_COUNT src).w - 1) ∧
      t.dev.get (BRCH_EFF src) = s.dev.level src ∧ t.dev.get BRCH_STATUS_LAST = src.val) ∧
  -- a disabled collector ignores it
  (∀ (src : Fin 64) (code : Byte), s.dev.brch.on = false →
    exec (.breachRaise src false 0 code []) s = .next (s.shows s.dev)) ∧
  -- the grace time passes: every open fault below GMAX escalates by one level
  (s.dev.flag BRCH_STATUS_GRACE = true → exec .graceExpiry s = .next (s.settles (settleGrace (settleLevel s.dev.standing none
    ((each (s.dev.openFaults.filter fun r => decide (s.dev.get (BRCH_EFF r) < s.dev.get BRCH_CFG_GMAX))
      (fun r d => d.put (BRCH_EFF r) (d.get (BRCH_EFF r) + 1)) s.dev).event 173))))) ∧
  (s.dev.flag BRCH_STATUS_GRACE = false → exec .graceExpiry s = .next (s.shows s.dev)) ∧
  -- an acknowledgement: the named sources are acknowledged, and stay sticky
  (∀ (p : Path) (k : Fin 2) (v : Word), p ≠ .fic → ∃ t, exec (.breachAck p k v) s = .next t ∧
    (∀ j : Fin 32, v.getLsbD j = true → t.dev.flag (BRCH_UNACK (32 * k + j)) = false) ∧
    (∀ j : Fin 32, v.getLsbD j = false → t.dev.flag (BRCH_UNACK (32 * k + j)) = s.dev.flag (BRCH_UNACK (32 * k + j))) ∧
    (∀ r, r < 64 → t.dev.flag (BRCH_STICKY r) = s.dev.flag (BRCH_STICKY r))) ∧
  -- a clear: acknowledged sources whose pin is not active lose their sticky bit, and no other
  (∀ (p : Path) (k : Fin 2) (v : Word), p ≠ .fic → ∃ t,
    exec (.breachClear p k v) s = .next t ∧ ∀ j : Fin 32, t.dev.flag (BRCH_STICKY (32 * k + j)) =
      (s.dev.flag (BRCH_STICKY (32 * k + j)) && !(v.getLsbD j && !s.dev.flag (BRCH_UNACK (32 * k + j)) &&
        !s.dev.flag (BRCH_PIN (32 * k + j))))) ∧
  -- the interpreter may do neither
  (∀ (k : Fin 2) (v : Word), exec (.breachAck .fic k v) s = .next (s.shows s.dev) ∧
    exec (.breachClear .fic k v) s = .next (s.shows s.dev))

/-- A second fault while another is open is effective one level above the highest open one, at most at 4 (R460). -/
def Obligations.SecondFaultEscalates : Prop := ∀ (d : Dev) (a r : Nat), a < 64 → r < 64 → a ≠ r →
  r ∈ d.openFaults → 2 ≤ d.level a →
  min 4 (d.get (BRCH_EFF r) + 1) ≤ d.effOnRaise a ∧ d.effOnRaise a ≤ 4 ∧
  ((∀ q, q ∈ d.openFaults → q ≠ a → d.get (BRCH_EFF q) ≤ d.get (BRCH_EFF r)) →
    d.effOnRaise a = min 4 (d.get (BRCH_EFF r) + 1))

/-- The standing level S (R461): at least E of every sticky source with a level of 1 or more, and E of one of them, or
0 when there is none. -/
def Obligations.StandingLevelIsHighest : Prop := ∀ d : Dev,
  (∀ r, r < 64 → d.flag (BRCH_STICKY r) = true → 1 ≤ d.level r → d.get (BRCH_EFF r) ≤ d.standing) ∧
  (d.standing = 0 ∨ ∃ r, r < 64 ∧ d.flag (BRCH_STICKY r) = true ∧ 1 ≤ d.level r ∧ d.get (BRCH_EFF r) = d.standing)

/-- INJECT_GO, INJECT_ABORT, INJECTED_READ, INJECT_TIMEOUT: R469 to R472. -/
def Obligations.InjectCommandsComplete : Prop := ∀ s : State, Ready s →
  -- GO with the key arms a listed word with a mask of one or two bits; anything else has RESULT 5
  (∀ (p : Path) (w : Word) (n : Nat), s.dev.keyed p = true → s.dev.get BRCH_INJ_STAT_STATE ≠ 1 →
    injectWords (w.toNat % 64) (w.toNat / 4096 % 4) = some n → s.dev.get BRCH_INJ_ADDR_WORD < n →
    ones 7 (w.toNat / 65536 % 128) = 1 ∨ ones 7 (w.toNat / 65536 % 128) = 2 →
    ∃ t, exec (.injectGo p w) s = .next t ∧ t.dev.get BRCH_INJ_STAT_STATE = 1 ∧ t.dev.brch.unsol = false ∧
      t.dev.brch.arm = ⟨w.toNat % 64, s.dev.get BRCH_INJ_ADDR_WORD, w.toNat / 65536 % 128⟩) ∧
  -- while one is armed GO has RESULT 6 and leaves it armed
  (∀ (p : Path) (w : Word), s.dev.keyed p = true → s.dev.get BRCH_INJ_STAT_STATE = 1 → ∃ t,
    exec (.injectGo p w) s = .next t ∧ t.dev.get BRCH_INJ_STAT_STATE = 1 ∧ t.dev.get BRCH_INJ_STAT_RESULT = 6 ∧
      t.dev.brch.arm = s.dev.brch.arm) ∧
  (∀ (p : Path) (w : Word), s.dev.keyed p = true → s.dev.get BRCH_INJ_STAT_STATE = 0 →
    injectWords (w.toNat % 64) (w.toNat / 4096 % 4) = none →
    ∃ t, exec (.injectGo p w) s = .next t ∧ t.dev.get BRCH_INJ_STAT_STATE = 0 ∧ t.dev.get BRCH_INJ_STAT_RESULT = 5) ∧
  -- ABORT and the timeout end an armed injection with their results and event 175
  (∀ p : Path, s.dev.keyed p = true → s.dev.get BRCH_INJ_STAT_STATE = 1 → exec (.injectAbort p) s = .next (s.shows
    ((((s.dev.keyUsed).put BRCH_INJ_STAT_STATE 2).put BRCH_INJ_STAT_RESULT 4).event 175))) ∧
  (s.dev.get BRCH_INJ_STAT_STATE = 1 → exec .injectTimeout s = .next (s.shows
    (((s.dev.put BRCH_INJ_STAT_STATE 2).put BRCH_INJ_STAT_RESULT 3).event 175))) ∧
  (s.dev.get BRCH_INJ_STAT_STATE ≠ 1 → exec .injectTimeout s = .next (s.shows s.dev)) ∧
  -- the armed word is read with the mask as its syndrome, a single-bit error: detected, and not injected elsewhere
  (∀ (y : BitVec 7) (b : Bool), s.dev.get BRCH_INJ_STAT_STATE = 1 → s.dev.brch.arm.mask = y.toNat → ones 7 y.toNat = 1 →
    s.dev.brch.unsol = false → 16 ≤ s.dev.brch.arm.src → exec (.injectedRead y b false) s = .next (s.shows
      ((((((s.dev.put BRCH_INJ_STAT_STATE 2).put BRCH_INJ_STAT_RESULT 1).event 175).put BRCH_INJ_STAT_SYND y.toNat)).set
        (BRCH_DET_INJ s.dev.brch.arm.src)))) ∧
  -- a double-bit error there raises its source with the word and the syndrome; another error besides has RESULT 2
  (∀ (y : BitVec 7) (b o : Bool), s.dev.get BRCH_INJ_STAT_STATE = 1 →
    (if y.toNat = s.dev.brch.arm.mask then ones 7 y.toNat = 2 else b = true) →
    let pure := decide (y.toNat = s.dev.brch.arm.mask) && !o && !s.dev.brch.unsol
    let d := raiseSources s.dev.brch.arm.src true s.dev.brch.arm.word y.toNat [] ((((s.dev.put BRCH_INJ_STAT_STATE 2).put
      BRCH_INJ_STAT_RESULT (if pure then 1 else 2)).event 175).put BRCH_INJ_STAT_SYND y.toNat)
    exec (.injectedRead y b o) s = .next (s.settles
      (d.set (if pure then BRCH_DET_INJ s.dev.brch.arm.src else BRCH_DET_UNSOL s.dev.brch.arm.src)))) ∧
  (∀ (y : BitVec 7) (b o : Bool), s.dev.get BRCH_INJ_STAT_STATE = 1 →
    (if y.toNat = s.dev.brch.arm.mask then ones 7 y.toNat ≠ 2 else b = false) → ∃ t,
    exec (.injectedRead y b o) s = .next t ∧ t.dev.get BRCH_INJ_STAT_STATE = 2 ∧
      t.dev.get BRCH_INJ_STAT_SYND = y.toNat ∧ t.dev.brch = s.dev.brch ∧ t.dev.get BRCH_INJ_STAT_RESULT =
        if y.toNat = s.dev.brch.arm.mask ∧ o = false ∧ s.dev.brch.unsol = false then 1 else 2) ∧
  (∀ (y : BitVec 7) (b o : Bool), s.dev.get BRCH_INJ_STAT_STATE ≠ 1 →
    exec (.injectedRead y b o) s = .next (s.shows s.dev))

/-- BIST_RUN, BIST_ABORT, BIST_TEST_START, BIST_TEST_END, BIST_OVERTIME, BIST_REINIT_DONE, BIST_SEQUENCER_STALL,
ROLL_CHECK_START, ROLL_CHECK_END, SOFT_REPAIR, FUSE_REPAIR: R479 to R495. -/
def Obligations.SelfTestCommandsComplete : Prop := ∀ s : State, Ready s →
  -- a request is refused outside TEST, and queues its test in it
  (∀ v : Word, s.dev.get GLB_MODE_MODE ≠ 0xA → ∃ t, exec (.bistRun v) s = .next t ∧ t.dev.get BIST_STATUS_RESULT = 3 ∧
    t.dev.bist = s.dev.bist) ∧
  (∀ v : Word, s.dev.get GLB_MODE_MODE = 0xA → v.toNat % 64 < 54 → s.dev.bist.queue.contains (v.toNat % 64) = false →
    s.dev.bist.run.contains (v.toNat % 64) = false → ∃ t, exec (.bistRun v) s = .next t ∧
      t.dev.get BIST_STATUS_RESULT = 1 ∧ t.dev.bist.queue = s.dev.bist.queue ++ [v.toNat % 64] ∧
      t.dev.get (BIST_TSTAT_RESULT (v.toNat % 64)) = 5) ∧
  (exec .bistAbort s = .next (s.settles s.dev.bistCut)) ∧
  -- the oldest queued test that can start begins: it reads RUNNING
  (∀ k : Nat, s.dev.get GLB_MODE_MODE = 0xA → s.dev.bist.queue.find? s.dev.canStart = some k → k < 54 → ∃ t,
    exec .bistTestStart s = .next t ∧ t.dev.bist.run = s.dev.bist.run ++ [k] ∧
      t.dev.bist.queue = s.dev.bist.queue.filter (· ≠ k) ∧ t.dev.get (BIST_TSTAT_RESULT k) = 4) ∧
  (s.dev.bist.queue = [] → exec .bistTestStart s = .next (s.shows s.dev)) ∧
  -- a test that counts short is TRUNCATED; one with its count and its signature is PASS
  (∀ (k : Fin 54) (n g : Word) (a : Option (BitVec 24)), s.dev.bist.run.contains k.val = true →
    n.toNat ≠ s.dev.get (BIST_TEXP_EXPECTED k) → exec (.bistTestEnd k n g a) s = .next (s.settles
      (closeTest k 3 ((s.dev.put (BIST_TCNT_COUNT k) n.toNat).put (BIST_TSIG_SIG k) g.toNat)))) ∧
  (∀ (k : Fin 54) (n : Word), s.dev.bist.run.contains k.val = true → n.toNat = s.dev.get (BIST_TEXP_EXPECTED k) →
    exec (.bistTestEnd k n (Config.expectedSignature k) none) s = .next (s.settles (closeTest k 1
      (lanesPass k ((s.dev.put (BIST_TCNT_COUNT k) n.toNat).put (BIST_TSIG_SIG k) (Config.expectedSignature k).toNat))))) ∧
  -- one that found a failing position is FAIL, with source 46
  (∀ (k : Fin 54) (n g : Word) (a : BitVec 24), s.dev.bist.run.contains k.val = true →
    s.dev.bist.queue.contains k.val = false → n.toNat = s.dev.get (BIST_TEXP_EXPECTED k) → s.dev.brch.on = true → ∃ t, exec (.bistTestEnd k n g (some a)) s = .next t ∧
      t.dev.get (BIST_TSTAT_RESULT k) = 2 ∧ t.dev.get (BIST_TSTAT_FAILINFO k) = a.toNat ∧
      t.dev.flag (BRCH_STICKY 46) = true) ∧
  -- one whose signature alone differs is FAIL too, at a position that the spec does not give
  (∀ (k : Fin 54) (n g : Word), s.dev.bist.run.contains k.val = true → s.dev.bist.queue.contains k.val = false →
    n.toNat = s.dev.get (BIST_TEXP_EXPECTED k) → g ≠ Config.expectedSignature k → s.dev.brch.on = true → ∃ t,
    exec (.bistTestEnd k n g none) s = .next t ∧ t.dev.get (BIST_TSTAT_RESULT k) = 2 ∧
      t.dev.flag (BRCH_STICKY 46) = true) ∧
  (∀ (k : Fin 54) (n g : Word) (a : Option (BitVec 24)), s.dev.bist.run.contains k.val = false →
    exec (.bistTestEnd k n g a) s = .next (s.shows s.dev)) ∧
  (∀ (k : Fin 54) (n : Word), s.dev.bist.run.contains k.val = true → ∃ t, exec (.bistOvertime k n) s = .next t ∧
    t.dev.get (BIST_TSTAT_RESULT k) = 3 ∧ t.dev.get (BIST_TCNT_COUNT k) = n.toNat ∧
    t.dev.bist.run = s.dev.bist.run.filter (· ≠ k.val) ∧ t.dev.bist.reinit = s.dev.bist.reinit ++ [k.val]) ∧
  -- the reinitialisation leaves zeros, and a polder with no further test leaves BIST
  (∀ k : Fin 54, s.dev.bist.reinit.contains k.val = true → exec (.bistReinitDone k) s = .next (s.settles
    (let d := zeroBlock k (s.dev.onBist fun b => { b with reinit := b.reinit.filter (· ≠ k.val) })
     if k.val < 48 then leaveBist (k / 6) d else d))) ∧
  (∀ k : Fin 54, s.dev.bist.reinit.contains k.val = false → exec (.bistReinitDone k) s = .next (s.shows s.dev)) ∧
  (∀ p : Fin 8, s.dev.bist.reinit = [6 * p.val + 4] → s.dev.bist.run = [] → s.dev.bist.queue = [] →
    s.dev.inBist p = true → ∃ t, exec (.bistReinitDone ⟨6 * p.val + 4, by omega⟩) s = .next t ∧
      (t.dev.polder p).dmem = [] ∧ t.dev.inBist p = false ∧ t.dev.bist.reinit = []) ∧
  (s.dev.bist.run ≠ [] → s.dev.brch.on = true → ∃ t, exec .bistSequencerStall s = .next t ∧
    t.dev.flag (BRCH_STICKY 46) = true) ∧
  (s.dev.bist.run = [] → exec .bistSequencerStall s = .next (s.shows s.dev)) ∧
  -- the rolling check takes the next spare lane, and gives it back
  (∀ L : Nat, s.dev.flag BIST_ROLL_EN = true → s.dev.get GLB_MODE_MODE = 2 → s.dev.lcs ≠ 3 → s.dev.bist.roll = none →
    s.dev.nextSpare = some L → exec .rollCheckStart s = .next (s.shows
      (((s.dev.put BIST_ROLL_LANE L).put (LANE_CFG_ROLE L) 3).onBist fun b => { b with roll := some L }))) ∧
  (∀ (L : Nat) (n : BitVec 16) (a : Option Byte) (b : Bool), s.dev.bist.roll = some L → n ≠ 352 →
    exec (.rollCheckEnd n a b) s = .next (s.shows
      (((s.dev.put (LANE_CFG_ROLE L) 0).onBist fun b => { b with roll := none }).put BIST_ROLL_RESULT 3))) ∧
  (∀ (L : Nat) (a : Option Byte) (b : Bool), s.dev.bist.roll = some L → L < 144 → s.dev.inBist (L / 18) = false →
    a.isSome = true ∨ b = false → s.dev.brch.on = true → ∃ t,
    exec (.rollCheckEnd 352 a b) s = .next t ∧ t.dev.get BIST_ROLL_RESULT = 2 ∧ t.dev.bist.roll = none ∧
      t.dev.flag (BIST_ROLLFAIL L) = true ∧ t.dev.flag (BRCH_STICKY (16 + L / 18)) = true) ∧
  (∀ L : Nat, s.dev.bist.roll = some L → exec (.rollCheckEnd 352 none true) s = .next (s.shows
    ((((s.dev.put (LANE_CFG_ROLE L) 0).onBist fun b => { b with roll := none }).put BIST_ROLL_RESULT 1).onBist fun b =>
      { b with bad := b.bad.filter (·.unit ≠ L) }))) ∧
  (s.dev.bist.roll = none → ∀ n a b, exec (.rollCheckEnd n a b) s = .next (s.shows s.dev)) ∧
  -- repairs: a result by the order of the rules, and the accepted one is stored
  (∀ (p : Path) (w : Word), s.dev.keyed p = true → s.dev.get GLB_MODE_MODE = 0xB →
    (storeRequest w s.dev.keyUsed).softResult (storeRequest w s.dev.keyUsed).repairOf = 1 →
    ∃ t, exec (.softRepair p w) s = .next t ∧ t.dev.get BIST_REP_RESULT = 1 ∧
      t.dev.bist.soft = s.dev.bist.soft ++ [(storeRequest w s.dev.keyUsed).repairOf]) ∧
  (∀ (p : Path) (w : Word), s.dev.keyed p = true →
    (storeRequest w s.dev.keyUsed).fuseResult (storeRequest w s.dev.keyUsed).repairOf = 1 →
    ∃ t, exec (.fuseRepair p w) s = .next t ∧ t.dev.get BIST_REP_RESULT = 1 ∧
      t.dev.bist.fused = s.dev.bist.fused ++ [(storeRequest w s.dev.keyUsed).repairOf] ∧
      (storeRequest w s.dev.keyUsed).repairOf ∉ t.dev.bist.soft)

/-- LEDGER_TICK, LEDGER_COMMIT, TREND_INTERVAL, WEEK_ROLLOVER, WARN_CLEAR, LEDGER_WINDOW_READ: R24, R555 to R564, R570.
-/
def Obligations.LedgerCommandsComplete : Prop := ∀ s : State, Ready s →
  -- a second passes: the powered seconds, the lanes' lit seconds, the temperatures, the lockout and the scrub
  (∀ l u x, s.dev.ledgerIdle = false → exec (.ledgerTick l u x) s = .next (s.settles
    (scrubTick (x.map BitVec.toNat) (each ((u.take 8).zipIdx) (fun e d => heatSecond e.2 e.1.toInt d)
      (each l (fun e d => litSecond e.1 e.2.toNat d) (s.dev.count 0 8 1).showTime)).lockTick))) ∧
  (s.dev.ledgerIdle = false → s.dev.ldg.scrub = none → s.dev.mgmt.lock = 0 → ∃ t, exec (.ledgerTick [] [] none) s = .next t ∧
    t.dev.powered = s.dev.powered + 1 ∧ t.dev.get LDG_SECS_LO = (s.dev.powered + 1) % 2 ^ 32 ∧
    t.dev.ldg.mram = s.dev.ldg.mram) ∧
  (∀ l u x, s.dev.ledgerIdle = true → exec (.ledgerTick l u x) s = .next (s.shows s.dev)) ∧
  -- a commit moves the counts into MRAM
  (s.dev.ledgerIdle = false → ∃ t, exec .ledgerCommit s = .next t ∧ t.dev.ldg.acc = [] ∧ t.dev.ldg.charge = [] ∧
    t = s.shows s.dev.commit) ∧
  -- an interval adds its mean to a lane that reads UP
  (∀ ms : List (Fin 144 × Byte), s.dev.ledgerIdle = false → ∃ t, exec (.trendInterval ms) s = .next t ∧
    ∀ L : Fin 144, Table.get [] t.dev.ldg.means L = Table.get [] s.dev.ldg.means L ++
      (if s.dev.get (LANE_LINK_STATE L) = 4 then (ms.filter fun e => e.1 = L).map fun e => e.2.toNat else [])) ∧
  (∀ ms, s.dev.ledgerIdle = true → exec (.trendInterval ms) s = .next (s.shows s.dev)) ∧
  -- a week ends: every lane without a mean has the record of an empty week
  (s.dev.ledgerIdle = false → 604800 ≤ s.dev.powered → ∃ t, exec .weekRollover s = .next t ∧
    t.dev.ldg.means = [] ∧
    ∀ L, L < 144 → Table.get [] s.dev.ldg.means L = [] → peekB t.dev.ldg.mram (weekAt (s.dev.powered / 604800 - 1) L) 4 = [0xFF, 0xFF, 0xFF, 0x00]) ∧
  (s.dev.ledgerIdle = true ∨ s.dev.powered < 604800 → exec .weekRollover s = .next (s.shows s.dev)) ∧
  (s.dev.ledgerIdle = true → exec .ledgerCommit s = .next (s.shows s.dev)) ∧
  -- the warnings of the named lanes are cleared
  (∀ (k : Fin 4) (v : Word), ∃ t, exec (.warnClear (k.castSucc) v) s = .next t ∧
    ∀ j : Fin 32, v.getLsbD j = true → t.dev.flag (LDG_WARN (32 * k + j)) = false ∧
      Table.get 0 t.dev.ldg.mram (0x4000 + 128 * (32 * k + j) + 24) = 0) ∧
  -- the window shows the page; 0 with RESULT 2 while the engine is stopped
  (∀ o : BitVec 13, s.dev.mgmt.stopped = false → exec (.ledgerWindowRead o) s = .next (s.shows (s.dev.emits
    (.read (Dev.nat (peekB s.dev.ldg.mram (32768 * s.dev.get LDG_PAGE_PAGE + 4 * o.toNat) 4)))))) ∧
  (∀ o : BitVec 13, s.dev.mgmt.stopped = true → exec (.ledgerWindowRead o) s =
    .next (s.shows ((s.dev.put LDG_STATUS_RESULT 2).emits (.read 0))))

/-- EVENT_ENABLE, MSIX_UNMASK, MODE_WORD_TIMEOUT: R566 to R569. -/
def Obligations.EventCommandsComplete : Prop := ∀ s : State, Ready s →
  (∀ (k : Fin 6) (v : Word), ∃ t, exec (.eventEnable k v) s = .next t ∧
    (∀ j : Fin 32, t.dev.flag (EVT_EN (32 * k + j)) = v.getLsbD j) ∧
    (∀ e, e < 192 → e / 32 ≠ k.val → t.dev.flag (EVT_EN e) = s.dev.flag (EVT_EN e)) ∧
    (∀ e, e < 192 → t.dev.flag (EVT_PEND e) = s.dev.flag (EVT_PEND e))) ∧
  -- the pending message of a vector goes out when its mask goes
  (∀ v : Fin 32, s.dev.pcie.fnMask = false → s.dev.pcie.pba.testBit v = true → ∃ t, exec (.msixUnmask false v) s = .next t ∧
    t.dev.out = s.dev.out ++ [.msix v] ∧ t.dev.pcie.pba.testBit v = false ∧ t.dev.pcie.mask.testBit v = false) ∧
  (∀ v : Fin 32, s.dev.pcie.pba.testBit v = false → ∃ t, exec (.msixUnmask false v) s = .next t ∧
    t.dev.out = s.dev.out ∧ t.dev.pcie.mask.testBit v = false) ∧
  (s.dev.pcie.pba = 0 → ∀ v, exec (.msixUnmask true v) s = .next (s.shows (s.dev.onPcie fun p =>
    { p with fnMask := false }))) ∧
  -- SAFE_N is low when no mode word has come for 100 µs
  (∃ t, exec .modeWordTimeout s = .next t ∧ t.dev.flag EVT_STATUS_LINKOK = false ∧
    t.dev.flag EVT_STATUS_SAFE_N = false)

/-! ### Supplies, temperature, reset; register access (chapters 19, 1 and 20) -/

/-- RAIL_WARNING, RAIL_RECOVER, RAIL_ACTION, SERIALISER_RESTART, LED_DRIVER_RESTORE, THERMAL_WARNING, THERMAL_RESET,
THERMAL_COOLDOWN: R575, R589, R591; each acts whether or not the core die is in reset. POWER_ON, RESET_PIN, PERST,
TRST, RESET_RELEASE, RETENTION_LOSS: R284, R543, R576, R581 to R584, R592. -/
def Obligations.SupplyAndResetCommandsComplete : Prop :=
  (∀ s : State,
  -- a rail outside its window shows in WARN and in source 32 (VCORE, VSER, VRET) or 33 (VANA, VIO, VOPT)
  (∀ r : Fin 6, exec (.railWarning r) s = .next (s.settles
    ((s.dev.onBrch fun b => { b with rails := b.rails ||| 2 ^ r.val }).showRails r))) ∧
  (∀ r : Fin 6, s.dev.brch.rails.testBit r = true → exec (.railRecover r) s = .next (s.settles
    ((s.dev.onBrch fun b => { b with rails := b.rails - 2 ^ r.val }).showRails r))) ∧
  (∀ r : Fin 6, Ready s → s.dev.brch.rails = 2 ^ r.val → ∃ t, exec (.railRecover r) s = .next t ∧
    t.dev.brch.rails = 0 ∧ t.dev.get PWR_STATUS_WARN = 0 ∧ t.dev.brch.cond.testBit (railSource r) = false) ∧
  -- VCORE, VANA and VIO reset the core die; VSER stops the serialisers; VOPT turns the LED drivers off
  (∀ r : Fin 6, r.val = 0 ∨ r.val = 2 ∨ r.val = 3 → ∃ t, exec (.railAction r) s = .next t ∧ t.dev.awake = false ∧
    t.dev.flag PWR_RST_SUPPLY = true ∧ t.dev.get PWR_RST_RAIL = r.val ∧ t.dev.flag EVT_STATUS_SAFE_N = false) ∧
  (exec (.railAction 1) s = .next (s.settles s.dev.serialisersOff)) ∧
  (exec (.railAction 4) s = .next (s.settles (s.dev.set PWR_STATUS_OPTOFF))) ∧
  (exec .serialiserRestart s = .next (s.settles (s.dev.clr PWR_STATUS_SEROFF))) ∧
  (exec .ledDriverRestore s = .next (s.settles (s.dev.clr PWR_STATUS_OPTOFF))) ∧
  -- 113 °C: THOT; 125 °C: a reset that holds until 100 °C, below 108 °C THOT goes
  (∀ (k : Fin 11) (c : Byte), 113 ≤ c.toInt → ∃ t, exec (.thermalWarning k c) s = .next t ∧
    (s.dev.awake = true → t.dev.brch.cond.testBit 31 = true) ∧ t.dev.flag PWR_STATUS_THOT = true) ∧
  (∀ (k : Fin 11) (c : Byte), 125 ≤ c.toInt → ∃ t, exec (.thermalReset k c) s = .next t ∧ t.dev.awake = false ∧
    t.dev.flag PWR_RST_THERMAL = true ∧ t.dev.pwr.held.testBit 2 = true) ∧
  (∀ (k : Fin 11) (c : Byte), s.dev.awake = false → 100 < c.toInt → c.toInt ≤ 108 → ∃ t,
    exec (.thermalCooldown k c) s = .next t ∧ t.dev.flag PWR_STATUS_THOT = false ∧ t.dev.pwr = s.dev.pwr) ∧
  (∀ (k : Fin 11) (c : Byte), s.dev.awake = false → c.toInt ≤ 100 → s.dev.pwr.held = 4 → ∃ t,
    exec (.thermalCooldown k c) s = .next t ∧ t.dev.pwr.held.testBit 2 = false ∧ t.dev.awake = false)) ∧
  (∀ s : State,
  (∃ t, exec .powerOn s = .next t ∧ t.dev.awake = false ∧ t.dev.flag PWR_RST_POR = true ∧ t.pending = s.pending) ∧
  -- RESET_N: one more frame with every output OFF goes to the berm, then the core die is as reset leaves it
  (s.dev.awake = true → s.dev.berm.masterOff = false → ∃ t, exec .resetPin s = .next t ∧ t.dev.awake = false ∧
    t.dev.flag PWR_RST_PIN = true ∧ t.dev.get PWR_RST_RAIL = 0xF ∧ t.dev.flag EVT_STATUS_SAFE_N = false ∧
    t.dev.out = s.dev.out ++ [.iso 0 ((s.dev.berm.txSeq + 1) % 256)] ∧
    t.dev.get PWR_RST_COUNT = min (s.dev.get PWR_RST_COUNT + 1) 255 ∧ t.dev.get GLB_MODE_MODE = 0 ∧
    t.dev.lanes = [] ∧ t.dev.cells = [] ∧ t.dev.mgmt.flash = s.dev.mgmt.flash ∧ t.dev.ldg.mram = s.dev.ldg.mram ∧
    t.dev.brch.on = false ∧ t.pending = s.pending) ∧
  -- a second source during the reset is recorded
  (s.dev.awake = false → ∃ t, exec .resetPin s = .next t ∧ t.dev.flag PWR_RST_PIN = true ∧
    t.dev.pwr.held = s.dev.pwr.held ||| 8 ∧ t.dev.get PWR_RST_COUNT = s.dev.get PWR_RST_COUNT) ∧
  (s.dev.pcie.up = false → exec .perst s = .next (s.settles s.dev)) ∧
  (s.dev.pcie.up = true → exec .perst s = .next (s.settles s.dev.linkDown)) ∧
  (exec .trst s = .next (s.settles s.dev)) ∧
  -- release, with REFCLK and without a thermal hold: the collector is on, GLB_START names the source, LOAD begins
  (∀ prog, s.dev.awake = false → s.dev.pwr.held.testBit 2 = false → s.dev.tide.refLost = false → ∃ t,
    exec (.resetRelease prog) s = .next t ∧ t.dev.awake = true ∧ t.dev.brch.on = true ∧
      t.dev.get GLB_START_SRC = resetSrc s.dev.pwr.acted ∧ t.dev.flag PWR_STATUS_REFCLK = true ∧
      t.dev.flag GLB_START_RETOK = s.dev.pwr.retOk ∧ t.dev.flag (EVT_PEND 191) = true ∧ t.pending = s.pending) ∧
  (∀ prog, s.dev.awake = true ∨ s.dev.pwr.held.testBit 2 = true ∨ s.dev.tide.refLost = true →
    exec (.resetRelease prog) s = .next (s.settles s.dev)) ∧
  -- without its supply the retention area is lost
  (∃ t, exec .retentionLoss s = .next t ∧ t.dev.pwr.retOk = false ∧ t.dev.mgmt.retained = {} ∧
    t.dev.flag GLB_START_WVALID = false ∧ t.dev.get PWR_RST_COUNT = 0 ∧ t.dev.get PWR_RST_RAIL = 0xF))

/-- A write whose byte enables do not cover all four bytes is discarded (R6). -/
def Obligations.PartialWriteDiscarded : Prop := ∀ (s : State) (p : Path) (o : BitVec 18) (v : Word) (be : BitVec 4),
  be ≠ 0xF → Ready s → exec (.registerWrite p o v be) s = .next (s.shows s.dev)

/-- REGISTER_WRITE, RC_READ, WIDE_READ_LOW, SPI_WRITE_FRAME, SPI_READ_FRAME: R4 to R9, R283, R310, R583. -/
def Obligations.RegisterAccessCommandsComplete : Prop := ∀ s : State, Ready s →
  -- a write that covers all four bytes is a write of the word at its offset
  (∀ (p : Path) (o : BitVec 18) (v : Word), exec (.registerWrite p o v 0xF) s =
    .next (s.settles (writeReg p (4 * o.toNat) v.toNat s.dev))) ∧
  -- a read answers the bytes that its byte enables address, with the effects of a read of the whole word
  (∀ (p : Path) (o : BitVec 18) (be : BitVec 4),
    let r := readReg p (4 * o.toNat) s.dev
    exec (.rcRead p o be) s = .next (s.settles (r.2.emits (.read (addressed be r.1)))) ∧
    exec (.wideReadLow p o be) s = .next (s.settles (r.2.emits (.read (addressed be r.1))))) ∧
  (∀ v : Word, addressed 0xF v.toNat = v.toNat) ∧
  -- a plain register takes its RW fields
  (∀ (p : Path) (v : Word), p ≠ .fic → ∃ t, exec (.registerWrite p 0x18 v 0xF) s = .next t ∧
    t.dev.get GLB_GPIO_OUT = v.toNat / 2 ^ GLB_GPIO_OUT.lsb % 2 ^ GLB_GPIO_OUT.w) ∧
  -- a KRW register keeps its value without the key, and the difference is counted
  (∀ v : Word, s.dev.keyed .pcie = false → s.dev.keyDiffers 0x20080 v.toNat = true →
    exec (.registerWrite .pcie 0x8020 v 0xF) s = .next (s.shows (((s.dev.inc GLB_KEY_STAT_REJ).put
      GLB_KEY_REJ_OFF 0x20080)))) ∧
  -- the interpreter's writes to a spared register have no effect
  (∀ v : Word, exec (.registerWrite .fic 0x5 v 0xF) s = .next (s.shows s.dev)) ∧
  -- reading BRCH_STATUS takes PEAK back to its reset value, whichever bytes are addressed
  (∀ (p : Path) (be : BitVec 4), ∃ t, exec (.rcRead p 0x8000 be) s = .next t ∧ t.dev.get BRCH_STATUS_PEAK = 0 ∧
    t.dev.out = s.dev.out ++ [.read (addressed be (s.dev.readFields 0x20000))]) ∧
  -- the low word of TIDE_PERIOD holds its upper word back for the read that follows
  (∀ (p : Path) (be : BitVec 4), exec (.wideReadLow p 0x4006 be) s = .next (s.shows ((setShadow 0x1001C
    (s.dev.readFields 0x1001C) s.dev).emits (.read (addressed be (s.dev.readFields 0x10018)))))) ∧
  (∀ (p : Path) (be : BitVec 4), exec (.rcRead p 0x4007 be) s = .next (s.shows (s.dev.emits
    (.read (addressed be (Table.get 0 s.dev.shadow 0x1001C)))))) ∧
  -- SPI: a frame of another length, one that fails its CRC-8, one that writes
  (∀ bs : List Byte, s.dev.spiOpen = true → bs.length ≠ 9 → exec (.spiWriteFrame bs) s = .next (s.shows
    { s.dev.inc RACE_SPI_LENERR with spi := { wcrc := true, wkey := false } })) ∧
  (∀ bs : List Byte, s.dev.spiOpen = true → bs.length = 9 → crc8 (bs.take 8) ≠ (bs.getD 8 0).toNat →
    exec (.spiWriteFrame bs) s = .next (s.shows { s.dev.inc RACE_SPI_CRCERR with spi := { wcrc := true, wkey := false } })) ∧
  (∀ bs : List Byte, s.dev.spiOpen = true → bs.length = 9 → crc8 (bs.take 8) = (bs.getD 8 0).toNat →
    exec (.spiWriteFrame bs) s = .next (s.settles (
      let d := { s.dev with spi := { wcrc := false, wkey := false } }
      if bs.getD 0 0 = 0x02 then writeReg .spi (4 * Dev.nat ((bs.drop 1).take 3)) (Dev.nat ((bs.drop 4).take 4)) d else d))) ∧
  -- a read frame answers in its 13 bytes; a shorter or a longer one is counted, and so is one that fails its CRC-8
  (∀ bs : List Byte, s.dev.spiOpen = true →
    let ok := decide (5 ≤ bs.length) && crc8 (bs.take 4) == (bs.getD 4 0).toNat
    let r := if ok then readReg .spi (4 * Dev.nat ((bs.drop 1).take 3)) s.dev else (0, s.dev)
    let status := s.dev.spi.wcrc.toNat + 2 * s.dev.spi.wkey.toNat + 4 * (!ok).toNat
    let d := if 5 ≤ bs.length ∧ !ok then r.2.inc RACE_SPI_CRCERR else r.2
    exec (.spiReadFrame bs) s = .next (s.settles ((if bs.length = 13 then d else d.inc RACE_SPI_LENERR).emits
      (.spi ((spiResponse status r.1).take bs.length))))) ∧
  (∀ bs : List Byte, s.dev.spiOpen = true → bs.length = 13 → crc8 (bs.take 4) = (bs.getD 4 0).toNat →
    Dev.nat ((bs.drop 1).take 3) = 0x4007 → exec (.spiReadFrame bs) s = .next (s.shows (s.dev.emits (.spi
      (spiResponse (s.dev.spi.wcrc.toNat + 2 * s.dev.spi.wkey.toNat) (Table.get 0 s.dev.shadow 0x1001C)))))) ∧
  (∀ bs : List Byte, s.dev.spiOpen = false → exec (.spiWriteFrame bs) s = .next (s.shows s.dev) ∧
    exec (.spiReadFrame bs) s = .next (s.shows s.dev))

/-! ### Isolation channel, inputs, outputs, lamps, field supply (chapter 12) -/

/-- ISO_FRAME_TX, BERM_FRAME_RECEIVE, TERP_FRAME_RECEIVE, BERM_SILENCE, TERP_SILENCE, BERM_SELFCHECK_FAIL: R399 to
R401, R419, R435, R440. -/
def Obligations.IsolationChannelCommandsComplete : Prop := ∀ s : State,
  -- one frame in each direction, with the next sequence numbers
  (Ready s → s.dev.berm.masterOff = false → s.dev.berm.powered = true → ∃ t, exec .isoFrameTx s = .next t ∧
    t.dev.out = s.dev.out ++ [.iso s.dev.outWord ((s.dev.berm.txSeq + 1) % 256)] ∧
    t.dev.berm.txSeq = (s.dev.berm.txSeq + 1) % 256 ∧ t.dev.berm.lastOuts = s.dev.outWord ∧
    (∃ f, t.dev.berm.toBerm = some f ∧ f.outs = s.dev.outWord) ∧
    (∃ g, t.dev.berm.toTerp = some g ∧ g.seq = (s.dev.berm.rxSeq + 1) % 256)) ∧
  -- a frame with another number and a good CRC is valid; its outputs and its releases are applied
  (∀ f : ToBerm, s.dev.berm.toBerm = some f → s.dev.berm.powered = true → s.dev.berm.bermSeq ≠ some f.seq →
    s.dev.berm.silent = false → exec (.bermFrameReceive true) s = .next (s.settles (applyFrame f (takeReleases f
      ((s.dev.onBerm fun b => { b with toBerm := none }).onBerm fun b => { b with bermSeq := some f.seq }))))) ∧
  -- during silence of a berm whose self-check passes, valid frames in succession are counted up to the eighth, which ends it
  (∀ f : ToBerm, s.dev.berm.toBerm = some f → s.dev.berm.powered = true → s.dev.berm.bermSeq ≠ some f.seq →
    s.dev.berm.silent = true → s.dev.berm.selfOk = true →
    let n := s.dev.berm.goodRun + 1
    exec (.bermFrameReceive true) s = .next (s.settles (applyFrame f (takeReleases f (s.dev.onBerm fun b =>
      { b with toBerm := none, bermSeq := some f.seq, silent := decide (n < 8), goodRun := if n < 8 then n else 0 }))))) ∧
  -- a frame that fails its CRC or repeats its number restarts the count of valid ones, and changes no output
  (∀ (f : ToBerm) (b : Bool), s.dev.berm.toBerm = some f → s.dev.berm.powered = true →
    b = false ∨ s.dev.berm.bermSeq = some f.seq → exec (.bermFrameReceive b) s =
    .next (s.settles (s.dev.onBerm fun b => { b with toBerm := none, goodRun := 0 }))) ∧
  (∀ (f : ToBerm) (b : Bool), s.dev.berm.toBerm = some f → s.dev.berm.powered = false → exec (.bermFrameReceive b) s =
    .next (s.settles (s.dev.onBerm fun b => { b with toBerm := none }))) ∧
  (∀ b, s.dev.berm.toBerm = none → exec (.bermFrameReceive b) s = .next (s.settles s.dev)) ∧
  -- the other direction: the image, the link's conditions, the edge reset, the contactors and the cabinet follow
  (∀ f : ToTerp, Ready s → s.dev.berm.toTerp = some f → s.dev.berm.terpSeq ≠ some f.seq → ∃ t,
    exec (.terpFrameReceive true) s = .next t ∧ t.dev.berm.image = [f.iw0, f.iw1, f.iw2, f.iw3, f.iw4, f.iw5] ∧
      t.dev.berm.terpSilent = false ∧ t.dev.berm.terpSeq = some f.seq ∧ t.dev.berm.toTerp = none) ∧
  (∀ (f : ToTerp) (b : Bool), Ready s → s.dev.berm.toTerp = some f → b = false ∨ s.dev.berm.terpSeq = some f.seq →
    exec (.terpFrameReceive b) s = .next (s.shows (s.dev.onBerm fun b => { b with toTerp := none }))) ∧
  (∀ b, Ready s → s.dev.berm.toTerp = none → exec (.terpFrameReceive b) s = .next (s.shows s.dev)) ∧
  -- silence at the berm: SILENCED, its count, and every output without SILENT = 1 off; once released, a further silence
  -- does it again
  (s.dev.berm.powered = true → s.dev.berm.silent = false ∨ s.dev.flag FLD_STATUS_SILENCED = false → ∃ t, exec .bermSilence s = .next t ∧
    t.dev.berm.silent = true ∧ t.dev.flag FLD_STATUS_SILENCED = true ∧ t.dev.flag EVT_STATUS_SAFE_N = false ∧
    (∀ k, k < 16 → (s.dev.flag (FLD_OUT_SILENT k) = false ∨ s.dev.isSafetyOut k = true) → (t.dev.fout k).on = false)) ∧
  (s.dev.berm.powered = true → s.dev.berm.silent = true → s.dev.flag FLD_STATUS_SILENCED = true →
    exec .bermSilence s = .next (s.settles (s.dev.onBerm fun b => { b with silent := true, goodRun := 0 }))) ∧
  (s.dev.berm.powered = false → exec .bermSilence s = .next (s.settles s.dev)) ∧
  -- silence at the terp island: source 38, no isolation, inputs invalid and safety inputs 0
  (Ready s → s.dev.berm.terpSilent = false → ∃ t, exec .terpSilence s = .next t ∧ t.dev.berm.terpSilent = true ∧
    t.dev.flag CAB_STATUS_ISO_OK = false ∧ t.dev.brch.cond.testBit 38 = true ∧ t.dev.berm.image.getD 1 0 = 0xFFFFFF) ∧
  (Ready s → s.dev.berm.terpSilent = true → exec .terpSilence s = .next (s.shows s.dev)) ∧
  -- a berm whose self-check fails acts as if silent
  (s.dev.berm.powered = true → exec .bermSelfcheckFail s = .next (s.settles
    (actSilent ((s.dev.onBerm fun b => { b with selfOk := false }).clr FLD_STATUS_BERM_OK)))) ∧
  (s.dev.berm.powered = false → exec .bermSelfcheckFail s = .next (s.settles s.dev)) ∧
  -- and its valid frames then end no silence and release nothing
  (∀ f : ToBerm, s.dev.berm.toBerm = some f → s.dev.berm.powered = true → s.dev.berm.bermSeq ≠ some f.seq →
    s.dev.berm.silent = true → s.dev.berm.selfOk = false → s.dev.berm.goodRun = 0 →
    s.dev.flag FLD_STATUS_SILENCED = true → ∃ t, exec (.bermFrameReceive true) s = .next t ∧ t.dev.berm.silent = true ∧
      t.dev.flag FLD_STATUS_SILENCED = true)

/-- INPUT_SAMPLE, INPUT_DEBOUNCE, INPUT_INVALID_TIMEOUT, TEST_PULSE_START, TEST_PULSE_END: R402 to R407. The bands of
an input current, in 0.05 mA (R402). -/
def Obligations.InputCommandsComplete : Prop :=
  (∀ (s : State) (x : Fin 24),
  -- a sample outside every pulse and 20 samples past it: the band of R402 is the raw state, a value in a gap keeps it
  (∀ (i : Byte) (l : Bool) (b : Nat), s.dev.get (FLD_IN_TYPE x) ≠ 0 → s.dev.berm.pulse = none → (s.dev.fin x).hold = 0 →
    band (s.dev.get (FLD_IN_TYPE x)) i.toNat = some b → exec (.inputSample x i l) s = .next (s.settles
      ((s.dev.put (FLD_IN_IIN x) i.toNat).onFin x fun y => { y with
        raw := b, gap := false, held := if b = y.raw then min (y.held + 1) 65535 else 1,
        clear := if b = y.raw ∧ y.gap = false then min (y.clear + 1) 65535 else 1 }))) ∧
  (∀ (i : Byte) (l : Bool), s.dev.get (FLD_IN_TYPE x) ≠ 0 → s.dev.berm.pulse = none → (s.dev.fin x).hold = 0 →
    band (s.dev.get (FLD_IN_TYPE x)) i.toNat = none → exec (.inputSample x i l) s = .next (s.settles
      ((s.dev.put (FLD_IN_IIN x) i.toNat).onFin x fun y =>
        { y with gap := true, held := min (y.held + 1) 65535, clear := 0 }))) ∧
  -- from the start of a pulse to 20 samples past its end the raw state holds
  (∀ (i : Byte) (l : Bool), s.dev.berm.pulse ≠ none ∨ 0 < (s.dev.fin x).hold → ∃ t,
    exec (.inputSample x i l) s = .next t ∧ (t.dev.fin x).raw = (s.dev.fin x).raw ∧
      (t.dev.fin x).gap = (s.dev.fin x).gap ∧ (t.dev.fin x).deb = (s.dev.fin x).deb ∧ t.dev.get (FLD_IN_IIN x) = i.toNat ∧
      (t.dev.fin x).hold = (s.dev.fin x).hold -
        (if s.dev.berm.pulse = none ∧ s.dev.get (FLD_IN_TYPE x) ≠ 0 then 1 else 0)) ∧
  (∀ (i : Byte) (l : Bool), s.dev.get (FLD_IN_TYPE x) = 0 →
    exec (.inputSample x i l) s = .next (s.settles (s.dev.put (FLD_IN_IIN x) i.toNat))) ∧
  -- the debounced state takes the raw state, once that has held for DEB; INVALID goes when no sample lay in a gap
  (s.dev.get (FLD_IN_TYPE x) ≠ 0 → s.dev.get (FLD_IN_DEB x) ≤ (s.dev.fin x).held → ∃ t,
    exec (.inputDebounce x) s = .next t ∧ (t.dev.fin x).deb = (s.dev.fin x).raw ∧
    (t.dev.fin x).invalid = ((s.dev.fin x).invalid && decide ((s.dev.fin x).clear < s.dev.get (FLD_IN_DEB x))) ∧
    (t.dev.get (FLD_IN_FAULT x) = 1 ↔ (s.dev.fin x).raw = 0) ∧ ∀ y, y ≠ x.val → t.dev.fin y = s.dev.fin y) ∧
  (s.dev.get (FLD_IN_TYPE x) = 0 ∨ (s.dev.fin x).held < s.dev.get (FLD_IN_DEB x) →
    exec (.inputDebounce x) s = .next (s.settles s.dev)) ∧
  -- a gap that lasts is INVALID, fault 2 unless the input reads BREAK
  ((s.dev.fin x).gap = true → s.dev.supplyOk = true → s.dev.get (FLD_IN_TYPE x) ≠ 0 → (s.dev.fin x).deb ≠ 0 → ∃ t,
    exec (.inputInvalidTimeout x) s = .next t ∧ (t.dev.fin x).invalid = true ∧ t.dev.get (FLD_IN_FAULT x) = 2) ∧
  ((s.dev.fin x).gap = false ∨ s.dev.supplyOk = false ∨ s.dev.get (FLD_IN_TYPE x) = 0 →
    exec (.inputInvalidTimeout x) s = .next (s.settles s.dev)) ∧
  -- a pulse of a source in use begins, and keeps the currents before it; its end checks every input against it
  (∀ k : Fin 4, s.dev.berm.powered = true → s.dev.sourcesInUse.contains k.val = true → s.dev.berm.pulse = none → ∃ t,
    exec (.testPulseStart k) s = .next t ∧ t.dev.berm.pulse = some k.val ∧
      (t.dev.fin x).before = s.dev.get (FLD_IN_IIN x) ∧ (t.dev.fin x).sawHigh = false ∧ (t.dev.fin x).sawOn = false) ∧
  (∀ k : Fin 4, s.dev.berm.powered = false ∨ s.dev.sourcesInUse.contains k.val = false ∨ s.dev.berm.pulse ≠ none →
    exec (.testPulseStart k) s = .next (s.settles s.dev)) ∧
  (∀ k : Nat, s.dev.berm.pulse = some k → exec .testPulseEnd s = .next (s.settles
    (each (List.range 24) (fun x d => pulseCheck k x (d.onFin x fun y => { y with hold := 20 }))
      (s.dev.onBerm fun b => { b with pulse := none })))) ∧
  (s.dev.berm.pulse = none → exec .testPulseEnd s = .next (s.settles s.dev))) ∧
  (∀ i : Nat,
  (band 1 i = if i < 25 then some 1 else if i < 75 then none else some 2) ∧
  (band 2 i = if i < 25 then some 1 else if i < 55 then none else some 2) ∧
  (band 3 i = if i < 12 then some 0 else if i < 18 then none else if i < 44 then some 1 else if i < 70 then none else some 2))

/-- INRUSH_WINDOW_END, OUTPUT_OVERLOAD, OUTPUT_SAMPLE, DARK_TEST_START, DARK_TEST_END, CORRELATION_PULSE: R408 to R412.
-/
def Obligations.OutputCommandsComplete : Prop := ∀ (s : State) (k : Fin 16),
  (exec (.inrushWindowEnd k) s = .next (s.settles (s.dev.onFout k fun x => { x with inrush := false }))) ∧
  -- an overload switches the output off and latches until its demand falls
  ((s.dev.fout k).on = true → ∃ t, exec (.outputOverload k) s = .next t ∧ (t.dev.fout k).on = false ∧
    (t.dev.fout k).overload = true ∧ t.dev.get (FLD_OUT_FAULT k) = 1) ∧
  ((s.dev.fout k).on = false → exec (.outputOverload k) s = .next (s.settles s.dev)) ∧
  -- a sample of an output that is off: the third high one in succession finds it fed from outside, a low one clears that
  ((s.dev.fout k).on = false → (s.dev.fout k).testing = false → (s.dev.fout k).skipOff = 0 →
    s.dev.isLamp k = false ∨ s.dev.supplyOk = true →
    let high := (s.dev.onFout k fun x => { x with pinHigh := true, skipOff := x.skipOff - 1 }).onFout k fun y =>
      { y with highRun := y.highRun + 1, okSince := none }
    ((s.dev.fout k).highRun = 2 → exec (.outputSample k 2) s = .next (s.settles (markFed k high))) ∧
    ((s.dev.fout k).highRun ≠ 2 → exec (.outputSample k 2) s = .next (s.settles high)) ∧
    ∀ p : Fin 3, p ≠ 2 → exec (.outputSample k p) s = .next (s.settles (feedGone k ((s.dev.onFout k fun x =>
      { x with pinHigh := false, skipOff := x.skipOff - 1 }).onFout k fun x => { x with highRun := 0 })))) ∧
  -- one of an output that is on, under test or settling, and of a lamp outside NORMAL, shows the pin only
  ((s.dev.fout k).on = true ∨ (s.dev.fout k).testing = true ∨ 0 < (s.dev.fout k).skipOff ∨
      (s.dev.isLamp k = true ∧ s.dev.supplyOk = false) →
    ∀ p : Fin 3, exec (.outputSample k p) s = .next (s.settles (s.dev.onFout k fun x =>
      { x with pinHigh := p.val == 2, skipOff := x.skipOff - 1 }))) ∧
  -- one dark test at a time
  ((s.dev.fout k).on = true → s.dev.flag (FLD_OUT_DTEST k) = true → (∀ j, j < 16 → (s.dev.fout j).testing = false) →
    exec (.darkTestStart k) s = .next (s.settles (s.dev.onFout k fun x => { x with testing := true }))) ∧
  (∀ j, j < 16 → (s.dev.fout j).testing = true → exec (.darkTestStart k) s = .next (s.settles s.dev)) ∧
  ((s.dev.fout k).on = false ∨ s.dev.flag (FLD_OUT_DTEST k) = false →
    exec (.darkTestStart k) s = .next (s.settles s.dev)) ∧
  -- a pin that does not fall is fed from outside; one that falls clears that; a lamp outside NORMAL has no verdict
  ((s.dev.fout k).testing = true →
    let d := s.dev.onFout k fun x => { x with testing := false, skipLamp := max x.skipLamp 1 }
    (s.dev.isLamp k = false ∨ s.dev.supplyOk = true → exec (.darkTestEnd k 0) s = .next (s.settles (feedGone k d)) ∧
      ∀ p : Fin 3, p ≠ 0 → exec (.darkTestEnd k p) s = .next (s.settles (markFed k d))) ∧
    (s.dev.isLamp k = true → s.dev.supplyOk = false → ∀ p, exec (.darkTestEnd k p) s = .next (s.settles d))) ∧
  ((s.dev.fout k).testing = false → ∀ p, exec (.darkTestEnd k p) s = .next (s.settles s.dev)) ∧
  -- a pulse goes to the next other output that is still on, and the last one ends the sequence
  (∀ (todo hits rest : List Nat) (j : Nat) (p : Fin 3), (s.dev.fout k).correl = some (todo, hits) →
    (todo.filter fun j => (s.dev.fout j).on) = j :: rest →
    let got := if p = 0 then hits ++ [j] else hits
    exec (.correlationPulse k p) s = .next (s.settles (if rest = [] then correlEnd k got s.dev
      else s.dev.onFout k fun x => { x with correl := some (rest, got) }))) ∧
  (∀ (todo hits : List Nat) (p : Fin 3), (s.dev.fout k).correl = some (todo, hits) →
    (∀ j ∈ todo, (s.dev.fout j).on = false) →
    exec (.correlationPulse k p) s = .next (s.settles (correlEnd k hits s.dev))) ∧
  -- the one other output whose pulse showed on this one is its partner: both are BRIDGED
  (∀ j : Nat, j < 16 → j ≠ k.val → (s.dev.fout k).correl = some ([j], []) → (s.dev.fout j).on = true →
    s.dev.isSafetyOut k = false → s.dev.isSafetyOut j = false → ∃ t, exec (.correlationPulse k 0) s = .next t ∧
      t.dev.get (FLD_OUT_FAULT k) = 3 ∧ t.dev.get (FLD_OUT_PARTNER k) = j ∧ t.dev.get (FLD_OUT_FAULT j) = 3 ∧
      t.dev.get (FLD_OUT_PARTNER j) = k.val ∧ (t.dev.fout k).correl = none) ∧
  ((s.dev.fout k).correl = none → ∀ p, exec (.correlationPulse k p) s = .next (s.settles s.dev))

/-- LAMP_PROOF_SAMPLE, LAMP_DEADLINE, LAMP_FLASH_TOGGLE, LAMP_FAILED_CLEAR, ISO_OK_DWELL, GRPA_REARM, GRPB_REARM: R413,
R415, R416, R424, R426. -/
def Obligations.LampCommandsComplete : Prop := ∀ (s : State) (k : Fin 16),
  -- a lit lamp that draws LMIN counts toward its proof; the third sample without it in succession is a failure
  (∀ (c : Byte) (p : Fin 3), s.dev.isLamp k = true → s.dev.supplyOk = true → s.dev.groupOff k = false →
    (s.dev.fout k).testing = false → (s.dev.fout k).await = false → (s.dev.fout k).skipLamp = 0 →
    ((s.dev.fout k).demand = true → c.toNat * 4 < s.dev.get (FLD_OUT_LMIN k) * 2 → (s.dev.fout k).dimRun = 2 → ∃ t,
      exec (.lampProofSample k c p) s = .next t ∧ t.dev.flag (FLD_OUT_FAILED k) = true ∧
        t.dev.get (FLD_OUT_FAULT k) = 5 ∧ t.dev.get (FLD_OUT_LSTATE k) = 3) ∧
    ((s.dev.fout k).demand = true → s.dev.get (FLD_OUT_LMIN k) * 2 ≤ c.toNat * 4 → (s.dev.fout k).litRun = 2 →
      s.dev.flag (FLD_OUT_FAILED k) = false → ∃ t, exec (.lampProofSample k c p) s = .next t ∧
        t.dev.get (FLD_OUT_LSTATE k) = 1 ∧ (t.dev.fout k).litRun = 3 ∧ t.dev.get (FLD_OUT_IOUT k) = c.toNat) ∧
    -- a dark lamp is proven by three low samples, and fed from outside by three high ones
    ((s.dev.fout k).demand = false → p = 0 → (s.dev.fout k).lowRun = 2 → s.dev.flag (FLD_OUT_FAILED k) = false → ∃ t,
      exec (.lampProofSample k c p) s = .next t ∧ t.dev.get (FLD_OUT_LSTATE k) = 2 ∧ (t.dev.fout k).lowRun = 3) ∧
    ((s.dev.fout k).demand = false → p = 2 → (s.dev.fout k).dimRun = 2 → exec (.lampProofSample k c p) s =
      .next (s.settles (markFed k ((s.dev.put (FLD_OUT_IOUT k) c.toNat).onFout k fun x =>
        { x with lowRun := 0, dimRun := x.dimRun + 1 }))))) ∧
  -- outside NORMAL, in a group that is off, under test and after a cleared failure no sample counts; nor while it settles
  (∀ (c : Byte) (p : Fin 3), s.dev.isLamp k = false ∨ s.dev.supplyOk = false ∨ s.dev.groupOff k = true ∨
      (s.dev.fout k).testing = true ∨ (s.dev.fout k).await = true →
    exec (.lampProofSample k c p) s = .next (s.settles (s.dev.put (FLD_OUT_IOUT k) c.toNat))) ∧
  (∀ (c : Byte) (p : Fin 3), s.dev.isLamp k = true → s.dev.supplyOk = true → s.dev.groupOff k = false →
    (s.dev.fout k).testing = false → (s.dev.fout k).await = false → 0 < (s.dev.fout k).skipLamp →
    exec (.lampProofSample k c p) s = .next (s.settles ((s.dev.put (FLD_OUT_IOUT k) c.toNat).onFout k fun x =>
      { x with skipLamp := x.skipLamp - 1 }))) ∧
  -- a lamp that is unproven at its deadline takes part in the selection as late
  (Ready s → s.dev.isLamp k = true → s.dev.get (FLD_OUT_LSTATE k) = 0 → s.dev.supplyOk = true →
    (s.dev.fout k).await = false →
    exec (.lampDeadline k) s = .next (s.settles ((s.dev.onFout k fun x => { x with late := true }).cabSelect))) ∧
  (Ready s → s.dev.isLamp k = false ∨ s.dev.get (FLD_OUT_LSTATE k) ≠ 0 ∨ s.dev.supplyOk = false ∨
      (s.dev.fout k).await = true → exec (.lampDeadline k) s = .next (s.shows s.dev)) ∧
  (exec .lampFlashToggle s = .next (s.settles (s.dev.onBerm fun b => { b with flash := !b.flash }))) ∧
  -- the host clears a failure, and the lamp is proven afresh the next time it is commanded
  (Ready s → s.dev.flag (FLD_OUT_FAILED k) = true → ∃ t, exec (.lampFailedClear k) s = .next t ∧
    t.dev.flag (FLD_OUT_FAILED k) = false ∧ (t.dev.fout k).litRun = 0 ∧ (t.dev.fout k).lowRun = 0 ∧
    (t.dev.fout k).await = true) ∧
  (Ready s → s.dev.flag (FLD_OUT_FAILED k) = false → exec (.lampFailedClear k) s = .next (s.shows s.dev)) ∧
  -- isolation has held for DWELL
  (Ready s → s.dev.isolationSeen = true → s.dev.berm.terpSilent = false →
    exec .isoOkDwell s = .next (s.shows (s.dev.set CAB_STATUS_ISO_OK))) ∧
  (Ready s → s.dev.isolationSeen = false ∨ s.dev.berm.terpSilent = true → exec .isoOkDwell s = .next (s.shows s.dev)) ∧
  -- a group is rearmed in SERVICE when none of its outputs is high or failed
  (∀ path : Path, Ready s → s.dev.keyed path = true → s.dev.get GLB_MODE_MODE = 0xB → s.dev.logFull = false →
    (∀ j, j < 16 → (s.dev.fout j).pinHigh = false ∧ s.dev.flag (FLD_OUT_FAILED j) = false) →
    (∃ t, exec (.grpaRearm path) s = .next t ∧ t.dev.flag FLD_STATUS_GRPA_OFF = false ∧ t.dev.get FLD_CTRL_RESULT = 1 ∧
      t.dev.flag FLD_STATUS_GRPB_OFF = s.dev.flag FLD_STATUS_GRPB_OFF) ∧
    (∃ t, exec (.grpbRearm path) s = .next t ∧ t.dev.flag FLD_STATUS_GRPB_OFF = false ∧ t.dev.get FLD_CTRL_RESULT = 1 ∧
      t.dev.flag FLD_STATUS_GRPA_OFF = s.dev.flag FLD_STATUS_GRPA_OFF)) ∧
  (∀ path : Path, Ready s → s.dev.keyed path = true → s.dev.get GLB_MODE_MODE ≠ 0xB →
    exec (.grpaRearm path) s = .next (s.shows ((s.dev.keyUsed).put FLD_CTRL_RESULT 4)) ∧
    exec (.grpbRearm path) s = .next (s.shows ((s.dev.keyUsed).put FLD_CTRL_RESULT 4)))

/-- SUPPLY_SAMPLE, SUPPLY_DROPOUT, RELEASE_OK_COUNT, BERM_RESET, BERM_START: R416, R417, R419, R420. -/
def Obligations.FieldSupplyCommandsComplete : Prop := ∀ s : State,
  (∀ (r : Fin 3) (v : BitVec 10), s.dev.berm.powered = true →
    exec (.supplySample r v) s = .next (s.settles (supplySample r v.toNat s.dev))) ∧
  -- below 19.2 V on the logic rail: SAG; RELEASE_OK goes
  (∀ v : BitVec 10, s.dev.berm.powered = true → v.toNat < 384 → s.dev.supply = 0 →
    (∀ r, 1 ≤ r → r < 3 → s.dev.bermMonitored r = false) → s.dev.berm.ovf = false → ∃ t,
    exec (.supplySample 0 v) s = .next t ∧ t.dev.supply = 1 ∧ t.dev.flag FLD_STATUS_RELEASE_OK = false ∧
      t.dev.get FLD_SUP_LPL = v.toNat) ∧
  -- the samples in succession below 15.0 V and at 19.2 V or more are counted
  (∀ (r : Fin 3) (v : BitVec 10), s.dev.berm.powered = true → ∃ t, exec (.supplySample r v) s = .next t ∧
    t.dev.railUnder r = (if v.toNat < 300 then min 22 (s.dev.railUnder r + 1) else 0) ∧
    t.dev.railGood r = (if 384 ≤ v.toNat then min 2000 (s.dev.railGood r + 1) else 0)) ∧
  -- a dropout, 22 samples of a monitored rail below 15.0 V, latches: every output is off until the release
  (∀ r : Nat, s.dev.berm.powered = true → s.dev.supply ≠ 3 → r < 3 → s.dev.bermMonitored r = true →
    22 ≤ s.dev.railUnder r → ∃ t, exec .supplyDropout s = .next t ∧ t.dev.supply = 3 ∧
    t.dev.flag FLD_STATUS_DROPLATCH = true ∧ t.dev.flag FLD_STATUS_DECLARED = true ∧
    t.dev.flag FLD_STATUS_RELEASE_OK = false ∧ t.dev.flag EVT_STATUS_SAFE_N = false ∧
    ∀ k, k < 16 → (t.dev.fout k).on = false) ∧
  (s.dev.berm.powered = false ∨ s.dev.supply = 3 ∨ (∀ r, r < 3 → s.dev.bermMonitored r = true → s.dev.railUnder r < 22) →
    exec .supplyDropout s = .next (s.settles s.dev)) ∧
  (s.dev.berm.powered = true → (∀ r, r < 3 → s.dev.bermMonitored r = true → 2000 ≤ s.dev.railGood r) →
    exec .releaseOkCount s = .next (s.settles (s.dev.set FLD_STATUS_RELEASE_OK))) ∧
  (∀ r, r < 3 → s.dev.bermMonitored r = true → s.dev.railGood r < 2000 → exec .releaseOkCount s = .next (s.settles s.dev)) ∧
  (∃ t, exec .bermReset s = .next t ∧ t.dev.berm.powered = false ∧ t.dev.flag FLD_STATUS_BERM_OK = false ∧
    ∀ k, k < 16 → (t.dev.fout k).on = false ∧ (t.dev.fout k).latched = (s.dev.fout k).latched) ∧
  (s.dev.berm.powered = false → ∃ t, exec .bermStart s = .next t ∧ t.dev.berm.powered = true ∧ t.dev.supply = 3 ∧
    t.dev.flag FLD_STATUS_DROPLATCH = true) ∧
  (s.dev.berm.powered = true → exec .bermStart s = .next (s.settles s.dev))

/-! ### Safety function (chapter 13) -/

/-- SAFE_DEMAND_WORD, SAFE_DEMAND_TIMEOUT, CONTACTOR_TON_EXPIRY, CONTACTOR_TOFF_EXPIRY, TWIN_FRAME,
TWIN_PAIRING_TIMEOUT, TWIN_WATCHDOG: R431 to R434, R440 to R447. -/
def Obligations.SafetyFunctionCommandsComplete : Prop := ∀ s : State, Ready s →
  -- a word leaves with the toggle bit inverted, and the polder receives it as its bits arrive
  (∀ (p : Fin 8) (flips : BitVec 144),
    let g := !Table.get false s.dev.saf.toggle p
    exec (.safeDemandWord p flips) s = .next (s.settles (receiveDemand p
      ((s.dev.demandWord p g).zipWith (· ^^^ ·) (le 18 flips.toNat))
      ((s.dev.onSaf fun x => { x with toggle := Table.put false x.toggle p g }).emits
        (.safeDemand p (s.dev.demandWord p g)))))) ∧
  -- one that arrives whole, with a new toggle value: the polder takes ALL, and the demand bits of its bound contexts
  (∀ p : Fin 8, (s.dev.polder p).toggle = Table.get false s.dev.saf.toggle p → ∃ t,
    exec (.safeDemandWord p 0) s = .next t ∧ (t.dev.polder p).demandAll = s.dev.flag SAF_STATUS_ALL ∧
      (t.dev.polder p).toggle = !(s.dev.polder p).toggle ∧
      ∀ (c L : Nat), c < 128 → s.dev.isBound c = true → s.dev.laneOf c = some L → L / 18 = p.val →
        (t.dev.polder p).demand.testBit c = (s.dev.flag SAF_STATUS_ALL || s.dev.demandBits.testBit c)) ∧
  -- one that fails its CRC, or none, demands every context
  (∀ (p : Fin 8) (w : List Byte) (d : Dev), crc8 (w.take 17) ≠ (w.getD 17 0).toNat →
    receiveDemand p w d = takeDemand p true (d.polder p).demand d) ∧
  (∀ p : Fin 8, ∃ t, exec (.safeDemandTimeout p) s = .next t ∧ (t.dev.polder p).demandAll = true ∧
    ∀ (c L : Nat), c < 128 → s.dev.isBound c = true → s.dev.laneOf c = some L → L / 18 = p.val → t.dev.demanded c = true) ∧
  -- a channel that has not closed at TON, or not opened at TOFF, is at fault
  (∀ j : Fin 4, s.dev.flag (SAF_CON_EN j) = true → s.dev.conState j = 1 → s.dev.supply ≠ 3 →
    exec (.contactorTonExpiry j) s = .next (s.shows (conFault j 8 s.dev))) ∧
  (∀ j : Fin 4, s.dev.flag (SAF_CON_EN j) = true → s.dev.conState j = 3 → s.dev.supply ≠ 3 →
    exec (.contactorToffExpiry j) s = .next (s.shows (conFault j 9 s.dev))) ∧
  (∀ j : Fin 4, s.dev.flag (SAF_CON_EN j) = false ∨ s.dev.supply = 3 ∨ (s.dev.conState j ≠ 1 ∧ s.dev.conState j ≠ 3) →
    exec (.contactorTonExpiry j) s = .next (s.shows s.dev) ∧
    exec (.contactorToffExpiry j) s = .next (s.shows s.dev)) ∧
  -- from RAISE on, a frame of the EtherType with a good FCS is a copy
  (∀ (k : Fin 2) (e : BitVec 16) (bs : List Byte), e.toNat = s.dev.get TWIN_CFG_ETYPE → 46 ≤ bs.length →
    s.dev.get GLB_MODE_MODE ≠ 0 → exec (.twinFrame k true e bs) s = .next (s.settles (twinCopy k bs s.dev))) ∧
  -- a twin copy that fails its CRC-32C, and one that is taken as the first of its window
  (∀ (k : Fin 2) (e : BitVec 16) (bs : List Byte), e.toNat = s.dev.get TWIN_CFG_ETYPE → 46 ≤ bs.length →
    s.dev.get GLB_MODE_MODE ≠ 0 → crc32c (bs.take 42) ≠ Dev.nat ((bs.drop 42).take 4) →
    exec (.twinFrame k true e bs) s = .next (s.shows (s.dev.inc (TWIN_PORT_CRCERR k)))) ∧
  (∀ (k : Fin 2) (e : BitVec 16) (bs : List Byte), e.toNat = s.dev.get TWIN_CFG_ETYPE → 46 ≤ bs.length →
    s.dev.get GLB_MODE_MODE ≠ 0 → crc32c (bs.take 42) = Dev.nat ((bs.drop 42).take 4) → bs.getD 0 0 = 1 →
    bs.getD 1 0 = BitVec.ofNat 8 (0x0A + k.val) → Dev.nat ((bs.drop 2).take 2) = s.dev.get TWIN_ID_SRC →
    Dev.nat ((bs.drop 4).take 2) = s.dev.get TWIN_ID_DST → s.dev.saf.seqOk = false → s.dev.saf.copy = none →
    Table.get 0 s.dev.saf.portSeq k ≠ Dev.nat ((bs.drop 6).take 4) + 1 →
    ((((bs.take 1 ++ (bs.drop 2).take 40).drop 9).getD 0 0).getLsbD 0 = true) → ∃ t,
    exec (.twinFrame k true e bs) s = .next t ∧
      t.dev.saf.copy = some ⟨k, Dev.nat ((bs.drop 6).take 4), bs.take 1 ++ (bs.drop 2).take 40⟩ ∧
      t.dev.saf.runp = s.dev.saf.runp ∧ t.dev.saf.tstate = s.dev.saf.tstate) ∧
  (∀ (k : Fin 2) (b : Bool) (e : BitVec 16) (bs : List Byte), b = false ∨ e.toNat ≠ s.dev.get TWIN_CFG_ETYPE ∨
      bs.length < 46 ∨ s.dev.get GLB_MODE_MODE = 0 → exec (.twinFrame k b e bs) s = .next (s.shows s.dev)) ∧
  -- a copy older than that of the open window is rejected
  (∀ (k : Nat) (bs : List Byte) (w : Copy), s.dev.saf.copy = some w →
    crc32c (bs.take 42) = Dev.nat ((bs.drop 42).take 4) → Dev.nat ((bs.drop 6).take 4) ≠ w.tseq →
    2 ^ 31 ≤ (Dev.nat ((bs.drop 6).take 4) + (2 ^ 32 - w.tseq)) % 2 ^ 32 → w.tseq < 2 ^ 32 →
    twinCopy k bs s.dev = s.dev.inc (TWIN_PORT_REJECT k)) ∧
  -- the window closes with one copy: a single loss on the other port
  (∀ c : Copy, s.dev.saf.copy = some c → exec .twinPairingTimeout s = .next (s.settles (twinSingle c s.dev))) ∧
  (s.dev.saf.copy = none → exec .twinPairingTimeout s = .next (s.shows s.dev)) ∧
  -- no telegram for WDOG: the run permit falls
  (s.dev.get GLB_MODE_MODE ≠ 0 → s.dev.saf.tstate ≠ 6 → ∃ t, exec .twinWatchdog s = .next t ∧
    t.dev.saf.tstate = 6 ∧ t.dev.saf.runp = false ∧ t.dev.saf.data = [] ∧
    t.dev.get TWIN_CMP_WDOGEXP = min (s.dev.get TWIN_CMP_WDOGEXP + 1) (2 ^ TWIN_CMP_WDOGEXP.w - 1)) ∧
  (s.dev.get GLB_MODE_MODE = 0 ∨ s.dev.saf.tstate = 6 → exec .twinWatchdog s = .next (s.shows s.dev))

/-! ### FIC interpreter (chapter 18) -/

/-- The FIC instructions that compute, and those that move the program counter (R538): while a program runs and waits
for nothing, va, F or the counter takes the value of the table, and nothing else changes; otherwise nothing does. -/
def Obligations.FicRegisterInstructions : Prop := ∀ (s : State) (w : BitVec 24), Ready s →
  let imm : Nat := w.toNat % 2 ^ 16
  let a := s.dev.vreg (w.toNat / 2 ^ 20)
  let b := s.dev.vreg (w.toNat / 2 ^ 16 % 16)
  let pc := (s.dev.fic.pc + 1) % 4096
  let fic (x : Fic) : State := s.shows { s.dev with fic := x }
  let gives (c : Instr) (v : Word) : Prop := exec c s = .next (fic
    { s.dev.fic with pc := pc, regs := Table.put 0 s.dev.fic.regs (w.toNat / 2 ^ 20) v })
  let tests (c : Instr) (v : Bool) : Prop := exec c s = .next (fic { s.dev.fic with pc := pc, f := v })
  let goes (c : Instr) (taken : Bool) : Prop :=
    exec c s = .next (fic { s.dev.fic with pc := if taken then imm % 4096 else pc })
  (s.dev.ficReady = true →
    gives (.ficLdi w) (BitVec.ofInt 32 (if imm < 2 ^ 15 then (imm : Int) else imm - 2 ^ 16)) ∧
    gives (.ficLdh w) (BitVec.ofNat 32 (imm * 65536 + a.toNat % 65536)) ∧ gives (.ficMov w) b ∧
    gives (.ficAdd w) (a + b) ∧ gives (.ficSub w) (a - b) ∧ gives (.ficAnd w) (a &&& b) ∧ gives (.ficOr w) (a ||| b) ∧
    gives (.ficXor w) (a ^^^ b) ∧ gives (.ficShr w) (a >>> (imm % 32)) ∧ gives (.ficShl w) (a <<< (imm % 32)) ∧
    tests (.ficCeq w) (decide (a = b)) ∧ tests (.ficCltu w) (decide (a.toNat < b.toNat)) ∧
    tests (.ficTst w) (decide (a &&& b ≠ 0)) ∧
    goes (.ficNop w) false ∧ goes (.ficJmp w) true ∧ goes (.ficBf w) s.dev.fic.f ∧ goes (.ficBnf w) (!s.dev.fic.f) ∧
    -- DJNZ counts va down and branches while it is not 0
    exec (.ficDjnz w) s = .next (fic { s.dev.fic with
      pc := if a = 1 then pc else imm % 4096, regs := Table.put 0 s.dev.fic.regs (w.toNat / 2 ^ 20) (a - 1) })) ∧
  (s.dev.ficReady = false →
    ∀ c ∈ [Instr.ficNop w, .ficLdi w, .ficLdh w, .ficMov w, .ficAdd w, .ficSub w, .ficAnd w, .ficOr w, .ficXor w,
      .ficShr w, .ficShl w, .ficCeq w, .ficCltu w, .ficTst w, .ficRd w, .ficWr w, .ficJmp w, .ficBf w, .ficBnf w,
      .ficDjnz w, .ficDelay w, .ficDeck w, .ficMark w, .ficTest w, .ficEnd w], exec c s = .next (s.shows s.dev))

/-- RD, WR, POLL, DELAY, DECK, MARK, TEST, END and the ends of the waits: R538 to R542, R553. -/
def Obligations.FicDeviceInstructions : Prop := ∀ (s : State) (w : BitVec 24), Ready s →
  let imm : Nat := w.toNat % 2 ^ 16
  let ra := w.toNat / 2 ^ 20
  let off : Nat := 4 * (w.toNat % 2 ^ 18)
  let moved (n : Nat) : Dev := { s.dev with fic := { s.dev.fic with pc := (s.dev.fic.pc + n) % 4096 } }
  let waits (n : Nat) (x : FicWait) : State :=
    s.shows { s.dev with fic := { s.dev.fic with pc := (s.dev.fic.pc + n) % 4096, wait := x } }
  let free : State := s.shows { s.dev with fic := { s.dev.fic with wait := .none } }
  (s.dev.ficReady = true →
    -- RD and WR access the register file as the host does, on the path of their own
    exec (.ficRd w) s = .next (s.settles (setVreg ra (BitVec.ofNat 32 (readReg .fic off (moved 1)).1)
      (readReg .fic off (moved 1)).2)) ∧
    exec (.ficWr w) s = .next (s.settles (writeReg .fic off (s.dev.vreg ra).toNat (moved 1))) ∧
    -- POLL, DELAY and DECK wait; MARK shows a step
    (∀ w1 : Word, exec (.ficPoll w w1) s = .next (waits 2 (.poll (4 * (w1.toNat % 2 ^ 18)) (s.dev.vreg ra)
      (s.dev.vreg (w.toNat / 2 ^ 16 % 16))))) ∧
    exec (.ficDelay w) s = .next (waits 1 .delay) ∧ exec (.ficDeck w) s = .next (waits 1 (.deck imm)) ∧
    exec (.ficMark w) s = .next (s.shows ((moved 1).put GLB_START_STEP imm)) ∧
    -- TEST queues the tests it names in TEST mode, and has no effect in a start-up program
    (s.dev.fic.prog = 2 → ∃ t n k, exec (.ficTest w) s = .next t ∧ t.dev.fic.wait = .test n k ∧
      t.dev.fic.pc = (s.dev.fic.pc + 1) % 4096 ∧ t.dev.fic.prog = 2) ∧
    (s.dev.fic.prog ≠ 2 → exec (.ficTest w) s = .next (s.shows (moved 1))) ∧
    -- END finishes the program with the result that its operand names
    exec (.ficEnd w) s = .next (s.settles
      (ficFinish (if imm % 4 = 0 ∨ imm % 4 = 2 then 2 else 3) (imm % 4 == 2) (moved 1))) ∧
    -- END of the start-up program: success leads to SURVEY, a failure to DARK with cause 0xB
    (s.dev.fic.prog = 1 → imm % 4 = 0 → exec (.ficEnd w) s = .next (s.settles (enter 2 0 false
      ((({ s.dev with fic := { s.dev.fic with pc := (s.dev.fic.pc + 1) % 4096, prog := 0 } }).put GLB_START_FRES 2).put
        DIKE_STATUS_STATE 0)))) ∧
    (s.dev.fic.prog = 1 → s.dev.get GLB_MODE_MODE = 1 → imm % 4 = 1 → ∃ t, exec (.ficEnd w) s = .next t ∧
      t.dev.get GLB_MODE_MODE = 9 ∧ t.dev.get GLB_MODE_DCAUSE = 0xB ∧ t.dev.get GLB_START_FRES = 3 ∧
      t.dev.fic.prog = 0)) ∧
  -- a POLL ends with F = 1 once the masked value matches, with F = 0 at its limit
  (∀ (o : Nat) (m v : Word), s.dev.fic.wait = .poll o m v →
    (exec .ficPollRead s = .next (s.settles (if BitVec.ofNat 32 (readReg .fic o s.dev).1 &&& m = v then
      (setF true (readReg .fic o s.dev).2).ficGo else (readReg .fic o s.dev).2))) ∧
    exec .ficPollTimeout s = .next (s.shows { s.dev with fic := { s.dev.fic with f := false, wait := .none } })) ∧
  (s.dev.fic.wait = .none → ∀ c ∈ [Instr.ficPollRead, .ficPollTimeout, .ficDelayEnd, .ficDeckEnd, .ficTestEnd],
    exec c s = .next (s.shows s.dev)) ∧
  (s.dev.fic.wait = .delay → exec .ficDelayEnd s = .next free) ∧
  (s.dev.fic.wait = .deck 0 → exec .ficDeckEnd s = .next free) ∧
  (∀ n, s.dev.fic.wait = .deck (n + 1) → exec .ficDeckEnd s = .next (s.shows s.dev)) ∧
  -- TEST ends with its last test; F tells whether every one passed
  (∀ n k, s.dev.fic.wait = .test n k → s.dev.bist.queue = [] → s.dev.bist.run = [] → ∃ t,
    exec .ficTestEnd s = .next t ∧ t.dev.fic.wait = .none ∧
      (t.dev.fic.f = true ↔ k ≠ 0 ∧ ∀ i, i < k → s.dev.get (BIST_TSTAT_RESULT (n + i)) = 1)) ∧
  -- the limit of a program ends it like a failure, with FRES 4
  (exec .ficTimeLimit s = .next (s.settles (ficFinish 4 false s.dev))) ∧
  (s.dev.fic.prog = 1 → s.dev.get GLB_MODE_MODE = 1 → ∃ t, exec .ficTimeLimit s = .next t ∧
    t.dev.get GLB_MODE_MODE = 9 ∧ t.dev.get GLB_START_FRES = 4 ∧ t.dev.fic.prog = 0) ∧
  (s.dev.fic.prog = 0 → exec .ficTimeLimit s = .next (s.shows s.dev))

/-! ### Dike processor (chapter 11) -/

/-- DIKE_INPUT_PHASE, DIKE_PROGRAM_START, DIKE_SWAP_PERFORM, DIKE_OVERRUN, WARDEN_STALL, DIKE_CRC_CHECK, DIKE_ARM: R358
to R361, R376 to R379, R384. -/
def Obligations.DikePhaseCommandsComplete : Prop := ∀ s : State, Ready s →
  -- the input image is latched and the cycle numbered; a force on an input bit holds it; the Q image stays
  (s.dev.get DIKE_STATUS_STATE = 2 → s.dev.dike.restart = false → s.dev.dike.fclr = false → s.dev.dike.forceW = none →
    ∃ t, exec .dikeInputPhase s = .next t ∧ t.dev.dike.forces = s.dev.dike.forces ∧
      (s.dev.dike.forces = [] → (∀ k, k < 6 → t.dev.iw k = s.dev.berm.image.getD k 0) ∧
        t.dev.iw 8 = s.dev.dike.next % 2 ^ 32) ∧
      (∀ f, s.dev.dike.forces = [f] → f.area = 0 → t.dev.readBit 0 f.addr = (f.val % 2 == 1)) ∧
      t.dev.get DIKE_CYCCNT_K = s.dev.dike.next % 2 ^ 32 ∧ t.dev.dike.next = (s.dev.dike.next + 1) % 2 ^ 32 ∧
      t.dev.dike.failed = [] ∧ t.dev.dike.qw = s.dev.dike.qw ∧ t.dev.dike.marks = s.dev.dike.marks) ∧
  (s.dev.get DIKE_STATUS_STATE ≠ 2 → s.dev.dike.restart = false → exec .dikeInputPhase s = .next (s.shows s.dev)) ∧
  -- a restart that waits is made at the cycle start: A, X and the Q image are 0, and the isolation channel runs again
  (s.dev.dike.restart = true → ∃ t,
    exec .dikeInputPhase s = .next t ∧ t.dev.flag DIKE_STATUS_ARMED = false ∧ t.dev.berm.masterOff = false ∧ t.dev.get DIKE_STATUS_STATE = 2 ∧ t.dev.dike.a = false ∧ t.dev.dike.x = 0 ∧
      t.dev.dike.qw = [] ∧ t.dev.dike.first = true ∧ t.dev.dike.restart = false) ∧
  -- the program starts at word 0 of its bank, with an empty stack
  (s.dev.get DIKE_STATUS_STATE = 2 → s.dev.dike.forces = [] → exec .dikeProgramStart s = .next (s.shows
    { s.dev with dike := { s.dev.dike with
        running := true, cycles := 0, pc := 0, stack := [], swapArmed := s.dev.flag DIKE_STATUS_SWAPPEND } })) ∧
  (s.dev.get DIKE_STATUS_STATE = 2 → ∃ t, exec .dikeProgramStart s = .next t ∧ t.dev.dike.running = true ∧
    t.dev.dike.pc = 0 ∧ t.dev.dike.stack = [] ∧ t.dev.dike.cycles = 0 ∧ t.dev.dike.forces = s.dev.dike.forces ∧
    t.dev.dike.swapArmed = s.dev.flag DIKE_STATUS_SWAPPEND ∧ ∀ f, s.dev.dike.forces = [f] →
      (f.area = 2 → t.dev.readBit 2 f.addr = (f.val % 2 == 1)) ∧ (f.area = 8 → t.dev.readWord 8 f.addr = f.val)) ∧
  (s.dev.get DIKE_STATUS_STATE ≠ 2 → exec .dikeProgramStart s = .next (s.shows s.dev)) ∧
  -- the banks change places
  (s.dev.flag DIKE_STATUS_SWAPPEND = true → s.dev.dike.swapArmed = true → ∃ t,
    exec .dikeSwapPerform s = .next t ∧ t.dev.flag DIKE_STATUS_BANK = !s.dev.flag DIKE_STATUS_BANK ∧
      t.dev.flag DIKE_STATUS_SWAPPEND = false ∧ t.dev.bank = s.dev.idleBank ∧ t.dev.idleBank = s.dev.bank ∧
      t.dev.flag DIKE_STATUS_ONLINE = !sameProgram s.dev.idleBank s.dev.dike.image ∧
      t.dev.dike.online = true ∧ t.dev.dike.marks = s.dev.dike.marks ∧ t.dev.dike.words = s.dev.dike.words) ∧
  (s.dev.flag DIKE_STATUS_SWAPPEND = false ∨ s.dev.dike.swapArmed = false →
    exec .dikeSwapPerform s = .next (s.shows s.dev)) ∧
  -- an overrun, a stall and a failed CRC stop the processor, each with its cause, source 36 and the safe demand
  (s.dev.fic.prog = 0 → s.dev.brch.on = true →
    let stops (c : Instr) (cause : Nat) : Prop := ∃ t, exec c s = .next t ∧ t.dev.get DIKE_STATUS_STATE = 3 ∧
      t.dev.get DIKE_STATUS_STOPCAUSE = cause ∧ t.dev.get DIKE_STATUS_PC = s.dev.dike.pc % 2 ^ 15 ∧
      t.dev.dike.running = false ∧ t.dev.flag SAF_STATUS_WDEMAND = true ∧ t.dev.flag (BRCH_STICKY 36) = true ∧
      t.dev.flag EVT_STATUS_SAFE_N = false
    (s.dev.dike.running = true → stops .dikeOverrun 1) ∧
    (s.dev.get DIKE_STATUS_STATE = 2 → stops .wardenStall 2 ∧
      ∀ crc : Word, crc.toNat ≠ s.dev.bank.crc → stops (.dikeCrcCheck crc) 8)) ∧
  (s.dev.dike.running = false → exec .dikeOverrun s = .next (s.shows s.dev)) ∧
  (s.dev.get DIKE_STATUS_STATE ≠ 2 → exec .wardenStall s = .next (s.shows s.dev)) ∧
  (∀ crc : Word, crc.toNat = s.dev.bank.crc → exec (.dikeCrcCheck crc) s = .next (s.shows s.dev)) ∧
  -- ARM, once source 36 is cleared
  (∀ path : Path, path ≠ .fic → s.dev.wstop = true → s.dev.flag (BRCH_STICKY 36) = false →
    s.dev.get DIKE_STATUS_STOPCAUSE ≠ 2 ∨ s.dev.brch.cond.testBit 37 = false → exec (.dikeArm path) s = .next (s.shows (s.dev.set DIKE_STATUS_ARMED))) ∧
  (∀ path : Path, path = .fic ∨ s.dev.wstop = false ∨ s.dev.flag (BRCH_STICKY 36) = true ∨
      (s.dev.get DIKE_STATUS_STOPCAUSE = 2 ∧ s.dev.brch.cond.testBit 37 = true) →
    exec (.dikeArm path) s = .next (s.shows s.dev))

/-- The bit instructions, stores, edges, the stack and the jumps (R367 to R371, R375): A, the addressed bit, the stack
or the program counter changes as the table says, the cycles are counted, and nothing else changes. -/
def Obligations.DikeBitInstructions : Prop := ∀ (s : State) (w : BitVec 24), Ready s → s.dev.dike.running = true →
  let area : Nat := w.toNat / 2 ^ 20
  let opnd : Nat := w.toNat % 2 ^ 16
  let k := s.dev.dike
  let b := s.dev.readBit area opnd
  let goes (n next : Nat) (d : Dev) : State := s.shows { d with dike := { d.dike with cycles := k.cycles + n, pc := next } }
  let went (n : Nat) (x : Dike) : State := goes n (k.pc + 1) { s.dev with dike := x }
  let gives (c : Instr) (v : Bool) : Prop := exec c s = .next (went 1 { k with a := v })
  let stores (c : Instr) (on : Bool) (v : Bool) : Prop :=
    exec c s = .next (goes 1 (k.pc + 1) (if on then writeBit area opnd v s.dev else s.dev))
  let more := k.pc + 1 < s.dev.bank.plen
  (more → w.toNat / 2 ^ 16 % 16 = 0 → area ∈ [0, 1, 2, 4, 5] → opnd < areaSize area →
    gives (.dikeLd w) b ∧ gives (.dikeLdn w) (!b) ∧ gives (.dikeAnd w) (k.a && b) ∧ gives (.dikeAndn w) (k.a && !b) ∧
    gives (.dikeOr w) (k.a || b) ∧ gives (.dikeOrn w) (k.a || !b) ∧ gives (.dikeXor w) (k.a ^^ b)) ∧
  (more → w.toNat / 2 ^ 16 % 16 = 0 → area ∈ [1, 2] → opnd < areaSize area →
    stores (.dikeSt w) true k.a ∧ stores (.dikeStn w) true (!k.a) ∧ stores (.dikeSet w) k.a true ∧
    stores (.dikeRst w) k.a false) ∧
  -- an edge: 0 in the first cycle, else the rise or the fall of A since the edge bit was written
  (more → w.toNat / 2 ^ 16 = 3 * 16 → opnd < 2048 →
    let e := Table.get false k.edges opnd
    let first := (s.dev.iw 7).testBit 16
    exec (.dikePe w) s = .next (went 2 { k with a := !first && k.a && !e, edges := Table.put false k.edges opnd k.a }) ∧
    exec (.dikeNe w) s = .next (went 2 { k with a := !first && !k.a && e, edges := Table.put false k.edges opnd k.a })) ∧
  (more → w.toNat / 2 ^ 16 = 0 → exec (.dikeNop w) s = .next (went 1 k) ∧ gives (.dikeNot w) (!k.a) ∧
    -- PUSH starts a nested term, POP joins it
    (k.stack.length < 16 → exec (.dikePush w) s = .next (went 1 { k with a := true, stack := (k.a, false) :: k.stack })) ∧
    (∀ (a o : Bool) (r : List (Bool × Bool)), k.stack = (a, o) :: r → exec (.dikePop w) s = .next (went 1
      { k with a := if o then a || k.a else a && k.a, stack := r })) ∧
    -- a jump goes forward only
    (k.pc < opnd → opnd < s.dev.bank.plen → exec (.dikeJmp w) s = .next (goes 2 opnd s.dev) ∧
      exec (.dikeJc w) s = .next (if k.a then goes 2 opnd s.dev else goes 1 (k.pc + 1) s.dev) ∧
      exec (.dikeJnc w) s = .next (if k.a then goes 1 (k.pc + 1) s.dev else goes 2 opnd s.dev))) ∧
  (w.toNat / 2 ^ 16 = 0 →
    (k.stack = [] → exec (.dikePop w) s = .next (s.settles (dikeStop 6 k.pc s.dev))) ∧
    (16 ≤ k.stack.length → exec (.dikePush w) s = .next (s.settles (dikeStop 6 k.pc s.dev))) ∧
    (opnd ≤ k.pc → exec (.dikeJmp w) s = .next (s.settles (dikeStop 5 k.pc s.dev))) ∧
    -- END leads to the output phase
    (k.stack = [] → ∀ same, exec (.dikeEnd w same) s = .next (s.settles (outputPhase same
      { s.dev with dike := { k with cycles := k.cycles + 2 } }))) ∧
    (k.stack ≠ [] → ∀ same, exec (.dikeEnd w same) s = .next (s.settles (dikeStop 6 k.pc s.dev)))) ∧
  (more → w.toNat / 2 ^ 16 = 1 → k.stack.length < 16 →
    exec (.dikePush w) s = .next (went 1 { k with a := false, stack := (k.a, true) :: k.stack })) ∧
  (w.toNat / 2 ^ 16 = 1 → 16 ≤ k.stack.length →
    exec (.dikePush w) s = .next (s.settles (dikeStop 6 k.pc s.dev))) ∧
  -- the program counter passes the last word: a stop with cause 5
  (s.dev.bank.plen ≤ k.pc + 1 → w.toNat / 2 ^ 16 = 0 → exec (.dikeNop w) s = .next (s.settles (dikeStop 5 k.pc
    { s.dev with dike := { k with cycles := k.cycles + 1, pc := k.pc + 1 } }))) ∧
  -- a set SUB, an area that is not permitted and an operand outside its area stop the processor
  (w.toNat / 2 ^ 16 % 16 ≠ 0 ∨ area ∉ [0, 1, 2, 4, 5] → exec (.dikeLd w) s = .next (s.settles (dikeStop 3 k.pc s.dev))) ∧
  (w.toNat / 2 ^ 16 % 16 = 0 → area ∈ [0, 1, 2, 4, 5] → areaSize area ≤ opnd →
    exec (.dikeLd w) s = .next (s.settles (dikeStop 4 k.pc s.dev)))

/-- A store writes its bit, keeps every other bit, and keeps a forced marker (R367, R387). -/
def Obligations.BitStoreFrame : Prop := ∀ (d : Dev) (area k : Nat) (v : Bool),
  (area = 1 ∨ (area = 2 ∧ d.forceAt 2 k = none) → (writeBit area k v d).readBit area k = v) ∧
  (area = 2 → d.forceAt 2 k ≠ none → writeBit area k v d = d) ∧
  (area = 1 ∨ area = 2 → ∀ a j, (a, j) ≠ (area, k) → (writeBit area k v d).readBit a j = d.readBit a j)

/-- The word instructions, timers and counters (R367 to R369, R372, R373), while another word of the program follows. -/
def Obligations.DikeWordInstructions : Prop := ∀ (s : State) (w : BitVec 24), Ready s → s.dev.dike.running = true →
  s.dev.dike.pc + 1 < s.dev.bank.plen → w.toNat / 2 ^ 16 % 16 = 0 →
  let area : Nat := w.toNat / 2 ^ 20
  let opnd : Nat := w.toNat % 2 ^ 16
  let k := s.dev.dike
  let v := BitVec.ofNat 32 (s.dev.readWord area opnd)
  let goes (n : Nat) (d : Dev) : State := s.shows { d with dike := { d.dike with cycles := k.cycles + n, pc := k.pc + 1 } }
  let went (n : Nat) (x : Dike) : State := goes n { s.dev with dike := x }
  let gives (c : Instr) (n : Nat) (x : Word) : Prop := exec c s = .next (went n { k with x := x })
  let tells (c : Instr) (n : Nat) (a : Bool) : Prop := exec c s = .next (went n { k with a := a })
  (opnd < areaSize area →
    (area ∈ [6, 7, 8] → gives (.dikeAddw w) 2 (k.x + v) ∧ gives (.dikeSubw w) 2 (k.x - v) ∧
      gives (.dikeAndw w) 2 (k.x &&& v) ∧ gives (.dikeOrw w) 2 (k.x ||| v)) ∧
    (area ∈ [4, 5, 6, 7, 8] → gives (.dikeLw w) 2 v ∧ tells (.dikeCeq w) 2 (decide (k.x = v)) ∧
      tells (.dikeClt w) 2 (decide (k.x.toInt < v.toInt)) ∧ tells (.dikeCge w) 2 (decide (v.toInt ≤ k.x.toInt))) ∧
    (area ∈ [4, 5, 7, 8] → exec (.dikeSw w) s =
      .next (goes 2 (if k.a then writeWord area opnd k.x.toNat s.dev else s.dev))) ∧
    -- timers: on-delay, off-delay, pulse; PT counts in its time base
    (area = 4 →
      let x := s.dev.timer opnd
      let now := s.dev.micros
      let ovf (since : Nat) : Bool := decide (x.pt * x.base ≤ now - since)
      let sets (c : Instr) (y : Timer) : Prop :=
        exec c s = .next (went 4 { k with a := y.q, timers := Table.put {} k.timers opnd y })
      (k.a = false → sets (.dikeTon w) { x with run := false, q := false, inp := false }) ∧
      (k.a = true → x.run = false → sets (.dikeTon w)
        { x with run := true, start := now, q := x.q || ovf now, inp := true }) ∧
      (k.a = true → x.run = true → sets (.dikeTon w) { x with q := x.q || ovf x.start, inp := true }) ∧
      (k.a = true → sets (.dikeTof w) { x with run := false, q := true, inp := true }) ∧
      (k.a = false → x.q = true → x.run = false → 0 < x.pt * x.base → sets (.dikeTof w)
        { x with run := true, start := now, inp := false }) ∧
      (k.a = false → x.run = true → sets (.dikeTof w)
        { x with run := !ovf x.start, q := x.q && !ovf x.start, inp := false }) ∧
      (k.a = true → x.inp = false → x.run = false → 0 < x.pt * x.base → sets (.dikeTp w)
        { x with run := true, start := now, q := true, inp := true }) ∧
      (x.run = true → sets (.dikeTp w) { x with run := !ovf x.start, q := x.q && !ovf x.start, inp := k.a }) ∧
      -- what LW reads of a timer
      v = BitVec.ofNat 32 (if x.run then min ((now - x.start) / x.base) x.pt else if x.q then x.pt else 0) ∧
      exec (.dikeTres w) s = .next (went 2 (if k.a then
        { k with timers := Table.put {} k.timers opnd { x with run := false, q := false, inp := false } } else k))) ∧
    -- counters count a rise of A, up to 65535 and down to 0
    (area = 5 →
      let x := s.dev.counter opnd
      let rise := k.a && !x.inp
      let up := if rise then min (x.value + 1) 65535 else x.value
      let down := if rise then x.value - 1 else x.value
      v = BitVec.ofNat 32 x.value ∧ s.dev.readBit 5 opnd = decide (x.preset ≤ x.value) ∧
      exec (.dikeCtu w) s = .next (went 3 { k with
        a := decide (x.preset ≤ up), counts := Table.put {} k.counts opnd { x with value := up, inp := k.a } }) ∧
      exec (.dikeCtd w) s = .next (went 3 { k with
        a := decide (down = 0), counts := Table.put {} k.counts opnd { x with value := down, inp := k.a } }) ∧
      exec (.dikeCres w) s = .next (went 2 (if k.a then
        { k with counts := Table.put {} k.counts opnd { x with value := 0 } } else k)))) ∧
  (area = 0 →
    gives (.dikeLk w) 1 (BitVec.ofInt 32 (if opnd < 2 ^ 15 then (opnd : Int) else opnd - 2 ^ 16)) ∧
    gives (.dikeLkh w) 1 (BitVec.ofNat 32 (opnd * 65536 + k.x.toNat % 65536)) ∧
    (opnd < 32 → tells (.dikeXbit w) 1 (k.x.getLsbD opnd)) ∧
    (32 ≤ opnd → exec (.dikeXbit w) s = .next (s.settles (dikeStop 3 k.pc s.dev))))

/-- DIKE_SWAP, FORCE_CLEAR, PROGRAM_WINDOW_WRITE, SYMBOL_WINDOW_WRITE, ONLINE_PARAM_WRITE, FORCE_SET, FORCE_RELEASE:
R382, R383, R386, R389, R390, R396, R397, R625. -/
def Obligations.OnlineChangeCommandsComplete : Prop := ∀ (s : State) (path : Path), Ready s → s.dev.keyed path = true →
  -- the bank that waits, of the length in DIKE_PLEN, becomes pending when every check passes
  (∃ t, exec (.dikeSwap path) s = .next t ∧ t.dev.get DIKE_STATUS_RESULT = s.dev.swapResult ∧
    t.dev.flag DIKE_STATUS_SWAPPEND = (s.dev.swapResult == 1 || s.dev.flag DIKE_STATUS_SWAPPEND) ∧
    t.dev.bank = s.dev.bank ∧ t.dev.idleBank = if s.dev.swapResult = 1 then s.dev.swapBank else s.dev.idleBank) ∧
  (∀ other : Path, s.dev.keyed other = false → exec (.dikeSwap other) s =
    .next (s.shows ((rejectKey other 0x90000 s.dev).put DIKE_STATUS_RESULT 3))) ∧
  (exec (.forceClear path) s = .next (s.shows { s.dev.keyUsed with dike := { s.dev.dike with fclr := true } })) ∧
  -- the windows take the new program and its symbols, and move on; the running bank stays
  (∀ v : Word, s.dev.get GLB_MODE_MODE = 0xB → ∃ t, exec (.programWindowWrite path v) s = .next t ∧
    t.dev.bank = s.dev.bank ∧ t.dev.get DIKE_PWIN_ADDR_A = (s.dev.get DIKE_PWIN_ADDR_A + 1) % 2 ^ 15 ∧
    t.dev.bit DIKE_STATUS_CHECKED s.dev.idleNo = false ∧ t.dev.idleBank =
      { s.dev.idleBank with code := Table.put 0 s.dev.idleBank.code (s.dev.get DIKE_PWIN_ADDR_A) v }) ∧
  (∀ v : Word, s.dev.get GLB_MODE_MODE = 0xB → ∃ t, exec (.symbolWindowWrite path v) s = .next t ∧
    t.dev.bank = s.dev.bank ∧ t.dev.get DIKE_SWIN_ADDR_A = (s.dev.get DIKE_SWIN_ADDR_A + 1) % 2 ^ 12 ∧
    t.dev.bit DIKE_STATUS_CHECKED s.dev.idleNo = false ∧
    Table.get 0 t.dev.dike.symWin (s.dev.get DIKE_SWIN_ADDR_A) = v.toNat) ∧
  (∀ v : Word, s.dev.get GLB_MODE_MODE ≠ 0xB → exec (.programWindowWrite path v) s = .next (s.shows s.dev.keyUsed) ∧
    exec (.symbolWindowWrite path v) s = .next (s.shows s.dev.keyUsed)) ∧
  -- the addresses, the lengths and the CRC of the new program; each leaves the bank that waits unchecked
  (∀ (which : Fin 5) (v : Word), ∃ t, exec (.onlineParamWrite path which v) s = .next t ∧ t.dev.bank = s.dev.bank ∧
    t.dev.bit DIKE_STATUS_CHECKED s.dev.idleNo = false ∧ t.dev.idleBank.code = s.dev.idleBank.code ∧
    (which = 0 → t.dev.get DIKE_PWIN_ADDR_A = v.toNat % 2 ^ 15) ∧ (which = 1 → t.dev.get DIKE_PLEN_N = v.toNat % 2 ^ 16) ∧
    (which = 2 → t.dev.get DIKE_PCRC_C = v.toNat) ∧ (which = 3 → t.dev.get DIKE_SWIN_ADDR_A = v.toNat % 2 ^ 12) ∧
    (which = 4 → t.dev.get DIKE_SLEN_N = v.toNat % 2 ^ 13 ∧ t.dev.idleBank.syms =
      (List.range (v.toNat % 2 ^ 13)).map fun i => Table.get 0 s.dev.dike.symWin i)) ∧
  -- a force is decided at once and waits for its phase; one that is turned away sets its result only
  (∀ (area : BitVec 4) (addr : BitVec 16), s.dev.get GLB_MODE_MODE = 0xB →
    let val := s.dev.get DIKE_FVAL_VALUE
    let r := s.dev.forceResult area.toNat addr.toNat val
    (r = 1 → ∃ t ty, exec (.forceSet path area addr) s = .next t ∧ t.dev.get DIKE_FRES_RESULT = 1 ∧
      t.dev.typeOf s.dev.bank.syms area.toNat addr.toNat = some ty ∧ t.dev.dike.forces = s.dev.dike.forces ∧
      t.dev.dike.forceW = some (⟨s.dev.get DIKE_FSEL_ENTRY, area.toNat, addr.toNat, ty, val⟩, true)) ∧
    (r ≠ 1 → exec (.forceSet path area addr) s = .next (s.shows (s.dev.keyUsed.put DIKE_FRES_RESULT r)))) ∧
  -- a safety input or output is forced to 0 only
  (∀ (area : BitVec 4) (addr : BitVec 16), s.dev.get GLB_MODE_MODE = 0xB → s.dev.dike.forceW = none →
    s.dev.logFull = false → (area = 0 ∧ addr.toNat < 24 ∧ s.dev.isSafetyIn addr.toNat = true ∨
      area = 1 ∧ addr.toNat < 16 ∧ s.dev.isSafetyOut addr.toNat = true) → s.dev.get DIKE_FVAL_VALUE ≠ 0 →
    exec (.forceSet path area addr) s = .next (s.shows (s.dev.keyUsed.put DIKE_FRES_RESULT 4))) ∧
  (∀ f : Force, s.dev.get GLB_MODE_MODE = 0xB → s.dev.dike.forceW = none → s.dev.logFull = false →
    (s.dev.dike.forces.find? fun g => g.entry = s.dev.get DIKE_FSEL_ENTRY) = some f → ∃ t,
    exec (.forceRelease path) s = .next t ∧ t.dev.get DIKE_FRES_RESULT = 1 ∧ t.dev.flag DIKE_FENT_VALID = false ∧
      t.dev.dike.forceW = some (f, false) ∧ t.dev.dike.forces = s.dev.dike.forces) ∧
  -- with no force in the selected entry nothing waits; BUSY while a write waits or the staging area is full
  (s.dev.get GLB_MODE_MODE = 0xB → s.dev.dike.forceW = none → s.dev.logFull = false →
    (∀ f ∈ s.dev.dike.forces, f.entry ≠ s.dev.get DIKE_FSEL_ENTRY) → exec (.forceRelease path) s =
      .next (s.shows ((s.dev.keyUsed.put DIKE_FRES_RESULT 1).clr DIKE_FENT_VALID))) ∧
  (s.dev.get GLB_MODE_MODE = 0xB → s.dev.dike.forceW ≠ none ∨ s.dev.logFull = true →
    exec (.forceRelease path) s = .next (s.shows (s.dev.keyUsed.put DIKE_FRES_RESULT 2))) ∧
  -- outside SERVICE both have no effect but the idle time of the key
  (s.dev.get GLB_MODE_MODE ≠ 0xB → exec (.forceRelease path) s = .next (s.shows s.dev.keyUsed) ∧
    ∀ (area : BitVec 4) (addr : BitVec 16), exec (.forceSet path area addr) s = .next (s.shows s.dev.keyUsed))

/-! ### The block as a whole -/

/-- A step takes the command at the front of the queue and executes it on the state with the queue's rest; with no
command waiting the block idles (the model's choice: the spec has no row for a tick). -/
def Obligations.StepRunsTheFrontCommand : Prop :=
  (∀ (s : State) (c : Instr) (cs : List Instr), s.pending = c :: cs → step s = exec c { s with pending := cs }) ∧
  (∀ s : State, s.pending = [] → step s = .next s)

/-- A command leaves the queue as it is and is never refused; while the core die is in reset the commands that need it
change nothing (R582, R583). -/
def Obligations.CommandsDuringReset : Prop := ∀ (c : Instr) (s : State),
  (∃ t, exec c s = .next t ∧ t.pending = s.pending) ∧
  (s.dev.awake = false → actsInReset c = false → exec c s = .next s)

/-- Of the messages that one command sends, each vector has at most one: a vector merges what is raised within one hub
cycle (R567); what was sent before is not sent again. -/
def Obligations.OneMessageForEachVector : Prop := ∀ (c : Instr) (s t : State), exec c s = .next t →
  ∀ v, (t.dev.out.drop s.dev.out.length).count (.msix v) ≤ 1

/-- The pins tell the truth, and nothing imposed is outstanding, after every step from a state with both (R45, R49,
R568, R569). -/
def Obligations.EveryStepKeepsTheInvariant : Prop := ∀ s t : State, BlockInv s → step s = .next t → BlockInv t

/-- The state after reset has the invariant. -/
def Obligations.InvariantAtReset : Prop := BlockInv State.reset ∧ Ready State.reset ∧ RegsCanonical State.reset.dev

/-- What reset leaves: mode LOAD, no context, no lane in use, no breach, no event, SAFE_N low until the first mode
word, the dike processor off, the safe demand in force. -/
def Obligations.ResetState : Prop :=
  State.reset.pending = [] ∧ State.reset.dev.out = [] ∧ State.reset.dev.get GLB_MODE_MODE = 0 ∧
  State.reset.dev.get GLB_MODE_PENDING = 0xF ∧ State.reset.dev.get BRCH_STATUS_LEVEL = 0 ∧
  State.reset.dev.get DIKE_STATUS_STATE = 0 ∧ State.reset.dev.flag EVT_STATUS_EVT_N = true ∧
  State.reset.dev.flag EVT_STATUS_SAFE_N = false ∧ State.reset.dev.flag GLB_KEY_STAT_OPEN = false ∧
  (∀ c, c < 128 → State.reset.dev.ctxState c = 0) ∧ (∀ L, L < 144 → State.reset.dev.get (LANE_CFG_ROLE L) = 0) ∧
  (∀ e, e < 192 → State.reset.dev.flag (EVT_PEND e) = false) ∧ (∀ e, e < 64 → State.reset.dev.flag (BRCH_STICKY e) = false)
end

