-- ==== Sys2Proof/Laws/State.lean ====
section
/-! SUPPORT. One lemma for each field of the device and each named update of it: the field that the update writes, and
every other field as it was. -/

namespace Sys2Proof.Machine.Dev

/-! ### `put` -/

@[simp] theorem put_regs (d : Dev) (g : Fld) (v : Nat) : (d.put g v).regs = Table.put 0 d.regs g.key ((v % 2 ^ g.w) ^^^ g.rst) := rfl
@[simp] theorem put_shadow (d : Dev) (g : Fld) (v : Nat) : (d.put g v).shadow = d.shadow := rfl
@[simp] theorem put_now (d : Dev) (g : Fld) (v : Nat) : (d.put g v).now = d.now := rfl
@[simp] theorem put_free (d : Dev) (g : Fld) (v : Nat) : (d.put g v).free = d.free := rfl
@[simp] theorem put_out (d : Dev) (g : Fld) (v : Nat) : (d.put g v).out = d.out := rfl
@[simp] theorem put_mode (d : Dev) (g : Fld) (v : Nat) : (d.put g v).mode = d.mode := rfl
@[simp] theorem put_tide (d : Dev) (g : Fld) (v : Nat) : (d.put g v).tide = d.tide := rfl
@[simp] theorem put_lanes (d : Dev) (g : Fld) (v : Nat) : (d.put g v).lanes = d.lanes := rfl
@[simp] theorem put_cells (d : Dev) (g : Fld) (v : Nat) : (d.put g v).cells = d.cells := rfl
@[simp] theorem put_survey (d : Dev) (g : Fld) (v : Nat) : (d.put g v).survey = d.survey := rfl
@[simp] theorem put_slu (d : Dev) (g : Fld) (v : Nat) : (d.put g v).slu = d.slu := rfl
@[simp] theorem put_couch (d : Dev) (g : Fld) (v : Nat) : (d.put g v).couch = d.couch := rfl
@[simp] theorem put_polders (d : Dev) (g : Fld) (v : Nat) : (d.put g v).polders = d.polders := rfl
@[simp] theorem put_brch (d : Dev) (g : Fld) (v : Nat) : (d.put g v).brch = d.brch := rfl
@[simp] theorem put_ldg (d : Dev) (g : Fld) (v : Nat) : (d.put g v).ldg = d.ldg := rfl
@[simp] theorem put_pcie (d : Dev) (g : Fld) (v : Nat) : (d.put g v).pcie = d.pcie := rfl
@[simp] theorem put_dike (d : Dev) (g : Fld) (v : Nat) : (d.put g v).dike = d.dike := rfl
@[simp] theorem put_berm (d : Dev) (g : Fld) (v : Nat) : (d.put g v).berm = d.berm := rfl
@[simp] theorem put_saf (d : Dev) (g : Fld) (v : Nat) : (d.put g v).saf = d.saf := rfl
@[simp] theorem put_mgmt (d : Dev) (g : Fld) (v : Nat) : (d.put g v).mgmt = d.mgmt := rfl
@[simp] theorem put_fic (d : Dev) (g : Fld) (v : Nat) : (d.put g v).fic = d.fic := rfl
@[simp] theorem put_key (d : Dev) (g : Fld) (v : Nat) : (d.put g v).key = d.key := rfl
@[simp] theorem put_races (d : Dev) (g : Fld) (v : Nat) : (d.put g v).races = d.races := rfl
@[simp] theorem put_vat (d : Dev) (g : Fld) (v : Nat) : (d.put g v).vat = d.vat := rfl
@[simp] theorem put_spi (d : Dev) (g : Fld) (v : Nat) : (d.put g v).spi = d.spi := rfl
@[simp] theorem put_bist (d : Dev) (g : Fld) (v : Nat) : (d.put g v).bist = d.bist := rfl
@[simp] theorem put_pwr (d : Dev) (g : Fld) (v : Nat) : (d.put g v).pwr = d.pwr := rfl

/-! ### `setLane` -/

@[simp] theorem setLane_regs (d : Dev) (L : Nat) (x : Lane) : (d.setLane L x).regs = d.regs := rfl
@[simp] theorem setLane_shadow (d : Dev) (L : Nat) (x : Lane) : (d.setLane L x).shadow = d.shadow := rfl
@[simp] theorem setLane_now (d : Dev) (L : Nat) (x : Lane) : (d.setLane L x).now = d.now := rfl
@[simp] theorem setLane_free (d : Dev) (L : Nat) (x : Lane) : (d.setLane L x).free = d.free := rfl
@[simp] theorem setLane_out (d : Dev) (L : Nat) (x : Lane) : (d.setLane L x).out = d.out := rfl
@[simp] theorem setLane_mode (d : Dev) (L : Nat) (x : Lane) : (d.setLane L x).mode = d.mode := rfl
@[simp] theorem setLane_tide (d : Dev) (L : Nat) (x : Lane) : (d.setLane L x).tide = d.tide := rfl
@[simp] theorem setLane_lanes (d : Dev) (L : Nat) (x : Lane) : (d.setLane L x).lanes = Table.put {} d.lanes L x := rfl
@[simp] theorem setLane_cells (d : Dev) (L : Nat) (x : Lane) : (d.setLane L x).cells = d.cells := rfl
@[simp] theorem setLane_survey (d : Dev) (L : Nat) (x : Lane) : (d.setLane L x).survey = d.survey := rfl
@[simp] theorem setLane_slu (d : Dev) (L : Nat) (x : Lane) : (d.setLane L x).slu = d.slu := rfl
@[simp] theorem setLane_couch (d : Dev) (L : Nat) (x : Lane) : (d.setLane L x).couch = d.couch := rfl
@[simp] theorem setLane_polders (d : Dev) (L : Nat) (x : Lane) : (d.setLane L x).polders = d.polders := rfl
@[simp] theorem setLane_brch (d : Dev) (L : Nat) (x : Lane) : (d.setLane L x).brch = d.brch := rfl
@[simp] theorem setLane_ldg (d : Dev) (L : Nat) (x : Lane) : (d.setLane L x).ldg = d.ldg := rfl
@[simp] theorem setLane_pcie (d : Dev) (L : Nat) (x : Lane) : (d.setLane L x).pcie = d.pcie := rfl
@[simp] theorem setLane_dike (d : Dev) (L : Nat) (x : Lane) : (d.setLane L x).dike = d.dike := rfl
@[simp] theorem setLane_berm (d : Dev) (L : Nat) (x : Lane) : (d.setLane L x).berm = d.berm := rfl
@[simp] theorem setLane_saf (d : Dev) (L : Nat) (x : Lane) : (d.setLane L x).saf = d.saf := rfl
@[simp] theorem setLane_mgmt (d : Dev) (L : Nat) (x : Lane) : (d.setLane L x).mgmt = d.mgmt := rfl
@[simp] theorem setLane_fic (d : Dev) (L : Nat) (x : Lane) : (d.setLane L x).fic = d.fic := rfl
@[simp] theorem setLane_key (d : Dev) (L : Nat) (x : Lane) : (d.setLane L x).key = d.key := rfl
@[simp] theorem setLane_races (d : Dev) (L : Nat) (x : Lane) : (d.setLane L x).races = d.races := rfl
@[simp] theorem setLane_vat (d : Dev) (L : Nat) (x : Lane) : (d.setLane L x).vat = d.vat := rfl
@[simp] theorem setLane_spi (d : Dev) (L : Nat) (x : Lane) : (d.setLane L x).spi = d.spi := rfl
@[simp] theorem setLane_bist (d : Dev) (L : Nat) (x : Lane) : (d.setLane L x).bist = d.bist := rfl
@[simp] theorem setLane_pwr (d : Dev) (L : Nat) (x : Lane) : (d.setLane L x).pwr = d.pwr := rfl
@[simp] theorem setLane_get (d : Dev) (L : Nat) (x : Lane) (g : Fld) : (d.setLane L x).get g = d.get g := rfl

/-! ### `setCell` -/

@[simp] theorem setCell_regs (d : Dev) (c : Nat) (x : Cell) : (d.setCell c x).regs = d.regs := rfl
@[simp] theorem setCell_shadow (d : Dev) (c : Nat) (x : Cell) : (d.setCell c x).shadow = d.shadow := rfl
@[simp] theorem setCell_now (d : Dev) (c : Nat) (x : Cell) : (d.setCell c x).now = d.now := rfl
@[simp] theorem setCell_free (d : Dev) (c : Nat) (x : Cell) : (d.setCell c x).free = d.free := rfl
@[simp] theorem setCell_out (d : Dev) (c : Nat) (x : Cell) : (d.setCell c x).out = d.out := rfl
@[simp] theorem setCell_mode (d : Dev) (c : Nat) (x : Cell) : (d.setCell c x).mode = d.mode := rfl
@[simp] theorem setCell_tide (d : Dev) (c : Nat) (x : Cell) : (d.setCell c x).tide = d.tide := rfl
@[simp] theorem setCell_lanes (d : Dev) (c : Nat) (x : Cell) : (d.setCell c x).lanes = d.lanes := rfl
@[simp] theorem setCell_cells (d : Dev) (c : Nat) (x : Cell) : (d.setCell c x).cells = Table.put {} d.cells c x := rfl
@[simp] theorem setCell_survey (d : Dev) (c : Nat) (x : Cell) : (d.setCell c x).survey = d.survey := rfl
@[simp] theorem setCell_slu (d : Dev) (c : Nat) (x : Cell) : (d.setCell c x).slu = d.slu := rfl
@[simp] theorem setCell_couch (d : Dev) (c : Nat) (x : Cell) : (d.setCell c x).couch = d.couch := rfl
@[simp] theorem setCell_polders (d : Dev) (c : Nat) (x : Cell) : (d.setCell c x).polders = d.polders := rfl
@[simp] theorem setCell_brch (d : Dev) (c : Nat) (x : Cell) : (d.setCell c x).brch = d.brch := rfl
@[simp] theorem setCell_ldg (d : Dev) (c : Nat) (x : Cell) : (d.setCell c x).ldg = d.ldg := rfl
@[simp] theorem setCell_pcie (d : Dev) (c : Nat) (x : Cell) : (d.setCell c x).pcie = d.pcie := rfl
@[simp] theorem setCell_dike (d : Dev) (c : Nat) (x : Cell) : (d.setCell c x).dike = d.dike := rfl
@[simp] theorem setCell_berm (d : Dev) (c : Nat) (x : Cell) : (d.setCell c x).berm = d.berm := rfl
@[simp] theorem setCell_saf (d : Dev) (c : Nat) (x : Cell) : (d.setCell c x).saf = d.saf := rfl
@[simp] theorem setCell_mgmt (d : Dev) (c : Nat) (x : Cell) : (d.setCell c x).mgmt = d.mgmt := rfl
@[simp] theorem setCell_fic (d : Dev) (c : Nat) (x : Cell) : (d.setCell c x).fic = d.fic := rfl
@[simp] theorem setCell_key (d : Dev) (c : Nat) (x : Cell) : (d.setCell c x).key = d.key := rfl
@[simp] theorem setCell_races (d : Dev) (c : Nat) (x : Cell) : (d.setCell c x).races = d.races := rfl
@[simp] theorem setCell_vat (d : Dev) (c : Nat) (x : Cell) : (d.setCell c x).vat = d.vat := rfl
@[simp] theorem setCell_spi (d : Dev) (c : Nat) (x : Cell) : (d.setCell c x).spi = d.spi := rfl
@[simp] theorem setCell_bist (d : Dev) (c : Nat) (x : Cell) : (d.setCell c x).bist = d.bist := rfl
@[simp] theorem setCell_pwr (d : Dev) (c : Nat) (x : Cell) : (d.setCell c x).pwr = d.pwr := rfl
@[simp] theorem setCell_get (d : Dev) (c : Nat) (x : Cell) (g : Fld) : (d.setCell c x).get g = d.get g := rfl

/-! ### `setPolder` -/

@[simp] theorem setPolder_regs (d : Dev) (p : Nat) (x : Polder) : (d.setPolder p x).regs = d.regs := rfl
@[simp] theorem setPolder_shadow (d : Dev) (p : Nat) (x : Polder) : (d.setPolder p x).shadow = d.shadow := rfl
@[simp] theorem setPolder_now (d : Dev) (p : Nat) (x : Polder) : (d.setPolder p x).now = d.now := rfl
@[simp] theorem setPolder_free (d : Dev) (p : Nat) (x : Polder) : (d.setPolder p x).free = d.free := rfl
@[simp] theorem setPolder_out (d : Dev) (p : Nat) (x : Polder) : (d.setPolder p x).out = d.out := rfl
@[simp] theorem setPolder_mode (d : Dev) (p : Nat) (x : Polder) : (d.setPolder p x).mode = d.mode := rfl
@[simp] theorem setPolder_tide (d : Dev) (p : Nat) (x : Polder) : (d.setPolder p x).tide = d.tide := rfl
@[simp] theorem setPolder_lanes (d : Dev) (p : Nat) (x : Polder) : (d.setPolder p x).lanes = d.lanes := rfl
@[simp] theorem setPolder_cells (d : Dev) (p : Nat) (x : Polder) : (d.setPolder p x).cells = d.cells := rfl
@[simp] theorem setPolder_survey (d : Dev) (p : Nat) (x : Polder) : (d.setPolder p x).survey = d.survey := rfl
@[simp] theorem setPolder_slu (d : Dev) (p : Nat) (x : Polder) : (d.setPolder p x).slu = d.slu := rfl
@[simp] theorem setPolder_couch (d : Dev) (p : Nat) (x : Polder) : (d.setPolder p x).couch = d.couch := rfl
@[simp] theorem setPolder_polders (d : Dev) (p : Nat) (x : Polder) : (d.setPolder p x).polders = Table.put {} d.polders p x := rfl
@[simp] theorem setPolder_brch (d : Dev) (p : Nat) (x : Polder) : (d.setPolder p x).brch = d.brch := rfl
@[simp] theorem setPolder_ldg (d : Dev) (p : Nat) (x : Polder) : (d.setPolder p x).ldg = d.ldg := rfl
@[simp] theorem setPolder_pcie (d : Dev) (p : Nat) (x : Polder) : (d.setPolder p x).pcie = d.pcie := rfl
@[simp] theorem setPolder_dike (d : Dev) (p : Nat) (x : Polder) : (d.setPolder p x).dike = d.dike := rfl
@[simp] theorem setPolder_berm (d : Dev) (p : Nat) (x : Polder) : (d.setPolder p x).berm = d.berm := rfl
@[simp] theorem setPolder_saf (d : Dev) (p : Nat) (x : Polder) : (d.setPolder p x).saf = d.saf := rfl
@[simp] theorem setPolder_mgmt (d : Dev) (p : Nat) (x : Polder) : (d.setPolder p x).mgmt = d.mgmt := rfl
@[simp] theorem setPolder_fic (d : Dev) (p : Nat) (x : Polder) : (d.setPolder p x).fic = d.fic := rfl
@[simp] theorem setPolder_key (d : Dev) (p : Nat) (x : Polder) : (d.setPolder p x).key = d.key := rfl
@[simp] theorem setPolder_races (d : Dev) (p : Nat) (x : Polder) : (d.setPolder p x).races = d.races := rfl
@[simp] theorem setPolder_vat (d : Dev) (p : Nat) (x : Polder) : (d.setPolder p x).vat = d.vat := rfl
@[simp] theorem setPolder_spi (d : Dev) (p : Nat) (x : Polder) : (d.setPolder p x).spi = d.spi := rfl
@[simp] theorem setPolder_bist (d : Dev) (p : Nat) (x : Polder) : (d.setPolder p x).bist = d.bist := rfl
@[simp] theorem setPolder_pwr (d : Dev) (p : Nat) (x : Polder) : (d.setPolder p x).pwr = d.pwr := rfl
@[simp] theorem setPolder_get (d : Dev) (p : Nat) (x : Polder) (g : Fld) : (d.setPolder p x).get g = d.get g := rfl

/-! ### `setSluLane` -/

@[simp] theorem setSluLane_regs (d : Dev) (k : Nat) (x : SluLane) : (d.setSluLane k x).regs = d.regs := rfl
@[simp] theorem setSluLane_shadow (d : Dev) (k : Nat) (x : SluLane) : (d.setSluLane k x).shadow = d.shadow := rfl
@[simp] theorem setSluLane_now (d : Dev) (k : Nat) (x : SluLane) : (d.setSluLane k x).now = d.now := rfl
@[simp] theorem setSluLane_free (d : Dev) (k : Nat) (x : SluLane) : (d.setSluLane k x).free = d.free := rfl
@[simp] theorem setSluLane_out (d : Dev) (k : Nat) (x : SluLane) : (d.setSluLane k x).out = d.out := rfl
@[simp] theorem setSluLane_mode (d : Dev) (k : Nat) (x : SluLane) : (d.setSluLane k x).mode = d.mode := rfl
@[simp] theorem setSluLane_tide (d : Dev) (k : Nat) (x : SluLane) : (d.setSluLane k x).tide = d.tide := rfl
@[simp] theorem setSluLane_lanes (d : Dev) (k : Nat) (x : SluLane) : (d.setSluLane k x).lanes = d.lanes := rfl
@[simp] theorem setSluLane_cells (d : Dev) (k : Nat) (x : SluLane) : (d.setSluLane k x).cells = d.cells := rfl
@[simp] theorem setSluLane_survey (d : Dev) (k : Nat) (x : SluLane) : (d.setSluLane k x).survey = d.survey := rfl
@[simp] theorem setSluLane_slu (d : Dev) (k : Nat) (x : SluLane) : (d.setSluLane k x).slu = { d.slu with lanes := Table.put {} d.slu.lanes k x } := rfl
@[simp] theorem setSluLane_couch (d : Dev) (k : Nat) (x : SluLane) : (d.setSluLane k x).couch = d.couch := rfl
@[simp] theorem setSluLane_polders (d : Dev) (k : Nat) (x : SluLane) : (d.setSluLane k x).polders = d.polders := rfl
@[simp] theorem setSluLane_brch (d : Dev) (k : Nat) (x : SluLane) : (d.setSluLane k x).brch = d.brch := rfl
@[simp] theorem setSluLane_ldg (d : Dev) (k : Nat) (x : SluLane) : (d.setSluLane k x).ldg = d.ldg := rfl
@[simp] theorem setSluLane_pcie (d : Dev) (k : Nat) (x : SluLane) : (d.setSluLane k x).pcie = d.pcie := rfl
@[simp] theorem setSluLane_dike (d : Dev) (k : Nat) (x : SluLane) : (d.setSluLane k x).dike = d.dike := rfl
@[simp] theorem setSluLane_berm (d : Dev) (k : Nat) (x : SluLane) : (d.setSluLane k x).berm = d.berm := rfl
@[simp] theorem setSluLane_saf (d : Dev) (k : Nat) (x : SluLane) : (d.setSluLane k x).saf = d.saf := rfl
@[simp] theorem setSluLane_mgmt (d : Dev) (k : Nat) (x : SluLane) : (d.setSluLane k x).mgmt = d.mgmt := rfl
@[simp] theorem setSluLane_fic (d : Dev) (k : Nat) (x : SluLane) : (d.setSluLane k x).fic = d.fic := rfl
@[simp] theorem setSluLane_key (d : Dev) (k : Nat) (x : SluLane) : (d.setSluLane k x).key = d.key := rfl
@[simp] theorem setSluLane_races (d : Dev) (k : Nat) (x : SluLane) : (d.setSluLane k x).races = d.races := rfl
@[simp] theorem setSluLane_vat (d : Dev) (k : Nat) (x : SluLane) : (d.setSluLane k x).vat = d.vat := rfl
@[simp] theorem setSluLane_spi (d : Dev) (k : Nat) (x : SluLane) : (d.setSluLane k x).spi = d.spi := rfl
@[simp] theorem setSluLane_bist (d : Dev) (k : Nat) (x : SluLane) : (d.setSluLane k x).bist = d.bist := rfl
@[simp] theorem setSluLane_pwr (d : Dev) (k : Nat) (x : SluLane) : (d.setSluLane k x).pwr = d.pwr := rfl
@[simp] theorem setSluLane_get (d : Dev) (k : Nat) (x : SluLane) (g : Fld) : (d.setSluLane k x).get g = d.get g := rfl

/-! ### `setSource` -/

@[simp] theorem setSource_regs (d : Dev) (k : Nat) (x : Source) : (d.setSource k x).regs = d.regs := rfl
@[simp] theorem setSource_shadow (d : Dev) (k : Nat) (x : Source) : (d.setSource k x).shadow = d.shadow := rfl
@[simp] theorem setSource_now (d : Dev) (k : Nat) (x : Source) : (d.setSource k x).now = d.now := rfl
@[simp] theorem setSource_free (d : Dev) (k : Nat) (x : Source) : (d.setSource k x).free = d.free := rfl
@[simp] theorem setSource_out (d : Dev) (k : Nat) (x : Source) : (d.setSource k x).out = d.out := rfl
@[simp] theorem setSource_mode (d : Dev) (k : Nat) (x : Source) : (d.setSource k x).mode = d.mode := rfl
@[simp] theorem setSource_tide (d : Dev) (k : Nat) (x : Source) : (d.setSource k x).tide = d.tide := rfl
@[simp] theorem setSource_lanes (d : Dev) (k : Nat) (x : Source) : (d.setSource k x).lanes = d.lanes := rfl
@[simp] theorem setSource_cells (d : Dev) (k : Nat) (x : Source) : (d.setSource k x).cells = d.cells := rfl
@[simp] theorem setSource_survey (d : Dev) (k : Nat) (x : Source) : (d.setSource k x).survey = d.survey := rfl
@[simp] theorem setSource_slu (d : Dev) (k : Nat) (x : Source) : (d.setSource k x).slu = { d.slu with sources := Table.put {} d.slu.sources k x } := rfl
@[simp] theorem setSource_couch (d : Dev) (k : Nat) (x : Source) : (d.setSource k x).couch = d.couch := rfl
@[simp] theorem setSource_polders (d : Dev) (k : Nat) (x : Source) : (d.setSource k x).polders = d.polders := rfl
@[simp] theorem setSource_brch (d : Dev) (k : Nat) (x : Source) : (d.setSource k x).brch = d.brch := rfl
@[simp] theorem setSource_ldg (d : Dev) (k : Nat) (x : Source) : (d.setSource k x).ldg = d.ldg := rfl
@[simp] theorem setSource_pcie (d : Dev) (k : Nat) (x : Source) : (d.setSource k x).pcie = d.pcie := rfl
@[simp] theorem setSource_dike (d : Dev) (k : Nat) (x : Source) : (d.setSource k x).dike = d.dike := rfl
@[simp] theorem setSource_berm (d : Dev) (k : Nat) (x : Source) : (d.setSource k x).berm = d.berm := rfl
@[simp] theorem setSource_saf (d : Dev) (k : Nat) (x : Source) : (d.setSource k x).saf = d.saf := rfl
@[simp] theorem setSource_mgmt (d : Dev) (k : Nat) (x : Source) : (d.setSource k x).mgmt = d.mgmt := rfl
@[simp] theorem setSource_fic (d : Dev) (k : Nat) (x : Source) : (d.setSource k x).fic = d.fic := rfl
@[simp] theorem setSource_key (d : Dev) (k : Nat) (x : Source) : (d.setSource k x).key = d.key := rfl
@[simp] theorem setSource_races (d : Dev) (k : Nat) (x : Source) : (d.setSource k x).races = d.races := rfl
@[simp] theorem setSource_vat (d : Dev) (k : Nat) (x : Source) : (d.setSource k x).vat = d.vat := rfl
@[simp] theorem setSource_spi (d : Dev) (k : Nat) (x : Source) : (d.setSource k x).spi = d.spi := rfl
@[simp] theorem setSource_bist (d : Dev) (k : Nat) (x : Source) : (d.setSource k x).bist = d.bist := rfl
@[simp] theorem setSource_pwr (d : Dev) (k : Nat) (x : Source) : (d.setSource k x).pwr = d.pwr := rfl
@[simp] theorem setSource_get (d : Dev) (k : Nat) (x : Source) (g : Fld) : (d.setSource k x).get g = d.get g := rfl

/-! ### `setRace` -/

@[simp] theorem setRace_regs (d : Dev) (q : Nat) (x : Race) : (d.setRace q x).regs = d.regs := rfl
@[simp] theorem setRace_shadow (d : Dev) (q : Nat) (x : Race) : (d.setRace q x).shadow = d.shadow := rfl
@[simp] theorem setRace_now (d : Dev) (q : Nat) (x : Race) : (d.setRace q x).now = d.now := rfl
@[simp] theorem setRace_free (d : Dev) (q : Nat) (x : Race) : (d.setRace q x).free = d.free := rfl
@[simp] theorem setRace_out (d : Dev) (q : Nat) (x : Race) : (d.setRace q x).out = d.out := rfl
@[simp] theorem setRace_mode (d : Dev) (q : Nat) (x : Race) : (d.setRace q x).mode = d.mode := rfl
@[simp] theorem setRace_tide (d : Dev) (q : Nat) (x : Race) : (d.setRace q x).tide = d.tide := rfl
@[simp] theorem setRace_lanes (d : Dev) (q : Nat) (x : Race) : (d.setRace q x).lanes = d.lanes := rfl
@[simp] theorem setRace_cells (d : Dev) (q : Nat) (x : Race) : (d.setRace q x).cells = d.cells := rfl
@[simp] theorem setRace_survey (d : Dev) (q : Nat) (x : Race) : (d.setRace q x).survey = d.survey := rfl
@[simp] theorem setRace_slu (d : Dev) (q : Nat) (x : Race) : (d.setRace q x).slu = d.slu := rfl
@[simp] theorem setRace_couch (d : Dev) (q : Nat) (x : Race) : (d.setRace q x).couch = d.couch := rfl
@[simp] theorem setRace_polders (d : Dev) (q : Nat) (x : Race) : (d.setRace q x).polders = d.polders := rfl
@[simp] theorem setRace_brch (d : Dev) (q : Nat) (x : Race) : (d.setRace q x).brch = d.brch := rfl
@[simp] theorem setRace_ldg (d : Dev) (q : Nat) (x : Race) : (d.setRace q x).ldg = d.ldg := rfl
@[simp] theorem setRace_pcie (d : Dev) (q : Nat) (x : Race) : (d.setRace q x).pcie = d.pcie := rfl
@[simp] theorem setRace_dike (d : Dev) (q : Nat) (x : Race) : (d.setRace q x).dike = d.dike := rfl
@[simp] theorem setRace_berm (d : Dev) (q : Nat) (x : Race) : (d.setRace q x).berm = d.berm := rfl
@[simp] theorem setRace_saf (d : Dev) (q : Nat) (x : Race) : (d.setRace q x).saf = d.saf := rfl
@[simp] theorem setRace_mgmt (d : Dev) (q : Nat) (x : Race) : (d.setRace q x).mgmt = d.mgmt := rfl
@[simp] theorem setRace_fic (d : Dev) (q : Nat) (x : Race) : (d.setRace q x).fic = d.fic := rfl
@[simp] theorem setRace_key (d : Dev) (q : Nat) (x : Race) : (d.setRace q x).key = d.key := rfl
@[simp] theorem setRace_races (d : Dev) (q : Nat) (x : Race) : (d.setRace q x).races = Table.put {} d.races q x := rfl
@[simp] theorem setRace_vat (d : Dev) (q : Nat) (x : Race) : (d.setRace q x).vat = d.vat := rfl
@[simp] theorem setRace_spi (d : Dev) (q : Nat) (x : Race) : (d.setRace q x).spi = d.spi := rfl
@[simp] theorem setRace_bist (d : Dev) (q : Nat) (x : Race) : (d.setRace q x).bist = d.bist := rfl
@[simp] theorem setRace_pwr (d : Dev) (q : Nat) (x : Race) : (d.setRace q x).pwr = d.pwr := rfl
@[simp] theorem setRace_get (d : Dev) (q : Nat) (x : Race) (g : Fld) : (d.setRace q x).get g = d.get g := rfl

/-! ### `onMode` -/

@[simp] theorem onMode_regs (d : Dev) (f : ModeCtl → ModeCtl) : (d.onMode f).regs = d.regs := rfl
@[simp] theorem onMode_shadow (d : Dev) (f : ModeCtl → ModeCtl) : (d.onMode f).shadow = d.shadow := rfl
@[simp] theorem onMode_now (d : Dev) (f : ModeCtl → ModeCtl) : (d.onMode f).now = d.now := rfl
@[simp] theorem onMode_free (d : Dev) (f : ModeCtl → ModeCtl) : (d.onMode f).free = d.free := rfl
@[simp] theorem onMode_out (d : Dev) (f : ModeCtl → ModeCtl) : (d.onMode f).out = d.out := rfl
@[simp] theorem onMode_mode (d : Dev) (f : ModeCtl → ModeCtl) : (d.onMode f).mode = f d.mode := rfl
@[simp] theorem onMode_tide (d : Dev) (f : ModeCtl → ModeCtl) : (d.onMode f).tide = d.tide := rfl
@[simp] theorem onMode_lanes (d : Dev) (f : ModeCtl → ModeCtl) : (d.onMode f).lanes = d.lanes := rfl
@[simp] theorem onMode_cells (d : Dev) (f : ModeCtl → ModeCtl) : (d.onMode f).cells = d.cells := rfl
@[simp] theorem onMode_survey (d : Dev) (f : ModeCtl → ModeCtl) : (d.onMode f).survey = d.survey := rfl
@[simp] theorem onMode_slu (d : Dev) (f : ModeCtl → ModeCtl) : (d.onMode f).slu = d.slu := rfl
@[simp] theorem onMode_couch (d : Dev) (f : ModeCtl → ModeCtl) : (d.onMode f).couch = d.couch := rfl
@[simp] theorem onMode_polders (d : Dev) (f : ModeCtl → ModeCtl) : (d.onMode f).polders = d.polders := rfl
@[simp] theorem onMode_brch (d : Dev) (f : ModeCtl → ModeCtl) : (d.onMode f).brch = d.brch := rfl
@[simp] theorem onMode_ldg (d : Dev) (f : ModeCtl → ModeCtl) : (d.onMode f).ldg = d.ldg := rfl
@[simp] theorem onMode_pcie (d : Dev) (f : ModeCtl → ModeCtl) : (d.onMode f).pcie = d.pcie := rfl
@[simp] theorem onMode_dike (d : Dev) (f : ModeCtl → ModeCtl) : (d.onMode f).dike = d.dike := rfl
@[simp] theorem onMode_berm (d : Dev) (f : ModeCtl → ModeCtl) : (d.onMode f).berm = d.berm := rfl
@[simp] theorem onMode_saf (d : Dev) (f : ModeCtl → ModeCtl) : (d.onMode f).saf = d.saf := rfl
@[simp] theorem onMode_mgmt (d : Dev) (f : ModeCtl → ModeCtl) : (d.onMode f).mgmt = d.mgmt := rfl
@[simp] theorem onMode_fic (d : Dev) (f : ModeCtl → ModeCtl) : (d.onMode f).fic = d.fic := rfl
@[simp] theorem onMode_key (d : Dev) (f : ModeCtl → ModeCtl) : (d.onMode f).key = d.key := rfl
@[simp] theorem onMode_races (d : Dev) (f : ModeCtl → ModeCtl) : (d.onMode f).races = d.races := rfl
@[simp] theorem onMode_vat (d : Dev) (f : ModeCtl → ModeCtl) : (d.onMode f).vat = d.vat := rfl
@[simp] theorem onMode_spi (d : Dev) (f : ModeCtl → ModeCtl) : (d.onMode f).spi = d.spi := rfl
@[simp] theorem onMode_bist (d : Dev) (f : ModeCtl → ModeCtl) : (d.onMode f).bist = d.bist := rfl
@[simp] theorem onMode_pwr (d : Dev) (f : ModeCtl → ModeCtl) : (d.onMode f).pwr = d.pwr := rfl
@[simp] theorem onMode_get (d : Dev) (f : ModeCtl → ModeCtl) (g : Fld) : (d.onMode f).get g = d.get g := rfl

/-! ### `onTide` -/

@[simp] theorem onTide_regs (d : Dev) (f : Tide → Tide) : (d.onTide f).regs = d.regs := rfl
@[simp] theorem onTide_shadow (d : Dev) (f : Tide → Tide) : (d.onTide f).shadow = d.shadow := rfl
@[simp] theorem onTide_now (d : Dev) (f : Tide → Tide) : (d.onTide f).now = d.now := rfl
@[simp] theorem onTide_free (d : Dev) (f : Tide → Tide) : (d.onTide f).free = d.free := rfl
@[simp] theorem onTide_out (d : Dev) (f : Tide → Tide) : (d.onTide f).out = d.out := rfl
@[simp] theorem onTide_mode (d : Dev) (f : Tide → Tide) : (d.onTide f).mode = d.mode := rfl
@[simp] theorem onTide_tide (d : Dev) (f : Tide → Tide) : (d.onTide f).tide = f d.tide := rfl
@[simp] theorem onTide_lanes (d : Dev) (f : Tide → Tide) : (d.onTide f).lanes = d.lanes := rfl
@[simp] theorem onTide_cells (d : Dev) (f : Tide → Tide) : (d.onTide f).cells = d.cells := rfl
@[simp] theorem onTide_survey (d : Dev) (f : Tide → Tide) : (d.onTide f).survey = d.survey := rfl
@[simp] theorem onTide_slu (d : Dev) (f : Tide → Tide) : (d.onTide f).slu = d.slu := rfl
@[simp] theorem onTide_couch (d : Dev) (f : Tide → Tide) : (d.onTide f).couch = d.couch := rfl
@[simp] theorem onTide_polders (d : Dev) (f : Tide → Tide) : (d.onTide f).polders = d.polders := rfl
@[simp] theorem onTide_brch (d : Dev) (f : Tide → Tide) : (d.onTide f).brch = d.brch := rfl
@[simp] theorem onTide_ldg (d : Dev) (f : Tide → Tide) : (d.onTide f).ldg = d.ldg := rfl
@[simp] theorem onTide_pcie (d : Dev) (f : Tide → Tide) : (d.onTide f).pcie = d.pcie := rfl
@[simp] theorem onTide_dike (d : Dev) (f : Tide → Tide) : (d.onTide f).dike = d.dike := rfl
@[simp] theorem onTide_berm (d : Dev) (f : Tide → Tide) : (d.onTide f).berm = d.berm := rfl
@[simp] theorem onTide_saf (d : Dev) (f : Tide → Tide) : (d.onTide f).saf = d.saf := rfl
@[simp] theorem onTide_mgmt (d : Dev) (f : Tide → Tide) : (d.onTide f).mgmt = d.mgmt := rfl
@[simp] theorem onTide_fic (d : Dev) (f : Tide → Tide) : (d.onTide f).fic = d.fic := rfl
@[simp] theorem onTide_key (d : Dev) (f : Tide → Tide) : (d.onTide f).key = d.key := rfl
@[simp] theorem onTide_races (d : Dev) (f : Tide → Tide) : (d.onTide f).races = d.races := rfl
@[simp] theorem onTide_vat (d : Dev) (f : Tide → Tide) : (d.onTide f).vat = d.vat := rfl
@[simp] theorem onTide_spi (d : Dev) (f : Tide → Tide) : (d.onTide f).spi = d.spi := rfl
@[simp] theorem onTide_bist (d : Dev) (f : Tide → Tide) : (d.onTide f).bist = d.bist := rfl
@[simp] theorem onTide_pwr (d : Dev) (f : Tide → Tide) : (d.onTide f).pwr = d.pwr := rfl
@[simp] theorem onTide_get (d : Dev) (f : Tide → Tide) (g : Fld) : (d.onTide f).get g = d.get g := rfl

/-! ### `onSurvey` -/

@[simp] theorem onSurvey_regs (d : Dev) (f : Survey → Survey) : (d.onSurvey f).regs = d.regs := rfl
@[simp] theorem onSurvey_shadow (d : Dev) (f : Survey → Survey) : (d.onSurvey f).shadow = d.shadow := rfl
@[simp] theorem onSurvey_now (d : Dev) (f : Survey → Survey) : (d.onSurvey f).now = d.now := rfl
@[simp] theorem onSurvey_free (d : Dev) (f : Survey → Survey) : (d.onSurvey f).free = d.free := rfl
@[simp] theorem onSurvey_out (d : Dev) (f : Survey → Survey) : (d.onSurvey f).out = d.out := rfl
@[simp] theorem onSurvey_mode (d : Dev) (f : Survey → Survey) : (d.onSurvey f).mode = d.mode := rfl
@[simp] theorem onSurvey_tide (d : Dev) (f : Survey → Survey) : (d.onSurvey f).tide = d.tide := rfl
@[simp] theorem onSurvey_lanes (d : Dev) (f : Survey → Survey) : (d.onSurvey f).lanes = d.lanes := rfl
@[simp] theorem onSurvey_cells (d : Dev) (f : Survey → Survey) : (d.onSurvey f).cells = d.cells := rfl
@[simp] theorem onSurvey_survey (d : Dev) (f : Survey → Survey) : (d.onSurvey f).survey = f d.survey := rfl
@[simp] theorem onSurvey_slu (d : Dev) (f : Survey → Survey) : (d.onSurvey f).slu = d.slu := rfl
@[simp] theorem onSurvey_couch (d : Dev) (f : Survey → Survey) : (d.onSurvey f).couch = d.couch := rfl
@[simp] theorem onSurvey_polders (d : Dev) (f : Survey → Survey) : (d.onSurvey f).polders = d.polders := rfl
@[simp] theorem onSurvey_brch (d : Dev) (f : Survey → Survey) : (d.onSurvey f).brch = d.brch := rfl
@[simp] theorem onSurvey_ldg (d : Dev) (f : Survey → Survey) : (d.onSurvey f).ldg = d.ldg := rfl
@[simp] theorem onSurvey_pcie (d : Dev) (f : Survey → Survey) : (d.onSurvey f).pcie = d.pcie := rfl
@[simp] theorem onSurvey_dike (d : Dev) (f : Survey → Survey) : (d.onSurvey f).dike = d.dike := rfl
@[simp] theorem onSurvey_berm (d : Dev) (f : Survey → Survey) : (d.onSurvey f).berm = d.berm := rfl
@[simp] theorem onSurvey_saf (d : Dev) (f : Survey → Survey) : (d.onSurvey f).saf = d.saf := rfl
@[simp] theorem onSurvey_mgmt (d : Dev) (f : Survey → Survey) : (d.onSurvey f).mgmt = d.mgmt := rfl
@[simp] theorem onSurvey_fic (d : Dev) (f : Survey → Survey) : (d.onSurvey f).fic = d.fic := rfl
@[simp] theorem onSurvey_key (d : Dev) (f : Survey → Survey) : (d.onSurvey f).key = d.key := rfl
@[simp] theorem onSurvey_races (d : Dev) (f : Survey → Survey) : (d.onSurvey f).races = d.races := rfl
@[simp] theorem onSurvey_vat (d : Dev) (f : Survey → Survey) : (d.onSurvey f).vat = d.vat := rfl
@[simp] theorem onSurvey_spi (d : Dev) (f : Survey → Survey) : (d.onSurvey f).spi = d.spi := rfl
@[simp] theorem onSurvey_bist (d : Dev) (f : Survey → Survey) : (d.onSurvey f).bist = d.bist := rfl
@[simp] theorem onSurvey_pwr (d : Dev) (f : Survey → Survey) : (d.onSurvey f).pwr = d.pwr := rfl
@[simp] theorem onSurvey_get (d : Dev) (f : Survey → Survey) (g : Fld) : (d.onSurvey f).get g = d.get g := rfl

/-! ### `onSlu` -/

@[simp] theorem onSlu_regs (d : Dev) (f : Sluice → Sluice) : (d.onSlu f).regs = d.regs := rfl
@[simp] theorem onSlu_shadow (d : Dev) (f : Sluice → Sluice) : (d.onSlu f).shadow = d.shadow := rfl
@[simp] theorem onSlu_now (d : Dev) (f : Sluice → Sluice) : (d.onSlu f).now = d.now := rfl
@[simp] theorem onSlu_free (d : Dev) (f : Sluice → Sluice) : (d.onSlu f).free = d.free := rfl
@[simp] theorem onSlu_out (d : Dev) (f : Sluice → Sluice) : (d.onSlu f).out = d.out := rfl
@[simp] theorem onSlu_mode (d : Dev) (f : Sluice → Sluice) : (d.onSlu f).mode = d.mode := rfl
@[simp] theorem onSlu_tide (d : Dev) (f : Sluice → Sluice) : (d.onSlu f).tide = d.tide := rfl
@[simp] theorem onSlu_lanes (d : Dev) (f : Sluice → Sluice) : (d.onSlu f).lanes = d.lanes := rfl
@[simp] theorem onSlu_cells (d : Dev) (f : Sluice → Sluice) : (d.onSlu f).cells = d.cells := rfl
@[simp] theorem onSlu_survey (d : Dev) (f : Sluice → Sluice) : (d.onSlu f).survey = d.survey := rfl
@[simp] theorem onSlu_slu (d : Dev) (f : Sluice → Sluice) : (d.onSlu f).slu = f d.slu := rfl
@[simp] theorem onSlu_couch (d : Dev) (f : Sluice → Sluice) : (d.onSlu f).couch = d.couch := rfl
@[simp] theorem onSlu_polders (d : Dev) (f : Sluice → Sluice) : (d.onSlu f).polders = d.polders := rfl
@[simp] theorem onSlu_brch (d : Dev) (f : Sluice → Sluice) : (d.onSlu f).brch = d.brch := rfl
@[simp] theorem onSlu_ldg (d : Dev) (f : Sluice → Sluice) : (d.onSlu f).ldg = d.ldg := rfl
@[simp] theorem onSlu_pcie (d : Dev) (f : Sluice → Sluice) : (d.onSlu f).pcie = d.pcie := rfl
@[simp] theorem onSlu_dike (d : Dev) (f : Sluice → Sluice) : (d.onSlu f).dike = d.dike := rfl
@[simp] theorem onSlu_berm (d : Dev) (f : Sluice → Sluice) : (d.onSlu f).berm = d.berm := rfl
@[simp] theorem onSlu_saf (d : Dev) (f : Sluice → Sluice) : (d.onSlu f).saf = d.saf := rfl
@[simp] theorem onSlu_mgmt (d : Dev) (f : Sluice → Sluice) : (d.onSlu f).mgmt = d.mgmt := rfl
@[simp] theorem onSlu_fic (d : Dev) (f : Sluice → Sluice) : (d.onSlu f).fic = d.fic := rfl
@[simp] theorem onSlu_key (d : Dev) (f : Sluice → Sluice) : (d.onSlu f).key = d.key := rfl
@[simp] theorem onSlu_races (d : Dev) (f : Sluice → Sluice) : (d.onSlu f).races = d.races := rfl
@[simp] theorem onSlu_vat (d : Dev) (f : Sluice → Sluice) : (d.onSlu f).vat = d.vat := rfl
@[simp] theorem onSlu_spi (d : Dev) (f : Sluice → Sluice) : (d.onSlu f).spi = d.spi := rfl
@[simp] theorem onSlu_bist (d : Dev) (f : Sluice → Sluice) : (d.onSlu f).bist = d.bist := rfl
@[simp] theorem onSlu_pwr (d : Dev) (f : Sluice → Sluice) : (d.onSlu f).pwr = d.pwr := rfl
@[simp] theorem onSlu_get (d : Dev) (f : Sluice → Sluice) (g : Fld) : (d.onSlu f).get g = d.get g := rfl

/-! ### `onCouch` -/

@[simp] theorem onCouch_regs (d : Dev) (f : Couch → Couch) : (d.onCouch f).regs = d.regs := rfl
@[simp] theorem onCouch_shadow (d : Dev) (f : Couch → Couch) : (d.onCouch f).shadow = d.shadow := rfl
@[simp] theorem onCouch_now (d : Dev) (f : Couch → Couch) : (d.onCouch f).now = d.now := rfl
@[simp] theorem onCouch_free (d : Dev) (f : Couch → Couch) : (d.onCouch f).free = d.free := rfl
@[simp] theorem onCouch_out (d : Dev) (f : Couch → Couch) : (d.onCouch f).out = d.out := rfl
@[simp] theorem onCouch_mode (d : Dev) (f : Couch → Couch) : (d.onCouch f).mode = d.mode := rfl
@[simp] theorem onCouch_tide (d : Dev) (f : Couch → Couch) : (d.onCouch f).tide = d.tide := rfl
@[simp] theorem onCouch_lanes (d : Dev) (f : Couch → Couch) : (d.onCouch f).lanes = d.lanes := rfl
@[simp] theorem onCouch_cells (d : Dev) (f : Couch → Couch) : (d.onCouch f).cells = d.cells := rfl
@[simp] theorem onCouch_survey (d : Dev) (f : Couch → Couch) : (d.onCouch f).survey = d.survey := rfl
@[simp] theorem onCouch_slu (d : Dev) (f : Couch → Couch) : (d.onCouch f).slu = d.slu := rfl
@[simp] theorem onCouch_couch (d : Dev) (f : Couch → Couch) : (d.onCouch f).couch = f d.couch := rfl
@[simp] theorem onCouch_polders (d : Dev) (f : Couch → Couch) : (d.onCouch f).polders = d.polders := rfl
@[simp] theorem onCouch_brch (d : Dev) (f : Couch → Couch) : (d.onCouch f).brch = d.brch := rfl
@[simp] theorem onCouch_ldg (d : Dev) (f : Couch → Couch) : (d.onCouch f).ldg = d.ldg := rfl
@[simp] theorem onCouch_pcie (d : Dev) (f : Couch → Couch) : (d.onCouch f).pcie = d.pcie := rfl
@[simp] theorem onCouch_dike (d : Dev) (f : Couch → Couch) : (d.onCouch f).dike = d.dike := rfl
@[simp] theorem onCouch_berm (d : Dev) (f : Couch → Couch) : (d.onCouch f).berm = d.berm := rfl
@[simp] theorem onCouch_saf (d : Dev) (f : Couch → Couch) : (d.onCouch f).saf = d.saf := rfl
@[simp] theorem onCouch_mgmt (d : Dev) (f : Couch → Couch) : (d.onCouch f).mgmt = d.mgmt := rfl
@[simp] theorem onCouch_fic (d : Dev) (f : Couch → Couch) : (d.onCouch f).fic = d.fic := rfl
@[simp] theorem onCouch_key (d : Dev) (f : Couch → Couch) : (d.onCouch f).key = d.key := rfl
@[simp] theorem onCouch_races (d : Dev) (f : Couch → Couch) : (d.onCouch f).races = d.races := rfl
@[simp] theorem onCouch_vat (d : Dev) (f : Couch → Couch) : (d.onCouch f).vat = d.vat := rfl
@[simp] theorem onCouch_spi (d : Dev) (f : Couch → Couch) : (d.onCouch f).spi = d.spi := rfl
@[simp] theorem onCouch_bist (d : Dev) (f : Couch → Couch) : (d.onCouch f).bist = d.bist := rfl
@[simp] theorem onCouch_pwr (d : Dev) (f : Couch → Couch) : (d.onCouch f).pwr = d.pwr := rfl
@[simp] theorem onCouch_get (d : Dev) (f : Couch → Couch) (g : Fld) : (d.onCouch f).get g = d.get g := rfl

/-! ### `onBrch` -/

@[simp] theorem onBrch_regs (d : Dev) (f : Breach → Breach) : (d.onBrch f).regs = d.regs := rfl
@[simp] theorem onBrch_shadow (d : Dev) (f : Breach → Breach) : (d.onBrch f).shadow = d.shadow := rfl
@[simp] theorem onBrch_now (d : Dev) (f : Breach → Breach) : (d.onBrch f).now = d.now := rfl
@[simp] theorem onBrch_free (d : Dev) (f : Breach → Breach) : (d.onBrch f).free = d.free := rfl
@[simp] theorem onBrch_out (d : Dev) (f : Breach → Breach) : (d.onBrch f).out = d.out := rfl
@[simp] theorem onBrch_mode (d : Dev) (f : Breach → Breach) : (d.onBrch f).mode = d.mode := rfl
@[simp] theorem onBrch_tide (d : Dev) (f : Breach → Breach) : (d.onBrch f).tide = d.tide := rfl
@[simp] theorem onBrch_lanes (d : Dev) (f : Breach → Breach) : (d.onBrch f).lanes = d.lanes := rfl
@[simp] theorem onBrch_cells (d : Dev) (f : Breach → Breach) : (d.onBrch f).cells = d.cells := rfl
@[simp] theorem onBrch_survey (d : Dev) (f : Breach → Breach) : (d.onBrch f).survey = d.survey := rfl
@[simp] theorem onBrch_slu (d : Dev) (f : Breach → Breach) : (d.onBrch f).slu = d.slu := rfl
@[simp] theorem onBrch_couch (d : Dev) (f : Breach → Breach) : (d.onBrch f).couch = d.couch := rfl
@[simp] theorem onBrch_polders (d : Dev) (f : Breach → Breach) : (d.onBrch f).polders = d.polders := rfl
@[simp] theorem onBrch_brch (d : Dev) (f : Breach → Breach) : (d.onBrch f).brch = f d.brch := rfl
@[simp] theorem onBrch_ldg (d : Dev) (f : Breach → Breach) : (d.onBrch f).ldg = d.ldg := rfl
@[simp] theorem onBrch_pcie (d : Dev) (f : Breach → Breach) : (d.onBrch f).pcie = d.pcie := rfl
@[simp] theorem onBrch_dike (d : Dev) (f : Breach → Breach) : (d.onBrch f).dike = d.dike := rfl
@[simp] theorem onBrch_berm (d : Dev) (f : Breach → Breach) : (d.onBrch f).berm = d.berm := rfl
@[simp] theorem onBrch_saf (d : Dev) (f : Breach → Breach) : (d.onBrch f).saf = d.saf := rfl
@[simp] theorem onBrch_mgmt (d : Dev) (f : Breach → Breach) : (d.onBrch f).mgmt = d.mgmt := rfl
@[simp] theorem onBrch_fic (d : Dev) (f : Breach → Breach) : (d.onBrch f).fic = d.fic := rfl
@[simp] theorem onBrch_key (d : Dev) (f : Breach → Breach) : (d.onBrch f).key = d.key := rfl
@[simp] theorem onBrch_races (d : Dev) (f : Breach → Breach) : (d.onBrch f).races = d.races := rfl
@[simp] theorem onBrch_vat (d : Dev) (f : Breach → Breach) : (d.onBrch f).vat = d.vat := rfl
@[simp] theorem onBrch_spi (d : Dev) (f : Breach → Breach) : (d.onBrch f).spi = d.spi := rfl
@[simp] theorem onBrch_bist (d : Dev) (f : Breach → Breach) : (d.onBrch f).bist = d.bist := rfl
@[simp] theorem onBrch_pwr (d : Dev) (f : Breach → Breach) : (d.onBrch f).pwr = d.pwr := rfl
@[simp] theorem onBrch_get (d : Dev) (f : Breach → Breach) (g : Fld) : (d.onBrch f).get g = d.get g := rfl

/-! ### `onLdg` -/

@[simp] theorem onLdg_regs (d : Dev) (f : Ledger → Ledger) : (d.onLdg f).regs = d.regs := rfl
@[simp] theorem onLdg_shadow (d : Dev) (f : Ledger → Ledger) : (d.onLdg f).shadow = d.shadow := rfl
@[simp] theorem onLdg_now (d : Dev) (f : Ledger → Ledger) : (d.onLdg f).now = d.now := rfl
@[simp] theorem onLdg_free (d : Dev) (f : Ledger → Ledger) : (d.onLdg f).free = d.free := rfl
@[simp] theorem onLdg_out (d : Dev) (f : Ledger → Ledger) : (d.onLdg f).out = d.out := rfl
@[simp] theorem onLdg_mode (d : Dev) (f : Ledger → Ledger) : (d.onLdg f).mode = d.mode := rfl
@[simp] theorem onLdg_tide (d : Dev) (f : Ledger → Ledger) : (d.onLdg f).tide = d.tide := rfl
@[simp] theorem onLdg_lanes (d : Dev) (f : Ledger → Ledger) : (d.onLdg f).lanes = d.lanes := rfl
@[simp] theorem onLdg_cells (d : Dev) (f : Ledger → Ledger) : (d.onLdg f).cells = d.cells := rfl
@[simp] theorem onLdg_survey (d : Dev) (f : Ledger → Ledger) : (d.onLdg f).survey = d.survey := rfl
@[simp] theorem onLdg_slu (d : Dev) (f : Ledger → Ledger) : (d.onLdg f).slu = d.slu := rfl
@[simp] theorem onLdg_couch (d : Dev) (f : Ledger → Ledger) : (d.onLdg f).couch = d.couch := rfl
@[simp] theorem onLdg_polders (d : Dev) (f : Ledger → Ledger) : (d.onLdg f).polders = d.polders := rfl
@[simp] theorem onLdg_brch (d : Dev) (f : Ledger → Ledger) : (d.onLdg f).brch = d.brch := rfl
@[simp] theorem onLdg_ldg (d : Dev) (f : Ledger → Ledger) : (d.onLdg f).ldg = f d.ldg := rfl
@[simp] theorem onLdg_pcie (d : Dev) (f : Ledger → Ledger) : (d.onLdg f).pcie = d.pcie := rfl
@[simp] theorem onLdg_dike (d : Dev) (f : Ledger → Ledger) : (d.onLdg f).dike = d.dike := rfl
@[simp] theorem onLdg_berm (d : Dev) (f : Ledger → Ledger) : (d.onLdg f).berm = d.berm := rfl
@[simp] theorem onLdg_saf (d : Dev) (f : Ledger → Ledger) : (d.onLdg f).saf = d.saf := rfl
@[simp] theorem onLdg_mgmt (d : Dev) (f : Ledger → Ledger) : (d.onLdg f).mgmt = d.mgmt := rfl
@[simp] theorem onLdg_fic (d : Dev) (f : Ledger → Ledger) : (d.onLdg f).fic = d.fic := rfl
@[simp] theorem onLdg_key (d : Dev) (f : Ledger → Ledger) : (d.onLdg f).key = d.key := rfl
@[simp] theorem onLdg_races (d : Dev) (f : Ledger → Ledger) : (d.onLdg f).races = d.races := rfl
@[simp] theorem onLdg_vat (d : Dev) (f : Ledger → Ledger) : (d.onLdg f).vat = d.vat := rfl
@[simp] theorem onLdg_spi (d : Dev) (f : Ledger → Ledger) : (d.onLdg f).spi = d.spi := rfl
@[simp] theorem onLdg_bist (d : Dev) (f : Ledger → Ledger) : (d.onLdg f).bist = d.bist := rfl
@[simp] theorem onLdg_pwr (d : Dev) (f : Ledger → Ledger) : (d.onLdg f).pwr = d.pwr := rfl
@[simp] theorem onLdg_get (d : Dev) (f : Ledger → Ledger) (g : Fld) : (d.onLdg f).get g = d.get g := rfl

/-! ### `onPcie` -/

@[simp] theorem onPcie_regs (d : Dev) (f : Pcie → Pcie) : (d.onPcie f).regs = d.regs := rfl
@[simp] theorem onPcie_shadow (d : Dev) (f : Pcie → Pcie) : (d.onPcie f).shadow = d.shadow := rfl
@[simp] theorem onPcie_now (d : Dev) (f : Pcie → Pcie) : (d.onPcie f).now = d.now := rfl
@[simp] theorem onPcie_free (d : Dev) (f : Pcie → Pcie) : (d.onPcie f).free = d.free := rfl
@[simp] theorem onPcie_out (d : Dev) (f : Pcie → Pcie) : (d.onPcie f).out = d.out := rfl
@[simp] theorem onPcie_mode (d : Dev) (f : Pcie → Pcie) : (d.onPcie f).mode = d.mode := rfl
@[simp] theorem onPcie_tide (d : Dev) (f : Pcie → Pcie) : (d.onPcie f).tide = d.tide := rfl
@[simp] theorem onPcie_lanes (d : Dev) (f : Pcie → Pcie) : (d.onPcie f).lanes = d.lanes := rfl
@[simp] theorem onPcie_cells (d : Dev) (f : Pcie → Pcie) : (d.onPcie f).cells = d.cells := rfl
@[simp] theorem onPcie_survey (d : Dev) (f : Pcie → Pcie) : (d.onPcie f).survey = d.survey := rfl
@[simp] theorem onPcie_slu (d : Dev) (f : Pcie → Pcie) : (d.onPcie f).slu = d.slu := rfl
@[simp] theorem onPcie_couch (d : Dev) (f : Pcie → Pcie) : (d.onPcie f).couch = d.couch := rfl
@[simp] theorem onPcie_polders (d : Dev) (f : Pcie → Pcie) : (d.onPcie f).polders = d.polders := rfl
@[simp] theorem onPcie_brch (d : Dev) (f : Pcie → Pcie) : (d.onPcie f).brch = d.brch := rfl
@[simp] theorem onPcie_ldg (d : Dev) (f : Pcie → Pcie) : (d.onPcie f).ldg = d.ldg := rfl
@[simp] theorem onPcie_pcie (d : Dev) (f : Pcie → Pcie) : (d.onPcie f).pcie = f d.pcie := rfl
@[simp] theorem onPcie_dike (d : Dev) (f : Pcie → Pcie) : (d.onPcie f).dike = d.dike := rfl
@[simp] theorem onPcie_berm (d : Dev) (f : Pcie → Pcie) : (d.onPcie f).berm = d.berm := rfl
@[simp] theorem onPcie_saf (d : Dev) (f : Pcie → Pcie) : (d.onPcie f).saf = d.saf := rfl
@[simp] theorem onPcie_mgmt (d : Dev) (f : Pcie → Pcie) : (d.onPcie f).mgmt = d.mgmt := rfl
@[simp] theorem onPcie_fic (d : Dev) (f : Pcie → Pcie) : (d.onPcie f).fic = d.fic := rfl
@[simp] theorem onPcie_key (d : Dev) (f : Pcie → Pcie) : (d.onPcie f).key = d.key := rfl
@[simp] theorem onPcie_races (d : Dev) (f : Pcie → Pcie) : (d.onPcie f).races = d.races := rfl
@[simp] theorem onPcie_vat (d : Dev) (f : Pcie → Pcie) : (d.onPcie f).vat = d.vat := rfl
@[simp] theorem onPcie_spi (d : Dev) (f : Pcie → Pcie) : (d.onPcie f).spi = d.spi := rfl
@[simp] theorem onPcie_bist (d : Dev) (f : Pcie → Pcie) : (d.onPcie f).bist = d.bist := rfl
@[simp] theorem onPcie_pwr (d : Dev) (f : Pcie → Pcie) : (d.onPcie f).pwr = d.pwr := rfl
@[simp] theorem onPcie_get (d : Dev) (f : Pcie → Pcie) (g : Fld) : (d.onPcie f).get g = d.get g := rfl

/-! ### `onDike` -/

@[simp] theorem onDike_regs (d : Dev) (f : Dike → Dike) : (d.onDike f).regs = d.regs := rfl
@[simp] theorem onDike_shadow (d : Dev) (f : Dike → Dike) : (d.onDike f).shadow = d.shadow := rfl
@[simp] theorem onDike_now (d : Dev) (f : Dike → Dike) : (d.onDike f).now = d.now := rfl
@[simp] theorem onDike_free (d : Dev) (f : Dike → Dike) : (d.onDike f).free = d.free := rfl
@[simp] theorem onDike_out (d : Dev) (f : Dike → Dike) : (d.onDike f).out = d.out := rfl
@[simp] theorem onDike_mode (d : Dev) (f : Dike → Dike) : (d.onDike f).mode = d.mode := rfl
@[simp] theorem onDike_tide (d : Dev) (f : Dike → Dike) : (d.onDike f).tide = d.tide := rfl
@[simp] theorem onDike_lanes (d : Dev) (f : Dike → Dike) : (d.onDike f).lanes = d.lanes := rfl
@[simp] theorem onDike_cells (d : Dev) (f : Dike → Dike) : (d.onDike f).cells = d.cells := rfl
@[simp] theorem onDike_survey (d : Dev) (f : Dike → Dike) : (d.onDike f).survey = d.survey := rfl
@[simp] theorem onDike_slu (d : Dev) (f : Dike → Dike) : (d.onDike f).slu = d.slu := rfl
@[simp] theorem onDike_couch (d : Dev) (f : Dike → Dike) : (d.onDike f).couch = d.couch := rfl
@[simp] theorem onDike_polders (d : Dev) (f : Dike → Dike) : (d.onDike f).polders = d.polders := rfl
@[simp] theorem onDike_brch (d : Dev) (f : Dike → Dike) : (d.onDike f).brch = d.brch := rfl
@[simp] theorem onDike_ldg (d : Dev) (f : Dike → Dike) : (d.onDike f).ldg = d.ldg := rfl
@[simp] theorem onDike_pcie (d : Dev) (f : Dike → Dike) : (d.onDike f).pcie = d.pcie := rfl
@[simp] theorem onDike_dike (d : Dev) (f : Dike → Dike) : (d.onDike f).dike = f d.dike := rfl
@[simp] theorem onDike_berm (d : Dev) (f : Dike → Dike) : (d.onDike f).berm = d.berm := rfl
@[simp] theorem onDike_saf (d : Dev) (f : Dike → Dike) : (d.onDike f).saf = d.saf := rfl
@[simp] theorem onDike_mgmt (d : Dev) (f : Dike → Dike) : (d.onDike f).mgmt = d.mgmt := rfl
@[simp] theorem onDike_fic (d : Dev) (f : Dike → Dike) : (d.onDike f).fic = d.fic := rfl
@[simp] theorem onDike_key (d : Dev) (f : Dike → Dike) : (d.onDike f).key = d.key := rfl
@[simp] theorem onDike_races (d : Dev) (f : Dike → Dike) : (d.onDike f).races = d.races := rfl
@[simp] theorem onDike_vat (d : Dev) (f : Dike → Dike) : (d.onDike f).vat = d.vat := rfl
@[simp] theorem onDike_spi (d : Dev) (f : Dike → Dike) : (d.onDike f).spi = d.spi := rfl
@[simp] theorem onDike_bist (d : Dev) (f : Dike → Dike) : (d.onDike f).bist = d.bist := rfl
@[simp] theorem onDike_pwr (d : Dev) (f : Dike → Dike) : (d.onDike f).pwr = d.pwr := rfl
@[simp] theorem onDike_get (d : Dev) (f : Dike → Dike) (g : Fld) : (d.onDike f).get g = d.get g := rfl

/-! ### `onBerm` -/

@[simp] theorem onBerm_regs (d : Dev) (f : Berm → Berm) : (d.onBerm f).regs = d.regs := rfl
@[simp] theorem onBerm_shadow (d : Dev) (f : Berm → Berm) : (d.onBerm f).shadow = d.shadow := rfl
@[simp] theorem onBerm_now (d : Dev) (f : Berm → Berm) : (d.onBerm f).now = d.now := rfl
@[simp] theorem onBerm_free (d : Dev) (f : Berm → Berm) : (d.onBerm f).free = d.free := rfl
@[simp] theorem onBerm_out (d : Dev) (f : Berm → Berm) : (d.onBerm f).out = d.out := rfl
@[simp] theorem onBerm_mode (d : Dev) (f : Berm → Berm) : (d.onBerm f).mode = d.mode := rfl
@[simp] theorem onBerm_tide (d : Dev) (f : Berm → Berm) : (d.onBerm f).tide = d.tide := rfl
@[simp] theorem onBerm_lanes (d : Dev) (f : Berm → Berm) : (d.onBerm f).lanes = d.lanes := rfl
@[simp] theorem onBerm_cells (d : Dev) (f : Berm → Berm) : (d.onBerm f).cells = d.cells := rfl
@[simp] theorem onBerm_survey (d : Dev) (f : Berm → Berm) : (d.onBerm f).survey = d.survey := rfl
@[simp] theorem onBerm_slu (d : Dev) (f : Berm → Berm) : (d.onBerm f).slu = d.slu := rfl
@[simp] theorem onBerm_couch (d : Dev) (f : Berm → Berm) : (d.onBerm f).couch = d.couch := rfl
@[simp] theorem onBerm_polders (d : Dev) (f : Berm → Berm) : (d.onBerm f).polders = d.polders := rfl
@[simp] theorem onBerm_brch (d : Dev) (f : Berm → Berm) : (d.onBerm f).brch = d.brch := rfl
@[simp] theorem onBerm_ldg (d : Dev) (f : Berm → Berm) : (d.onBerm f).ldg = d.ldg := rfl
@[simp] theorem onBerm_pcie (d : Dev) (f : Berm → Berm) : (d.onBerm f).pcie = d.pcie := rfl
@[simp] theorem onBerm_dike (d : Dev) (f : Berm → Berm) : (d.onBerm f).dike = d.dike := rfl
@[simp] theorem onBerm_berm (d : Dev) (f : Berm → Berm) : (d.onBerm f).berm = f d.berm := rfl
@[simp] theorem onBerm_saf (d : Dev) (f : Berm → Berm) : (d.onBerm f).saf = d.saf := rfl
@[simp] theorem onBerm_mgmt (d : Dev) (f : Berm → Berm) : (d.onBerm f).mgmt = d.mgmt := rfl
@[simp] theorem onBerm_fic (d : Dev) (f : Berm → Berm) : (d.onBerm f).fic = d.fic := rfl
@[simp] theorem onBerm_key (d : Dev) (f : Berm → Berm) : (d.onBerm f).key = d.key := rfl
@[simp] theorem onBerm_races (d : Dev) (f : Berm → Berm) : (d.onBerm f).races = d.races := rfl
@[simp] theorem onBerm_vat (d : Dev) (f : Berm → Berm) : (d.onBerm f).vat = d.vat := rfl
@[simp] theorem onBerm_spi (d : Dev) (f : Berm → Berm) : (d.onBerm f).spi = d.spi := rfl
@[simp] theorem onBerm_bist (d : Dev) (f : Berm → Berm) : (d.onBerm f).bist = d.bist := rfl
@[simp] theorem onBerm_pwr (d : Dev) (f : Berm → Berm) : (d.onBerm f).pwr = d.pwr := rfl
@[simp] theorem onBerm_get (d : Dev) (f : Berm → Berm) (g : Fld) : (d.onBerm f).get g = d.get g := rfl

/-! ### `onSaf` -/

@[simp] theorem onSaf_regs (d : Dev) (f : Safety → Safety) : (d.onSaf f).regs = d.regs := rfl
@[simp] theorem onSaf_shadow (d : Dev) (f : Safety → Safety) : (d.onSaf f).shadow = d.shadow := rfl
@[simp] theorem onSaf_now (d : Dev) (f : Safety → Safety) : (d.onSaf f).now = d.now := rfl
@[simp] theorem onSaf_free (d : Dev) (f : Safety → Safety) : (d.onSaf f).free = d.free := rfl
@[simp] theorem onSaf_out (d : Dev) (f : Safety → Safety) : (d.onSaf f).out = d.out := rfl
@[simp] theorem onSaf_mode (d : Dev) (f : Safety → Safety) : (d.onSaf f).mode = d.mode := rfl
@[simp] theorem onSaf_tide (d : Dev) (f : Safety → Safety) : (d.onSaf f).tide = d.tide := rfl
@[simp] theorem onSaf_lanes (d : Dev) (f : Safety → Safety) : (d.onSaf f).lanes = d.lanes := rfl
@[simp] theorem onSaf_cells (d : Dev) (f : Safety → Safety) : (d.onSaf f).cells = d.cells := rfl
@[simp] theorem onSaf_survey (d : Dev) (f : Safety → Safety) : (d.onSaf f).survey = d.survey := rfl
@[simp] theorem onSaf_slu (d : Dev) (f : Safety → Safety) : (d.onSaf f).slu = d.slu := rfl
@[simp] theorem onSaf_couch (d : Dev) (f : Safety → Safety) : (d.onSaf f).couch = d.couch := rfl
@[simp] theorem onSaf_polders (d : Dev) (f : Safety → Safety) : (d.onSaf f).polders = d.polders := rfl
@[simp] theorem onSaf_brch (d : Dev) (f : Safety → Safety) : (d.onSaf f).brch = d.brch := rfl
@[simp] theorem onSaf_ldg (d : Dev) (f : Safety → Safety) : (d.onSaf f).ldg = d.ldg := rfl
@[simp] theorem onSaf_pcie (d : Dev) (f : Safety → Safety) : (d.onSaf f).pcie = d.pcie := rfl
@[simp] theorem onSaf_dike (d : Dev) (f : Safety → Safety) : (d.onSaf f).dike = d.dike := rfl
@[simp] theorem onSaf_berm (d : Dev) (f : Safety → Safety) : (d.onSaf f).berm = d.berm := rfl
@[simp] theorem onSaf_saf (d : Dev) (f : Safety → Safety) : (d.onSaf f).saf = f d.saf := rfl
@[simp] theorem onSaf_mgmt (d : Dev) (f : Safety → Safety) : (d.onSaf f).mgmt = d.mgmt := rfl
@[simp] theorem onSaf_fic (d : Dev) (f : Safety → Safety) : (d.onSaf f).fic = d.fic := rfl
@[simp] theorem onSaf_key (d : Dev) (f : Safety → Safety) : (d.onSaf f).key = d.key := rfl
@[simp] theorem onSaf_races (d : Dev) (f : Safety → Safety) : (d.onSaf f).races = d.races := rfl
@[simp] theorem onSaf_vat (d : Dev) (f : Safety → Safety) : (d.onSaf f).vat = d.vat := rfl
@[simp] theorem onSaf_spi (d : Dev) (f : Safety → Safety) : (d.onSaf f).spi = d.spi := rfl
@[simp] theorem onSaf_bist (d : Dev) (f : Safety → Safety) : (d.onSaf f).bist = d.bist := rfl
@[simp] theorem onSaf_pwr (d : Dev) (f : Safety → Safety) : (d.onSaf f).pwr = d.pwr := rfl
@[simp] theorem onSaf_get (d : Dev) (f : Safety → Safety) (g : Fld) : (d.onSaf f).get g = d.get g := rfl

/-! ### `onMgmt` -/

@[simp] theorem onMgmt_regs (d : Dev) (f : Mgmt → Mgmt) : (d.onMgmt f).regs = d.regs := rfl
@[simp] theorem onMgmt_shadow (d : Dev) (f : Mgmt → Mgmt) : (d.onMgmt f).shadow = d.shadow := rfl
@[simp] theorem onMgmt_now (d : Dev) (f : Mgmt → Mgmt) : (d.onMgmt f).now = d.now := rfl
@[simp] theorem onMgmt_free (d : Dev) (f : Mgmt → Mgmt) : (d.onMgmt f).free = d.free := rfl
@[simp] theorem onMgmt_out (d : Dev) (f : Mgmt → Mgmt) : (d.onMgmt f).out = d.out := rfl
@[simp] theorem onMgmt_mode (d : Dev) (f : Mgmt → Mgmt) : (d.onMgmt f).mode = d.mode := rfl
@[simp] theorem onMgmt_tide (d : Dev) (f : Mgmt → Mgmt) : (d.onMgmt f).tide = d.tide := rfl
@[simp] theorem onMgmt_lanes (d : Dev) (f : Mgmt → Mgmt) : (d.onMgmt f).lanes = d.lanes := rfl
@[simp] theorem onMgmt_cells (d : Dev) (f : Mgmt → Mgmt) : (d.onMgmt f).cells = d.cells := rfl
@[simp] theorem onMgmt_survey (d : Dev) (f : Mgmt → Mgmt) : (d.onMgmt f).survey = d.survey := rfl
@[simp] theorem onMgmt_slu (d : Dev) (f : Mgmt → Mgmt) : (d.onMgmt f).slu = d.slu := rfl
@[simp] theorem onMgmt_couch (d : Dev) (f : Mgmt → Mgmt) : (d.onMgmt f).couch = d.couch := rfl
@[simp] theorem onMgmt_polders (d : Dev) (f : Mgmt → Mgmt) : (d.onMgmt f).polders = d.polders := rfl
@[simp] theorem onMgmt_brch (d : Dev) (f : Mgmt → Mgmt) : (d.onMgmt f).brch = d.brch := rfl
@[simp] theorem onMgmt_ldg (d : Dev) (f : Mgmt → Mgmt) : (d.onMgmt f).ldg = d.ldg := rfl
@[simp] theorem onMgmt_pcie (d : Dev) (f : Mgmt → Mgmt) : (d.onMgmt f).pcie = d.pcie := rfl
@[simp] theorem onMgmt_dike (d : Dev) (f : Mgmt → Mgmt) : (d.onMgmt f).dike = d.dike := rfl
@[simp] theorem onMgmt_berm (d : Dev) (f : Mgmt → Mgmt) : (d.onMgmt f).berm = d.berm := rfl
@[simp] theorem onMgmt_saf (d : Dev) (f : Mgmt → Mgmt) : (d.onMgmt f).saf = d.saf := rfl
@[simp] theorem onMgmt_mgmt (d : Dev) (f : Mgmt → Mgmt) : (d.onMgmt f).mgmt = f d.mgmt := rfl
@[simp] theorem onMgmt_fic (d : Dev) (f : Mgmt → Mgmt) : (d.onMgmt f).fic = d.fic := rfl
@[simp] theorem onMgmt_key (d : Dev) (f : Mgmt → Mgmt) : (d.onMgmt f).key = d.key := rfl
@[simp] theorem onMgmt_races (d : Dev) (f : Mgmt → Mgmt) : (d.onMgmt f).races = d.races := rfl
@[simp] theorem onMgmt_vat (d : Dev) (f : Mgmt → Mgmt) : (d.onMgmt f).vat = d.vat := rfl
@[simp] theorem onMgmt_spi (d : Dev) (f : Mgmt → Mgmt) : (d.onMgmt f).spi = d.spi := rfl
@[simp] theorem onMgmt_bist (d : Dev) (f : Mgmt → Mgmt) : (d.onMgmt f).bist = d.bist := rfl
@[simp] theorem onMgmt_pwr (d : Dev) (f : Mgmt → Mgmt) : (d.onMgmt f).pwr = d.pwr := rfl
@[simp] theorem onMgmt_get (d : Dev) (f : Mgmt → Mgmt) (g : Fld) : (d.onMgmt f).get g = d.get g := rfl

/-! ### `onFic` -/

@[simp] theorem onFic_regs (d : Dev) (f : Fic → Fic) : (d.onFic f).regs = d.regs := rfl
@[simp] theorem onFic_shadow (d : Dev) (f : Fic → Fic) : (d.onFic f).shadow = d.shadow := rfl
@[simp] theorem onFic_now (d : Dev) (f : Fic → Fic) : (d.onFic f).now = d.now := rfl
@[simp] theorem onFic_free (d : Dev) (f : Fic → Fic) : (d.onFic f).free = d.free := rfl
@[simp] theorem onFic_out (d : Dev) (f : Fic → Fic) : (d.onFic f).out = d.out := rfl
@[simp] theorem onFic_mode (d : Dev) (f : Fic → Fic) : (d.onFic f).mode = d.mode := rfl
@[simp] theorem onFic_tide (d : Dev) (f : Fic → Fic) : (d.onFic f).tide = d.tide := rfl
@[simp] theorem onFic_lanes (d : Dev) (f : Fic → Fic) : (d.onFic f).lanes = d.lanes := rfl
@[simp] theorem onFic_cells (d : Dev) (f : Fic → Fic) : (d.onFic f).cells = d.cells := rfl
@[simp] theorem onFic_survey (d : Dev) (f : Fic → Fic) : (d.onFic f).survey = d.survey := rfl
@[simp] theorem onFic_slu (d : Dev) (f : Fic → Fic) : (d.onFic f).slu = d.slu := rfl
@[simp] theorem onFic_couch (d : Dev) (f : Fic → Fic) : (d.onFic f).couch = d.couch := rfl
@[simp] theorem onFic_polders (d : Dev) (f : Fic → Fic) : (d.onFic f).polders = d.polders := rfl
@[simp] theorem onFic_brch (d : Dev) (f : Fic → Fic) : (d.onFic f).brch = d.brch := rfl
@[simp] theorem onFic_ldg (d : Dev) (f : Fic → Fic) : (d.onFic f).ldg = d.ldg := rfl
@[simp] theorem onFic_pcie (d : Dev) (f : Fic → Fic) : (d.onFic f).pcie = d.pcie := rfl
@[simp] theorem onFic_dike (d : Dev) (f : Fic → Fic) : (d.onFic f).dike = d.dike := rfl
@[simp] theorem onFic_berm (d : Dev) (f : Fic → Fic) : (d.onFic f).berm = d.berm := rfl
@[simp] theorem onFic_saf (d : Dev) (f : Fic → Fic) : (d.onFic f).saf = d.saf := rfl
@[simp] theorem onFic_mgmt (d : Dev) (f : Fic → Fic) : (d.onFic f).mgmt = d.mgmt := rfl
@[simp] theorem onFic_fic (d : Dev) (f : Fic → Fic) : (d.onFic f).fic = f d.fic := rfl
@[simp] theorem onFic_key (d : Dev) (f : Fic → Fic) : (d.onFic f).key = d.key := rfl
@[simp] theorem onFic_races (d : Dev) (f : Fic → Fic) : (d.onFic f).races = d.races := rfl
@[simp] theorem onFic_vat (d : Dev) (f : Fic → Fic) : (d.onFic f).vat = d.vat := rfl
@[simp] theorem onFic_spi (d : Dev) (f : Fic → Fic) : (d.onFic f).spi = d.spi := rfl
@[simp] theorem onFic_bist (d : Dev) (f : Fic → Fic) : (d.onFic f).bist = d.bist := rfl
@[simp] theorem onFic_pwr (d : Dev) (f : Fic → Fic) : (d.onFic f).pwr = d.pwr := rfl
@[simp] theorem onFic_get (d : Dev) (f : Fic → Fic) (g : Fld) : (d.onFic f).get g = d.get g := rfl

/-! ### `onBist` -/

@[simp] theorem onBist_regs (d : Dev) (f : Bist → Bist) : (d.onBist f).regs = d.regs := rfl
@[simp] theorem onBist_shadow (d : Dev) (f : Bist → Bist) : (d.onBist f).shadow = d.shadow := rfl
@[simp] theorem onBist_now (d : Dev) (f : Bist → Bist) : (d.onBist f).now = d.now := rfl
@[simp] theorem onBist_free (d : Dev) (f : Bist → Bist) : (d.onBist f).free = d.free := rfl
@[simp] theorem onBist_out (d : Dev) (f : Bist → Bist) : (d.onBist f).out = d.out := rfl
@[simp] theorem onBist_mode (d : Dev) (f : Bist → Bist) : (d.onBist f).mode = d.mode := rfl
@[simp] theorem onBist_tide (d : Dev) (f : Bist → Bist) : (d.onBist f).tide = d.tide := rfl
@[simp] theorem onBist_lanes (d : Dev) (f : Bist → Bist) : (d.onBist f).lanes = d.lanes := rfl
@[simp] theorem onBist_cells (d : Dev) (f : Bist → Bist) : (d.onBist f).cells = d.cells := rfl
@[simp] theorem onBist_survey (d : Dev) (f : Bist → Bist) : (d.onBist f).survey = d.survey := rfl
@[simp] theorem onBist_slu (d : Dev) (f : Bist → Bist) : (d.onBist f).slu = d.slu := rfl
@[simp] theorem onBist_couch (d : Dev) (f : Bist → Bist) : (d.onBist f).couch = d.couch := rfl
@[simp] theorem onBist_polders (d : Dev) (f : Bist → Bist) : (d.onBist f).polders = d.polders := rfl
@[simp] theorem onBist_brch (d : Dev) (f : Bist → Bist) : (d.onBist f).brch = d.brch := rfl
@[simp] theorem onBist_ldg (d : Dev) (f : Bist → Bist) : (d.onBist f).ldg = d.ldg := rfl
@[simp] theorem onBist_pcie (d : Dev) (f : Bist → Bist) : (d.onBist f).pcie = d.pcie := rfl
@[simp] theorem onBist_dike (d : Dev) (f : Bist → Bist) : (d.onBist f).dike = d.dike := rfl
@[simp] theorem onBist_berm (d : Dev) (f : Bist → Bist) : (d.onBist f).berm = d.berm := rfl
@[simp] theorem onBist_saf (d : Dev) (f : Bist → Bist) : (d.onBist f).saf = d.saf := rfl
@[simp] theorem onBist_mgmt (d : Dev) (f : Bist → Bist) : (d.onBist f).mgmt = d.mgmt := rfl
@[simp] theorem onBist_fic (d : Dev) (f : Bist → Bist) : (d.onBist f).fic = d.fic := rfl
@[simp] theorem onBist_key (d : Dev) (f : Bist → Bist) : (d.onBist f).key = d.key := rfl
@[simp] theorem onBist_races (d : Dev) (f : Bist → Bist) : (d.onBist f).races = d.races := rfl
@[simp] theorem onBist_vat (d : Dev) (f : Bist → Bist) : (d.onBist f).vat = d.vat := rfl
@[simp] theorem onBist_spi (d : Dev) (f : Bist → Bist) : (d.onBist f).spi = d.spi := rfl
@[simp] theorem onBist_bist (d : Dev) (f : Bist → Bist) : (d.onBist f).bist = f d.bist := rfl
@[simp] theorem onBist_pwr (d : Dev) (f : Bist → Bist) : (d.onBist f).pwr = d.pwr := rfl
@[simp] theorem onBist_get (d : Dev) (f : Bist → Bist) (g : Fld) : (d.onBist f).get g = d.get g := rfl

end Sys2Proof.Machine.Dev
end

