-- ==== Sys2Proof/Laws/Table.lean ====
section
/-! SUPPORT. The laws of the sparse tables: read after write, and the canonical form that every write keeps.  The register
file and every memory of the block are such tables. -/

namespace Sys2Proof.Machine.Table

variable {α : Type}

theorem get_erase_same (d : α) (m : Table α) (x : Nat) : get d (erase m x) x = d := by
  induction m with
  | nil => rfl
  | cons e m ih => by_cases h : x = e.1 <;> simp [erase, get, h] <;> simpa [h] using ih

theorem get_erase_ne (d : α) (m : Table α) {x y : Nat} (h : y ≠ x) : get d (erase m x) y = get d m y := by
  induction m with
  | nil => rfl
  | cons e m ih =>
    by_cases hx : x = e.1
    · have hy : y ≠ e.1 := hx ▸ h
      simpa [erase, get, hx, hy] using hx ▸ ih
    · by_cases hy : y = e.1 <;> simp [erase, get, hx, hy, ih]

theorem get_insert_erase (d : α) (m : Table α) (x y : Nat) (v : α) :
    get d (insert (erase m x) x v) y = if y = x then v else get d m y := by
  induction m with
  | nil => simp [erase, insert, get]
  | cons e m ih =>
    by_cases hx : x = e.1
    · simp only [erase, hx, if_true, get]
      rw [hx] at ih; rw [ih]; by_cases hy : y = e.1 <;> simp [hy]
    · simp only [erase, hx, if_false, insert]
      by_cases hl : x < e.1
      · simp only [hl, if_true, get]
        by_cases hy : y = x
        · simp [hy]
        · simp [hy, get_erase_ne d m hy]
      · simp only [hl, if_false, get, ih]
        by_cases hy : y = e.1
        · have : y ≠ x := by omega
          simp [hy, Ne.symm hx]
        · simp [hy]

/-- A read after a write: the value at the key written, and the earlier value at every other key. -/
theorem get_put [DecidableEq α] (d : α) (m : Table α) (x y : Nat) (v : α) :
    get d (put d m x v) y = if y = x then v else get d m y := by
  unfold put
  split
  · next h =>
    by_cases hy : y = x
    · simp [hy, get_erase_same, h]
    · simp [hy, get_erase_ne d m hy]
  · exact get_insert_erase d m x y v

@[simp] theorem get_put_same [DecidableEq α] (d : α) (m : Table α) (x : Nat) (v : α) : get d (put d m x v) x = v := by
  simp [get_put]

theorem get_put_ne [DecidableEq α] (d : α) (m : Table α) {x y : Nat} (v : α) (h : y ≠ x) :
    get d (put d m x v) y = get d m y := by
  simp [get_put, h]

/-! ### The canonical form -/

theorem risesAbove_mono {b c : Nat} {m : Table α} (h : b ≤ c) (hm : risesAbove c m = true) : risesAbove b m = true := by
  cases m with
  | nil => rfl
  | cons e m => simp [risesAbove] at hm ⊢; exact ⟨by omega, hm.2⟩

theorem risesAbove_erase {b : Nat} {m : Table α} (x : Nat) (h : risesAbove b m = true) :
    risesAbove b (erase m x) = true := by
  induction m generalizing b with
  | nil => rfl
  | cons e m ih =>
    simp [risesAbove] at h
    by_cases hx : x = e.1
    · simp only [erase, hx, if_true]
      exact hx ▸ ih (risesAbove_mono (by omega) h.2)
    · simp [erase, hx, risesAbove, h.1, ih h.2]

theorem risesAbove_insert {b x : Nat} {m : Table α} (v : α) (hb : b < x) (hx : ∀ e ∈ m, e.1 ≠ x)
    (h : risesAbove b m = true) : risesAbove b (insert m x v) = true := by
  induction m generalizing b with
  | nil => simp [insert, risesAbove, hb]
  | cons e m ih =>
    simp [risesAbove] at h
    have hne : e.1 ≠ x := hx e (by simp)
    by_cases hl : x < e.1
    · simp [insert, hl, risesAbove, hb, h.2]
    · simp only [insert, hl, if_false, risesAbove]
      simp [h.1, ih (by omega) (fun e' he' => hx e' (by simp [he'])) h.2]

theorem mem_erase {m : Table α} {x : Nat} {e : Nat × α} : e ∈ erase m x ↔ e ∈ m ∧ e.1 ≠ x := by
  induction m with
  | nil => simp [erase]
  | cons a m ih =>
    by_cases h : x = a.1
    · simp only [erase, h, if_true]
      rw [h] at ih
      simp only [ih, List.mem_cons]
      constructor
      · rintro ⟨h1, h2⟩; exact ⟨.inr h1, h2⟩
      · rintro ⟨rfl | h1, h2⟩
        · exact absurd rfl h2
        · exact ⟨h1, h2⟩
    · simp only [erase, h, if_false, List.mem_cons, ih]
      constructor
      · rintro (rfl | ⟨h1, h2⟩)
        · exact ⟨.inl rfl, Ne.symm h⟩
        · exact ⟨.inr h1, h2⟩
      · rintro ⟨rfl | h1, h2⟩
        · exact .inl rfl
        · exact .inr ⟨h1, h2⟩

theorem mem_insert {m : Table α} {x : Nat} {v : α} {e : Nat × α} : e ∈ insert m x v ↔ e = (x, v) ∨ e ∈ m := by
  induction m with
  | nil => simp [insert]
  | cons a m ih =>
    by_cases h : x < a.1
    · simp [insert, h]
    · simp only [insert, h, if_false, List.mem_cons, ih]
      exact or_left_comm

/-- The keys of a table rise. -/
def Rises (m : Table α) : Prop :=
  match m with
  | [] => True
  | (k, _) :: m' => risesAbove k m' = true

theorem rises_of_above {b : Nat} {m : Table α} (h : risesAbove b m = true) : Rises m := by
  cases m with
  | nil => trivial
  | cons e m => simp [risesAbove] at h; exact h.2

theorem rises_erase {m : Table α} (x : Nat) (h : Rises m) : Rises (erase m x) := by
  cases m with
  | nil => trivial
  | cons e m =>
    by_cases hx : x = e.1
    · simp only [erase, hx, if_true]
      exact rises_of_above (risesAbove_erase (m := m) e.1 h)
    · simp only [erase, hx, if_false, Rises]
      exact risesAbove_erase x h

theorem rises_insert {m : Table α} {x : Nat} (v : α) (hx : ∀ e ∈ m, e.1 ≠ x) (h : Rises m) : Rises (insert m x v) := by
  cases m with
  | nil => trivial
  | cons e m =>
    have hne : e.1 ≠ x := hx e (by simp)
    by_cases hl : x < e.1
    · simp only [insert, hl, if_true, Rises, risesAbove]
      simp; exact h
    · simp only [insert, hl, if_false, Rises]
      exact risesAbove_insert v (by omega) (fun e' he' => hx e' (by simp [he'])) h

theorem wf_iff [DecidableEq α] (d : α) (m : Table α) : wf d m = true ↔ Rises m ∧ ∀ e ∈ m, e.2 ≠ d := by
  cases m <;> simp [wf, Rises]

/-- A write keeps the canonical form. -/
theorem wf_put [DecidableEq α] (d : α) {m : Table α} (x : Nat) (v : α) (h : wf d m = true) : wf d (put d m x v) = true := by
  rw [wf_iff] at h ⊢
  obtain ⟨hr, hd⟩ := h
  have hE : ∀ e ∈ erase m x, e.2 ≠ d := fun e he => hd e (mem_erase.mp he).1
  unfold put
  split
  · exact ⟨rises_erase x hr, hE⟩
  · next hv =>
    refine ⟨rises_insert v (fun e he => (mem_erase.mp he).2) (rises_erase x hr), fun e he => ?_⟩
    rcases mem_insert.mp he with rfl | he
    · exact hv
    · exact hE e he

theorem wf_nil [DecidableEq α] (d : α) : wf d ([] : Table α) = true := rfl

end Sys2Proof.Machine.Table

namespace Sys2Proof.Machine.Dev

open Sys2Proof.Machine

/-- Storing bytes keeps the canonical form of a byte memory. -/
theorem wf_poke {m : Table Byte} (a : Nat) (bs : List Byte) (h : Table.wf 0 m = true) : Table.wf 0 (poke m a bs) = true := by
  induction bs generalizing m a with
  | nil => exact h
  | cons b bs ih => exact ih (a + 1) (Table.wf_put 0 a b h)

/-- Bytes outside a store read as before. -/
theorem get_poke_ne (m : Table Byte) (a : Nat) (bs : List Byte) {x : Nat} (h : x < a ∨ a + bs.length ≤ x) :
    Table.get 0 (poke m a bs) x = Table.get 0 m x := by
  induction bs generalizing m a with
  | nil => rfl
  | cons b bs ih =>
    simp only [List.length_cons] at h
    rw [poke, ih _ _ (by omega), Table.get_put_ne _ _ _ (by omega)]

end Sys2Proof.Machine.Dev
end

