-- ==== Sys2Proof/Laws/Regs.lean ====
section
/-! SUPPORT. The laws of the register file: what a field reads after a write of any field, and that writes keep the
canonical form. -/

namespace Sys2Proof.Machine.Dev

theorem get_put_same (d : Dev) (f : Fld) (v : Nat) : (d.put f v).get f = v % 2 ^ f.w := by
  simp [get, Nat.xor_assoc]

theorem get_put_ne (d : Dev) {f g : Fld} (v : Nat) (h : g.key ≠ f.key) : (d.put f v).get g = d.get g := by
  simp [get, Table.get_put_ne _ _ _ h]

/-- Every field after a write of one: fields with the same place in the register file are the same register bits. -/
theorem get_put (d : Dev) (f g : Fld) (v : Nat) :
    (d.put f v).get g = if g.key = f.key then ((v % 2 ^ f.w) ^^^ f.rst) ^^^ g.rst else d.get g := by
  by_cases h : g.key = f.key
  · simp [get, h]
  · simp [h, get_put_ne d v h]

/-- The frame of a write, with the reset value that the written field carries. -/
theorem get_put_fld (d : Dev) (f g : Fld) (v : Nat) (h : g.key = f.key → g = f) :
    (d.put f v).get g = if g = f then v % 2 ^ f.w else d.get g := by
  by_cases e : g = f
  · subst e; simp [get_put_same]
  · simp [e, get_put_ne d v fun k => e (h k)]

theorem flag_set (d : Dev) (f : Fld) (h : 0 < f.w) : (d.set f).flag f = true := by
  have : (1 : Nat) % 2 ^ f.w = 1 := Nat.mod_eq_of_lt (Nat.one_lt_two_pow (by omega))
  simp [flag, set, get_put_same, this]

@[simp] theorem flag_clr (d : Dev) (f : Fld) : (d.clr f).flag f = false := by
  simp [flag, clr, get_put_same]

@[simp] theorem get_clr_same (d : Dev) (f : Fld) : (d.clr f).get f = 0 := by simp [clr, get_put_same]

theorem flag_putB (d : Dev) (f : Fld) (b : Bool) (h : 0 < f.w) : (d.putB f b).flag f = b := by
  have : (1 : Nat) % 2 ^ f.w = 1 := Nat.mod_eq_of_lt (Nat.one_lt_two_pow (by omega))
  cases b <;> simp [flag, putB, get_put_same, this]

theorem get_set_ne (d : Dev) {f g : Fld} (h : g.key ≠ f.key) : (d.set f).get g = d.get g := get_put_ne d 1 h
theorem get_clr_ne (d : Dev) {f g : Fld} (h : g.key ≠ f.key) : (d.clr f).get g = d.get g := get_put_ne d 0 h
theorem get_putB_ne (d : Dev) {f g : Fld} (b : Bool) (h : g.key ≠ f.key) : (d.putB f b).get g = d.get g :=
  get_put_ne d b.toNat h

theorem flag_put_ne (d : Dev) {f g : Fld} (v : Nat) (h : g.key ≠ f.key) : (d.put f v).flag g = d.flag g := by
  simp [flag, get_put_ne d v h]
theorem flag_set_ne (d : Dev) {f g : Fld} (h : g.key ≠ f.key) : (d.set f).flag g = d.flag g := flag_put_ne d 1 h
theorem flag_clr_ne (d : Dev) {f g : Fld} (h : g.key ≠ f.key) : (d.clr f).flag g = d.flag g := flag_put_ne d 0 h
theorem flag_putB_ne (d : Dev) {f g : Fld} (b : Bool) (h : g.key ≠ f.key) : (d.putB f b).flag g = d.flag g :=
  flag_put_ne d b.toNat h

/-- A write keeps the register file canonical. -/
theorem wf_put (d : Dev) (f : Fld) (v : Nat) (h : Table.wf 0 d.regs = true) : Table.wf 0 (d.put f v).regs = true :=
  Table.wf_put 0 _ _ h

@[simp] theorem add_eq (d : Dev) (f : Fld) (n : Nat) : d.add f n = d.put f (min (d.get f + n) (2 ^ f.w - 1)) := rfl

theorem get_add_same (d : Dev) (f : Fld) (n : Nat) : (d.add f n).get f = min (d.get f + n) (2 ^ f.w - 1) := by
  have : 0 < 2 ^ f.w := Nat.two_pow_pos f.w
  rw [add_eq, get_put_same, Nat.mod_eq_of_lt (by omega)]

theorem get_add_ne (d : Dev) {f g : Fld} (n : Nat) (h : g.key ≠ f.key) : (d.add f n).get g = d.get g := get_put_ne d _ h

end Sys2Proof.Machine.Dev
end

