-- ==== Sys2Proof/Laws/After.lean ====
section
/-! SUPPORT. What every command does beside its effect: the state after it, imposed modes, messages, pins. -/

namespace Sys2Proof.Machine

open Reg

namespace Dev

/-! ### Imposed modes -/

theorem settleStep_of_none {d : Dev} (h : d.mode.due = 0) (h' : d.mode.dueSafe = false) : d.settleStep = d := by
  simp [settleStep, h, h']

/-- With nothing due, nothing is imposed. -/
theorem settle_of_none {d : Dev} (h : d.mode.due = 0) (h' : d.mode.dueSafe = false) : d.settle = d := by
  have e : d.onMode (fun x => { x with due := 0, dueSafe := false }) = d := by
    simp only [onMode]
    rw [show { d.mode with due := 0, dueSafe := false } = d.mode from by rw [← h, ← h']]
  unfold settle
  rw [settleStep_of_none h h', settleStep_of_none h h', settleStep_of_none h h']
  simpa using e

/-- After a command nothing is due. -/
theorem settle_none (d : Dev) : d.settle.mode.due = 0 ∧ d.settle.mode.dueSafe = false := ⟨rfl, rfl⟩

/-! ### Pins -/

theorem get_showPins_ne (d : Dev) {g : Fld} (h : g.key ≠ EVT_STATUS_EVT_N.key) (h' : g.key ≠ EVT_STATUS_SAFE_N.key) :
    d.showPins.get g = d.get g := by
  rw [showPins, get_putB_ne _ _ h', get_putB_ne _ _ h]

@[simp] theorem get_oneMessage (a b : Dev) (g : Fld) : (oneMessage a b).get g = b.get g := rfl

theorem awake_of_pwr {a b : Dev} (h : a.pwr = b.pwr) : a.awake = b.awake := by simp [awake, h]

end Dev

/-! ### The state after a command -/

@[simp] theorem State.after_pending (s : State) (f : Dev → Dev) : (s.after f).pending = s.pending := rfl

/-- A field other than the pins after a command. -/
theorem State.get_after (s : State) (f : Dev → Dev) {g : Fld} (h : g.key ≠ EVT_STATUS_EVT_N.key)
    (h' : g.key ≠ EVT_STATUS_SAFE_N.key) : (s.after f).dev.get g = (f s.dev).settle.get g := by
  rw [State.after, Dev.get_showPins_ne _ h h', Dev.get_oneMessage]

/-- A command whose effect imposes nothing. -/
theorem State.get_after_quiet (s : State) (f : Dev → Dev) {g : Fld} (hd : (f s.dev).mode.due = 0)
    (hs : (f s.dev).mode.dueSafe = false) (h : g.key ≠ EVT_STATUS_EVT_N.key)
    (h' : g.key ≠ EVT_STATUS_SAFE_N.key) : (s.after f).dev.get g = (f s.dev).get g := by
  rw [State.get_after s f h h', Dev.settle_of_none hd hs]

@[simp] theorem State.next_awake {s : State} {f : Dev → Dev} (h : s.dev.awake = true) : s.next f = .next (s.after f) := by
  simp [State.next, h]

theorem State.next_asleep {s : State} {f : Dev → Dev} (h : s.dev.awake = false) : s.next f = .next s := by
  simp [State.next, h]

/-- Everything that `next` can answer. -/
theorem State.next_cases {s t : State} {f : Dev → Dev} (h : s.next f = .next t) :
    (s.dev.awake = true ∧ t = s.after f) ∨ (s.dev.awake = false ∧ t = s) := by
  unfold State.next at h
  cases e : s.dev.awake <;> simp [e] at h <;> simp [h]

theorem State.nextAlways_cases {s t : State} {f : Dev → Dev} (h : s.nextAlways f = .next t) : t = s.after f := by
  simpa [State.nextAlways] using h.symm

end Sys2Proof.Machine
end

