-- ==== Sys2Proof/Laws/Memory.lean ====
section
/-! SUPPORT. The laws of the block's memories: every operation on a byte memory and on the flash keeps its canonical form;
what a store leaves alone stands beside `Dev.poke` in Laws/Table. -/

namespace Sys2Proof.Machine

theorem Memory.wf_nil : Memory.wf [] = true := rfl

/-- Stores of the ledger, the polders and LOAD. -/
theorem Memory.wf_poke {m : Table Byte} (a : Nat) (bs : List Byte) (h : Memory.wf m = true) :
    Memory.wf (Dev.poke m a bs) = true :=
  Dev.wf_poke a bs h

/-- A record that goes round in the vat (R305). -/
theorem Memory.wf_ringPoke {m : Table Byte} (a : Nat) (bs : List Byte) (h : Memory.wf m = true) :
    Memory.wf (Dev.ringPoke m a bs) = true := by
  induction bs generalizing m a with
  | nil => exact h
  | cons b bs ih => exact ih (a + 1) (Table.wf_put 0 _ b h)

theorem Table.risesAbove_filter {α : Type} (p : Nat × α → Bool) {m : Table α} {b : Nat} (h : risesAbove b m = true) :
    risesAbove b (m.filter p) = true := by
  induction m generalizing b with
  | nil => rfl
  | cons e m ih =>
    simp [risesAbove] at h
    by_cases hp : p e = true
    · simp [hp, risesAbove, h.1, ih h.2]
    · simp only [List.filter_cons, hp]
      exact risesAbove_mono (by omega) (ih h.2)

theorem Table.rises_filter {α : Type} (p : Nat × α → Bool) {m : Table α} (h : Rises m) : Rises (m.filter p) := by
  cases m with
  | nil => trivial
  | cons e m =>
    by_cases hp : p e = true
    · simp only [List.filter_cons, hp, if_true, Rises]
      exact risesAbove_filter p h
    · simp only [List.filter_cons, hp]
      exact rises_of_above (risesAbove_filter p h)

namespace Dev

/-- Pages of the flash (R504): the canonical form, in which an erased page is not listed. -/
def FlashWf (d : Dev) : Prop := Table.wf blankPage d.mgmt.flash = true

theorem flashWf_setPage (p : Nat) (bs : List Byte) {d : Dev} (h : FlashWf d) : FlashWf (setPage p bs d) :=
  Table.wf_put blankPage p bs h

theorem flashWf_flashErase (a n : Nat) {d : Dev} (h : FlashWf d) : FlashWf (flashErase a n d) := by
  have h' := (Table.wf_iff blankPage d.mgmt.flash).mp h
  refine (Table.wf_iff blankPage _).mpr ⟨Table.rises_filter _ h'.1, fun e he => ?_⟩
  exact h'.2 e (List.mem_filter.mp he).1

theorem flashWf_each (l : List Nat) (f : Nat → Dev → Dev) (hf : ∀ i d, FlashWf d → FlashWf (f i d)) {d : Dev}
    (h : FlashWf d) : FlashWf (each l f d) := by
  unfold each
  induction l generalizing d with
  | nil => exact h
  | cons i l ih => exact ih (hf i d h)

theorem flashWf_flashPut (a : Nat) (bs : List Byte) {d : Dev} (h : FlashWf d) : FlashWf (flashPut a bs d) :=
  flashWf_each _ _ (fun _ _ h => flashWf_setPage _ _ h) h

end Dev

end Sys2Proof.Machine
end

