-- ==== Sys2Proof/Laws/Ops.lean ====
section
/-! SUPPORT. What each shared operation can do: a message, an event, a raise of the collector, a pin condition; and the
state after a command whose effect imposes nothing. -/

namespace Sys2Proof.Machine

open Reg

/-! ### Messages -/

/-- Messages that differ stay as they are. -/
theorem lastMessages_single (o : Out) : lastMessages [o] = [o] := by cases o <;> rfl

namespace Dev

/-- What has been sent stays when nothing is sent. -/
theorem oneMessage_of_out {a b : Dev} (h : b.out = a.out) : oneMessage a b = b := by
  unfold oneMessage
  rw [h]
  simp only [List.take_length, List.drop_length, lastMessages, List.append_nil]
  rw [← h]

/-- One item sent goes out. -/
theorem oneMessage_of_one {a b : Dev} (o : Out) (h : b.out = a.out ++ [o]) : oneMessage a b = b := by
  unfold oneMessage
  rw [h]
  simp only [List.take_left', List.drop_left', lastMessages_single]
  rw [← h]

/-- At most one item sent. -/
theorem oneMessage_of_le_one {a b : Dev} (h : b.out = a.out ∨ ∃ o, b.out = a.out ++ [o]) : oneMessage a b = b := by
  rcases h with h | ⟨o, h⟩
  · exact oneMessage_of_out h
  · exact oneMessage_of_one o h

/-! ### `send` -/

theorem send_cases (d : Dev) (o : Out) : d.send o = d ∨ d.send o = { d with out := d.out ++ [o] } := by
  unfold send; split
  · exact .inl rfl
  · exact .inr rfl

@[simp] theorem send_mode (d : Dev) (o : Out) : (d.send o).mode = d.mode := by unfold send; split <;> rfl
@[simp] theorem send_regs (d : Dev) (o : Out) : (d.send o).regs = d.regs := by unfold send; split <;> rfl
@[simp] theorem send_tide (d : Dev) (o : Out) : (d.send o).tide = d.tide := by unfold send; split <;> rfl
@[simp] theorem send_now (d : Dev) (o : Out) : (d.send o).now = d.now := by unfold send; split <;> rfl
@[simp] theorem send_get (d : Dev) (o : Out) (f : Fld) : (d.send o).get f = d.get f := by simp [get]

theorem send_out (d : Dev) (o : Out) : (d.send o).out = d.out ∨ ∃ x, (d.send o).out = d.out ++ [x] := by
  rcases send_cases d o with h | h
  · exact .inl (by rw [h])
  · exact .inr ⟨o, by rw [h]⟩

/-! ### `vatTrigger`, `message` and `event` -/

/-- A trigger touches the vat alone. -/
theorem vatTrigger_frame (d : Dev) :
    d.vatTrigger = d ∨ d.vatTrigger =
      { d.put RACE_VAT_STAT_STATE 2 with vat := { d.vat with trig := true, after := 0, since := 0 } } := by
  unfold vatTrigger; split
  · exact .inr rfl
  · exact .inl rfl

@[simp] theorem vatTrigger_out (d : Dev) : d.vatTrigger.out = d.out := by
  rcases vatTrigger_frame d with h | h <;> rw [h] <;> rfl
@[simp] theorem vatTrigger_mode (d : Dev) : d.vatTrigger.mode = d.mode := by
  rcases vatTrigger_frame d with h | h <;> rw [h] <;> rfl

/-- A message goes out, or its pending bit is set. -/
theorem message_out (d : Dev) (v : Nat) : (d.message v).out = d.out ∨ ∃ x, (d.message v).out = d.out ++ [x] := by
  unfold message; split
  · exact .inl rfl
  · exact send_out d _

@[simp] theorem message_mode (d : Dev) (v : Nat) : (d.message v).mode = d.mode := by
  unfold message; split <;> simp
@[simp] theorem message_regs (d : Dev) (v : Nat) : (d.message v).regs = d.regs := by
  unfold message; split <;> simp

/-- An event sends at most one message. -/
theorem event_out (d : Dev) (e : Nat) : (d.event e).out = d.out ∨ ∃ x, (d.event e).out = d.out ++ [x] := by
  unfold event
  dsimp only
  have k (x : Dev) (h : x.out = d.out) :
      (if x.flag (EVT_PEND e) then x else if x.flag (EVT_EN e) then (x.set (EVT_PEND e)).message (x.get (EVT_MAP e))
        else x.set (EVT_PEND e)).out = d.out ∨
      ∃ y, (if x.flag (EVT_PEND e) then x else if x.flag (EVT_EN e) then (x.set (EVT_PEND e)).message (x.get (EVT_MAP e))
        else x.set (EVT_PEND e)).out = d.out ++ [y] := by
    split
    · exact .inl h
    · split
      · have := message_out (x.set (EVT_PEND e)) (x.get (EVT_MAP e))
        rwa [show (x.set (EVT_PEND e)).out = d.out from h] at this
      · exact .inl h
  split
  · exact k _ (vatTrigger_out d)
  · exact k _ rfl

/-- An event imposes nothing. -/
@[simp] theorem event_mode (d : Dev) (e : Nat) : (d.event e).mode = d.mode := by
  unfold event
  dsimp only
  split <;> split
  all_goals first
    | exact vatTrigger_mode d
    | rfl
    | (split <;> simp [set])

/-- An event source that is raised is pending. -/
theorem event_pend (d : Dev) (e : Nat) : (d.event e).flag (EVT_PEND e) = true := by
  unfold event
  dsimp only
  have k (x : Dev) :
      (if x.flag (EVT_PEND e) then x else if x.flag (EVT_EN e) then (x.set (EVT_PEND e)).message (x.get (EVT_MAP e))
        else x.set (EVT_PEND e)).flag (EVT_PEND e) = true := by
    split
    · assumption
    · split
      · simpa [flag, get] using flag_set x (EVT_PEND e) (by show 0 < (EVT_PEND e).w; exact Nat.one_pos)
      · exact flag_set x (EVT_PEND e) (by show 0 < (EVT_PEND e).w; exact Nat.one_pos)
  split <;> exact k _

end Dev

/-! ### The state after a command -/

/-- A command whose effect imposes nothing, and sends at most one item, answers the state that shows it. -/
theorem State.after_shows {s : State} {f : Dev → Dev} {E : Dev} (hf : f s.dev = E) (hd : E.mode.due = 0)
    (hs : E.mode.dueSafe = false) (ho : E.out = s.dev.out ∨ ∃ o, E.out = s.dev.out ++ [o]) : s.after f = s.shows E := by
  unfold State.after State.shows
  rw [hf, Dev.settle_of_none hd hs, Dev.oneMessage_of_le_one ho]

theorem State.next_shows {s : State} {f : Dev → Dev} {E : Dev} (hr : Ready s) (hf : f s.dev = E) (hm : E.mode = s.dev.mode)
    (ho : E.out = s.dev.out ∨ ∃ o, E.out = s.dev.out ++ [o]) : s.next f = .next (s.shows E) := by
  rw [State.next_awake hr.1, State.after_shows hf (by rw [hm]; exact hr.2.1) (by rw [hm]; exact hr.2.2) ho]

theorem State.nextAlways_shows {s : State} {f : Dev → Dev} {E : Dev} (hd : s.dev.mode.due = 0)
    (hs : s.dev.mode.dueSafe = false) (hf : f s.dev = E) (hm : E.mode = s.dev.mode)
    (ho : E.out = s.dev.out ∨ ∃ o, E.out = s.dev.out ++ [o]) : s.nextAlways f = .next (s.shows E) := by
  rw [State.nextAlways, State.after_shows hf (by rw [hm]; exact hd) (by rw [hm]; exact hs) ho]

/-- A command's effect, once what it reached is imposed. -/
theorem State.next_settles {s : State} {f : Dev → Dev} {E : Dev} (hr : Ready s) (hf : f s.dev = E) :
    s.next f = .next (s.settles E) := by
  subst hf; rw [State.next_awake hr.1]; rfl

theorem State.nextAlways_settles {s : State} {f : Dev → Dev} {E : Dev} (hf : f s.dev = E) :
    s.nextAlways f = .next (s.settles E) := by
  subst hf; rfl

end Sys2Proof.Machine
end

