-- ==== Sys2Proof/Tests/Slice0.lean ====
section
/-! SUPPORT. Tests: ill-formed commands, check strings of the spec, single steps on small states, and for every statement
with hypotheses states and operands that meet them, clause by clause. -/

open Sys2Proof Sys2Proof.Machine Sys2Proof.Machine.Reg Sys2Proof.Machine.Dev

namespace Sys2Proof.Tests

set_option maxRecDepth 20000

/-- The state after reset with some register fields changed, and a change to the device. -/
def w (fs : List (Fld × Nat)) (f : Dev → Dev := id) : State :=
  { State.reset with dev := f (fs.foldl (fun d x => d.put x.1 x.2) State.reset.dev) }

/-! ### Ill-formed commands -/

theorem test_wf_no_byte_enabled : (Instr.registerWrite .pcie 0 0 0).wf = false ∧ (Instr.registerWrite .pcie 0 0 1).wf = true := by
  decide
theorem test_wf_overflow_twice : (Instr.reamFrame 0 0 .whole [] [3, 3]).wf = false ∧ (Instr.reamFrame 0 0 .whole [] [3, 4]).wf = true := by
  decide
theorem test_wf_descriptor_length : (Instr.descriptorFetch 0 (List.replicate 31 0) []).wf = false ∧
    (Instr.descriptorFetch 0 (List.replicate 32 0) []).wf = true := by decide
theorem test_wf_fic_j : (Instr.ficJmp 0x010000).wf = false ∧ (Instr.ficJmp 0x00FFFF).wf = true := by decide
theorem test_wf_fic_a : (Instr.ficLdi 0x110000).wf = false ∧ (Instr.ficLdi 0x10FFFF).wf = true := by decide
theorem test_wf_fic_ab : (Instr.ficMov 0x110001).wf = false ∧ (Instr.ficMov 0xFF0000).wf = true := by decide
theorem test_wf_fic_o : (Instr.ficRd 0x13C000).wf = false ∧ (Instr.ficRd 0x13BFFF).wf = true := by decide
theorem test_wf_fic_p : (Instr.ficPoll 0x120000 0).wf = false ∧ (Instr.ficPoll 0x120001 0x3C000).wf = false ∧
    (Instr.ficPoll 0x120001 0x3BFFF).wf = true := by decide
theorem test_no_word_spells_a_command : decodeTableWord 32 0 = none ∧ State.reset.withFetchWord 32 0 = State.reset := by
  decide

/-! ### Witnesses: chapters 1 to 3 -/

def sClk : State := w [] fun d => d.onBrch fun b => { b with clk := 2 ^ 8 + 2 ^ 7, cond := 2 ^ 30 }
def sHoldover : State := w [(TIDE_STATUS_HOLDOVER, 1), (TIDE_STATUS_LOCKSENSE, 1)] fun d =>
  d.onTide fun t => { t with pullBack := true }

theorem witness_clock :
    (Ready (w []) ∧ (w []).dev.flag TIDE_STATUS_LOCKSENSE = false ∧ (w []).dev.flag TIDE_STATUS_HOLDOVER = false) ∧
    (Ready (w [(TIDE_STATUS_LOCKSENSE, 1)]) ∧ (w [(TIDE_STATUS_LOCKSENSE, 1)]).dev.flag TIDE_STATUS_LOCKSENSE = true) ∧
    (w []).dev.inBist 7 = false ∧ (w [(BIST_STATUS_POLDERS, 1)]).dev.inBist 0 = true ∧
    (w [] fun d => d.onBrch fun b => { b with clk := 2 ^ 8 }).dev.brch.clk = 2 ^ 8 ∧
    (w [] fun d => d.onBrch fun b => { b with clk := 2 ^ 9 }).dev.brch.clk = 2 ^ 9 ∧
    (w []).dev.flag TIDE_STATUS_HOLDOVER = false ∧
    (Ready sClk ∧ sClk.dev.inBist 7 = false ∧ sClk.dev.brch.clk = 2 ^ 8 + 2 ^ 7 ∧ sClk.dev.brch.cond.testBit 30 = true) ∧
    (Ready sHoldover ∧ sHoldover.dev.flag TIDE_STATUS_HOLDOVER = true ∧ sHoldover.dev.flag TIDE_STATUS_LOCKSENSE = true ∧
      sHoldover.dev.tide.refLost = false ∧ sHoldover.dev.tide.pullBack = true) := by decide

/-- Context 127 BOUND on lane 143, a deckle running. -/
def sLane (fs : List (Fld × Nat)) (f : Dev → Dev := id) : State :=
  w ([(GLB_MODE_MODE, 5), (CTX_STATE_STATE 127, 3), (CTX_BIND_VALID 127, 1), (CTX_BIND_LANE 127, 143)] ++ fs) fun d =>
    f (d.onTide fun t => { t with bs := [0], p := 1310720000, nextB := some 1310720000 })

theorem witness_bound_lane : Ready (sLane []) ∧ (sLane []).dev.ctxOfLane 143 = some 127 ∧ (sLane []).dev.isBound 127 = true ∧
    (sLane []).dev.laneOf 127 = some 143 ∧ (sLane []).dev.lanesLit = true ∧ (sLane []).dev.running = true ∧
    (sLane []).dev.surveyRuns = true := by decide

def sMaster : State := w [(TIDE_SYNC_ROLE, 1), (TIDE_SYNC_COUNT, 3)] fun d =>
  d.onTide fun t => { t with nextB := some 0, timeCnt := 64, lastPoll := 2, awaiting := some 3 }
def sSlave (n : Nat) : State := w [(TIDE_SYNC_ROLE, 2), (TIDE_SYNC_ID, 3), (TIDE_STATUS_SYNC, 3)] fun d =>
  d.onTide fun t => { t with nextB := some 0, polled := some 3, missRun := n }

def sSlaveFree : State := w [(TIDE_SYNC_ROLE, 2), (TIDE_STATUS_SYNC, 1)]

theorem witness_tide_link :
    ((sLane []).dev.lane 143).markFrom ≤ (sLane []).dev.tide.n ∧ ((sLane []).dev.lane 143).fdAt = none ∧
    ((sLane [] fun d => d.onLane 143 fun x => { x with fdAt := some (0, 5) }).dev.lane 143).fdAt = some (0, 5) ∧
    (w []).dev.ctxOfLane 143 = none ∧ sSlaveFree.dev.get TIDE_STATUS_SYNC = 1 ∧ (∀ c, c < 128 → sSlaveFree.dev.isBound c = false) ∧
    (sLane []).dev.flag PWR_STATUS_OPTOFF = false ∧
    (Ready sMaster ∧ sMaster.dev.master = true ∧ sMaster.dev.tide.nextB.isSome = true ∧ 64 ≤ sMaster.dev.tide.timeCnt ∧
      sMaster.dev.tide.awaiting = some 3) ∧
    (Ready (sSlave 2) ∧ (sSlave 2).dev.slave = true ∧ tideParse 2 8 (tideFrame [2, 3, 0, 0, 0, 0]) = some [2, 3, 0, 0, 0, 0] ∧
      (sSlave 2).dev.get TIDE_SYNC_ID = 3 ∧ (sSlave 2).dev.tide.polled = some 3 ∧ (sSlave 2).dev.tide.missRun < 3) ∧
    tideParse 3 8 (tideFrame [3, 3, 0, 0, 0, 0]) = some [3, 3, 0, 0, 0, 0] ∧
    (Ready (sSlave 3) ∧ 3 ≤ (sSlave 3).dev.tide.missRun ∧ (sSlave 3).dev.get TIDE_STATUS_SYNC = 3) ∧
    tideParse 1 29 (tideFrame (1 :: List.replicate 26 0)) = some (1 :: List.replicate 26 0) ∧
    tideParse 1 29 (List.replicate 29 1) = none := by decide

def sSurvey : State := w [(GLB_MODE_MODE, 2), (GLB_MODE_CFG_AUTO_FILL, 1), (TIDE_STATUS_LOCKSENSE, 1)] fun d =>
  d.onTide fun t => { t with bs := [0] }
def sFill : State := w [(GLB_MODE_MODE, 3), (GLB_MODE_CFG_AUTO_RUN, 1), (GLB_MODE_CFG_RUN_MODEL, 5), (SLU_SRC_ACTIVE, 2)] fun d =>
  d.onTide fun t => { t with bs := [0] }

/-- The cycle of an accepted HOLD. -/
def sCycle : State := w [] fun d => d.onMode fun x => { x with cycle := rank 7 }

theorem witness_mode_requests :
    (w []).dev.decideMode 1 3 ≠ Rs.accepted ∧
    (Ready sSurvey ∧ sSurvey.dev.decideMode 1 3 = Rs.accepted ∧ sSurvey.dev.row 1 3 = some (false, true) ∧
      sSurvey.dev.running = true ∧ sSurvey.dev.get GLB_MODE_MODE = 2 ∧ sSurvey.dev.flag GLB_MODE_CFG_AUTO_FILL = true ∧
      sSurvey.dev.get GLB_MODE_PENDING = 0xF) ∧
    (sSurvey.dev.decideMode 1 8 = Rs.accepted ∧ sSurvey.dev.row 1 8 = some (true, true)) ∧
    (Ready sFill ∧ sFill.dev.get GLB_MODE_MODE = 3 ∧ sFill.dev.flag GLB_MODE_CFG_AUTO_RUN = true ∧
      sFill.dev.get GLB_MODE_PENDING = 0xF ∧ sFill.dev.row 1 (sFill.dev.get GLB_MODE_CFG_RUN_MODEL) = some (false, true) ∧
      sFill.dev.running = true) ∧
    (w []).dev.get GLB_MODE_MODE ≠ 2 := by decide

def sImposed : State := w [(GLB_MODE_MODE, 4), (BRCH_STATUS_LEVEL, 3)] fun d => d.onMode fun x => { x with imposed := 3 }

theorem witness_mode_decisions :
    (sCycle.dev.outranked true 7 = true ∧ sCycle.dev.outranked false 7 = false ∧ sCycle.dev.outranked true 8 = false) ∧
    (w []).dev.permitted 2 9 = false ∧
    ((w [(GLB_MODE_PENDING, 3)]).dev.permitted 1 4 = true ∧ (w [(GLB_MODE_PENDING, 3)]).dev.get GLB_MODE_PENDING ≠ 0xF ∧
      rank 4 ≤ rank ((w [(GLB_MODE_PENDING, 3)]).dev.get GLB_MODE_PENDING)) ∧
    rank ((w [(GLB_MODE_PENDING, 3)]).dev.get GLB_MODE_PENDING) < rank 7 ∧
    (2 ≤ (w [(LCS_STATE_STATE, 2)]).dev.lcs ∧ (w []).dev.permitted 1 0xA = true ∧ (w []).dev.get GLB_MODE_PENDING = 0xF) ∧
    ((w [(LCS_STATE_STATE, 3), (GLB_MODE_MODE, 9)]).dev.lcs = 3 ∧
      ((w [(LCS_STATE_STATE, 3), (GLB_MODE_MODE, 9)]).dev.row 1 2).isSome = true) ∧
    ((w []).dev.permitted 1 3 = true ∧ (w []).dev.lcs < 2 ∧ (w []).dev.row 1 3 = none) ∧
    (sImposed.dev.permitted 1 5 = true ∧ sImposed.dev.get GLB_MODE_PENDING = 0xF ∧ sImposed.dev.lcs < 2 ∧
      sImposed.dev.row 1 5 = some (false, true) ∧ 2 ≤ sImposed.dev.get BRCH_STATUS_LEVEL ∧
      rank 5 < sImposed.dev.imposedRank) ∧
    (w [(GLB_MODE_MODE, 4), (BRCH_STATUS_LEVEL, 1)]).dev.get BRCH_STATUS_LEVEL < 2 ∧
    imposed 3 ((w []).dev.get GLB_MODE_MODE) = some 9 ∧ imposed 2 ((w []).dev.get GLB_MODE_MODE) = none ∧
    (imposed 2 ((w [(GLB_MODE_MODE, 0xB), (GLB_MODE_BASE, 6)]).dev.get GLB_MODE_BASE) = some 7) ∧
    (imposed 4 ((w [(GLB_MODE_MODE, 0xB), (GLB_MODE_BASE, 9)]).dev.get GLB_MODE_BASE) = none) := by decide

theorem witness_transition : [2, 3, 4, 5].contains ((sLane []).dev.get GLB_MODE_MODE) = true ∧
    [3, 4, 5].contains 3 = true ∧ 3 ≠ (sLane []).dev.get GLB_MODE_MODE := by decide

theorem witness_deckle : Ready (sLane []) ∧ (sLane []).dev.tide.nextB = some 1310720000 ∧
    (sLane []).dev.get GLB_MODE_PENDING = 0xF ∧ (sLane []).dev.slave = false ∧ (sLane []).dev.tide.bs ≠ [] ∧
    (sLane []).dev.tide.jump = false ∧
    (sLane [] fun d => d.onTide fun t => { t with jump := true }).dev.tide.jump = true ∧
    (w []).dev.target ≤ 1310720000 ∧ 1310720000 ≤ (w []).dev.target ∧ (w []).dev.lockstepStays = false ∧
    (w [(GLB_MODE_MODE, 4)]).dev.lockstepStays = true := by decide

def sHold : State := w [(GLB_MODE_MODE, 7), (GLB_MODE_BASE, 5), (SLU_HOLD_LIMIT, 1)] fun d =>
  (d.onTide fun t => { t with bs := [0], n := 8, cut := 8 }).onMode fun m => { m with holdM := 8 }

theorem witness_targets :
    (w [(TIDE_NCO_CFG_HOST_TGT, 0)]).dev.flag TIDE_NCO_CFG_HOST_TGT = false ∧
    ((w []).dev.flag TIDE_NCO_CFG_HOST_TGT = true ∧ (sSlave 0).dev.slave = true ∧ (w []).dev.slave = false) ∧
    (w []).dev.targetInRange ((w []).dev.tide.tgtLo + 2 ^ 32 * 4) = false ∧
    ((w []).dev.targetInRange ((w []).dev.tide.tgtLo + 2 ^ 32 * 1) = true ∧
      (w []).dev.targetInWindow ((w []).dev.tide.tgtLo + 2 ^ 32 * 1) = false) ∧
    ((sLane []).dev.targetInRange ((sLane []).dev.tide.tgtLo + 2 ^ 32 * 0) = true ∧
      (sLane []).dev.targetInWindow ((sLane []).dev.tide.tgtLo + 2 ^ 32 * 0) = true ∧ (sLane []).dev.tide.tgtLo < 2 ^ 32 ∧
      (sLane []).dev.flag TIDE_NCO_CFG_HOST_TGT = true ∧ (sLane []).dev.running = true) ∧
    (Ready sHold ∧ sHold.dev.effMode = 7 ∧ sHold.dev.targetInRange sHold.dev.target = true ∧
      sHold.dev.targetInWindow sHold.dev.target = true ∧ sHold.dev.mode.parked = false ∧ sHold.dev.running = true ∧
      sHold.dev.tide.cut < sHold.dev.mode.holdM + sHold.dev.get SLU_HOLD_LIMIT ∧
      sHold.dev.mode.holdM + sHold.dev.get SLU_HOLD_LIMIT = sHold.dev.tide.n + 1) ∧
    { sHold with dev := sHold.dev.onMode fun m => { m with parked := true } }.dev.mode.parked = true ∧
    (sLane [] fun d => d.onTide fun t => { t with engTaken := true }).dev.tide.engTaken = true ∧
    (sLane []).dev.tide.engTaken = false ∧
    sMaster.dev.master = true ∧ (w []).dev.master = false := by decide

/-! ### Witnesses: chapters 4 to 6 -/

def sFree (fs : List (Fld × Nat)) (f : Dev → Dev := id) : State :=
  w ([(GLB_MODE_MODE, 5), (LANE_CFG_ROLE 143, 1), (LANE_LINK_SYNC 143, 1)] ++ fs) fun d =>
    f (d.onTide fun t => { t with bs := [0], n := 31 })
def sService (f : Dev → Dev := id) : State := w [(GLB_MODE_MODE, 0xB), (GLB_MODE_BASE, 5), (GLB_KEY_STAT_OPEN, 1)] f

theorem witness_lanes :
    ((sFree []).dev.get GLB_MODE_MODE ≠ 0 ∧ (sFree []).dev.ctxOfLane 143 = none ∧ Ready (sFree []) ∧ (sFree []).dev.inBist 7 = false) ∧
    (w []).dev.get GLB_MODE_MODE = 0 ∧ (w [(BIST_STATUS_POLDERS, 0x80)]).dev.inBist 7 = true ∧
    ((sLane [(LANE_LINK_SYNC 143, 1)]).dev.flag (LANE_LINK_SYNC 143) = true ∧
      (sLane [(LANE_LINK_SYNC 143, 1)]).dev.ctxOfLane 143 = some 127) ∧
    ((sFree []).dev.flag (LANE_LINK_SYNC 143) = true ∧ (w []).dev.flag (LANE_LINK_SYNC 0) = false) ∧
    ((sFree []).dev.flag (LANE_LINK_LOS 143) = false ∧ (sLane []).dev.flag (LANE_LINK_LOS 143) = false) ∧
    (((w [] fun d => d.onLane 143 fun x => { x with darkIv := true }).dev.lane 143).darkIv = true ∧
      (w []).dev.bist.roll ≠ some 143 ∧ ((w []).dev.lane 143).darkIv = false) ∧
    ((sFree []).dev.surveyed 143 = true ∧ (sFree []).dev.running = true ∧ (sFree []).dev.tide.n % 16 = 143 % 16 ∧
      (sFree []).dev.flag PWR_STATUS_OPTOFF = false ∧ (sLane []).dev.tide.n % 16 ≠ 143 % 16) ∧
    (w [(LANE_LINK_LOS 0, 1)]).dev.flag (LANE_LINK_LOS 0) = true ∧
    (Ready (sService) ∧ (sService).dev.keyed .pcie = true ∧ (sService).dev.get GLB_MODE_MODE = 0xB ∧
      (sService).dev.logFull = false ∧ (w []).dev.keyed .pcie = false) := by
  decide

/-- A slot of ten one-bits, or zero-bits, with a sense current. -/
def slot (one : Bool) (cur : BitVec 12) : List LedBit := List.replicate 10 ⟨one, cur, 200⟩
/-- A lit lane one failing slot short of LED_DARK; a dark one short of LED_LIT. -/
def sLedDark (act : Nat) : State := sFree [(LANE_LED_DARKACT 143, act)] fun d => d.onLane 143 fun x => { x with dark := 29 }
def sLedLit : State := w [] fun d => d.onLane 143 fun x => { x with lit := 29 }

theorem witness_led_slots :
    (w [(PWR_STATUS_OPTOFF, 1)]).dev.slotsSeen = false ∧
    (w [] fun d => d.onBrch fun b => { b with rails := 2 ^ 4 }).dev.slotsSeen = false ∧
    -- the current at 75 % of 5 mA + 0.25 mA × ION passes, and one unit below it fails
    (slot true 60).all ((w []).dev.oneFails 143) = decide (0 < (w []).dev.get (LANE_CFG_ION 143)) ∧
    ((sLedDark 0).dev.slotsSeen = true ∧ (sLedDark 0).dev.litLane 143 = true ∧
      halfFail ((slot true 59).filter (·.one)) ((sLedDark 0).dev.oneFails 143) = true ∧
      halfFail ((slot true 59).filter (!·.one)) zeroFails = false ∧ ((sLedDark 0).dev.lane 143).dark = 29 ∧
      (sLedDark 0).dev.flag (LANE_LED_LED_DARK 143) = false ∧ (sLedDark 0).dev.flag (LANE_LED_DARKACT 143) = false) ∧
    (sLedDark 1).dev.flag (LANE_LED_DARKACT 143) = true ∧
    (sLedLit.dev.slotsSeen = true ∧ sLedLit.dev.litLane 143 = false ∧ (sLedLit.dev.lane 143).lit = 29 ∧
      halfFail (slot false 9) zeroFails = true ∧ halfFail (slot false 8) zeroFails = false ∧
      sLedLit.dev.flag (LANE_LED_LED_LIT 143) = false) := by decide

/-- A frame of a cell (R104, R105). -/
def cellFrame (ty : Nat) (payload : List Byte) : List Byte :=
  let body := [BitVec.ofNat 8 (0x80 + ty), 0] ++ Dev.le 2 payload.length ++ payload
  body ++ Dev.le 2 (crc16 body)

def sAsked : State := sFree [] fun d => d.onLane 143 fun x => { x with rid := 0, ttx := some 0 }
/-- A RANGE reply to request 255 with a measured turn of 16 ps, as bytes. -/
def rangeReplyBytes : List Byte := cellFrame 4 [255, 1, 16, 0, 0, 0, 0, 0]

theorem witness_ranging :
    ((sFree []).dev.surveyed 143 = true ∧ (sFree []).dev.flag (LANE_LINK_SYNC 143) = true ∧
      ((sFree []).dev.lane 143).ttx = none ∧ (sFree []).dev.rangeDue 143 = true ∧ (sFree []).dev.laneFree 143 = true ∧
      ((sFree []).dev.lane 143).rx = {}) ∧
    (sFree [] fun d => d.onLane 143 fun x => { x with rangeAt := some 31 }).dev.rangeDue 143 = false ∧
    (sFree [] fun d => d.onLane 143 fun x => { x with rangeAt := some 30 }).dev.rangeDue 143 = true ∧
    (sFree [(LANE_DOUT_VALID 143, 1)] fun d => d.onLane 143 fun x => { x with rangeAt := some 30 }).dev.rangeDue 143 = false ∧
    classA [0x81] = true ∧ byteAt [254, 1] 0 ≠ (0 + 255) % 256 ∧ byteAt [255, 0] 1 % 2 = 0 ∧
    (Ready sAsked ∧ sAsked.dev.flag (LANE_LINK_SYNC 143) = true ∧ (sAsked.dev.lane 143).ttx = some 0 ∧
      nymParse rangeReplyBytes = some (4, 0, [255, 1, 16, 0, 0, 0, 0, 0]) ∧ ((80000 : Int) - 0) * 250 ≤ 20000000 ∧
      byteAt [255, 1, 16, 0, 0, 0, 0, 0] 0 = ((sAsked.dev.lane 143).rid + 255) % 256 ∧ byteAt [255, 1, 16, 0, 0, 0, 0, 0] 1 % 2 = 1) ∧
    20000000 < ((80001 : Int) - 0) * 250 ∧ nymParse [] = none := by decide

def sSampled (n : Nat) : State := sLane [(LANE_DOUT_VALID 143, 1)] fun d => d.onLane 143 fun x => { x with disc := n }

theorem witness_samples : (sSampled 15).dev.flag (LANE_DOUT_VALID 143) = true ∧
    64000 < 16 * (4001 : Int) - ((sSampled 15).dev.lane 143).rtt ∧ ((sSampled 15).dev.lane 143).disc + 1 = 16 ∧
    ((sSampled 14).dev.lane 143).disc + 1 ≠ 16 ∧ 64000 < ((sSampled 0).dev.lane 143).rtt - 16 * (-4001 : Int) ∧
    (sSampled 0).dev.ctxOfLane 143 = some 127 ∧ (sSampled 0).dev.gangOf 127 = none := by decide

/-- A RETURN with RSEQ 128, ACK 7 and zeros behind. -/
def returnPayload (seq : Byte) : List Byte := [seq, 7] ++ List.replicate 30 0
def sReturn : State := sLane [(LANE_LINK_SYNC 143, 1), (LANE_SEQ_RSEQ 143, 1), (GLB_MODE_CFG_RUN_MODEL, 4), (GLB_MODE_MODE, 4)]
  fun d => d.onLane 143 fun x => { x with gotRet := true }

theorem witness_returns :
    (Ready sReturn ∧ sReturn.dev.flag (LANE_LINK_SYNC 143) = true ∧ sReturn.dev.ctxOfLane 143 = some 127 ∧
      (sReturn.dev.lane 143).rx = {} ∧ nymParse [] = none ∧ (sReturn.dev.lane 143).gotRet = true ∧ sReturn.dev.runModel = 4 ∧ sReturn.dev.slu.snap = none) ∧
    (nymParse (cellFrame 2 (returnPayload 128)) = some (2, 0, returnPayload 128) ∧
      1 ≤ (byteAt (returnPayload 128) 0 + 256 - sReturn.dev.get (LANE_SEQ_RSEQ 143)) % 256 ∧
      (byteAt (returnPayload 128) 0 + 256 - sReturn.dev.get (LANE_SEQ_RSEQ 143)) % 256 < 128) ∧
    (nymParse (cellFrame 2 (returnPayload 129)) = some (2, 0, returnPayload 129) ∧
      128 ≤ (byteAt (returnPayload 129) 0 + 256 - sReturn.dev.get (LANE_SEQ_RSEQ 143)) % 256) ∧
    sReturn.dev.flag (LANE_LINK_LOS 143) = false ∧
    ((sLane [(CTX_ADMIT_CFG_RMISS, 1)]).dev.isBound 127 = true ∧ ((sLane []).dev.cell 127).gotAny = false ∧
      ((sLane []).dev.cell 127).nb ≤ (sLane []).dev.tide.n ∧
      (sLane [(CTX_ADMIT_CFG_RMISS, 1)]).dev.get CTX_ADMIT_CFG_RMISS ≤ ((sLane []).dev.cell 127).missed + 1) ∧
    ((sLane []).dev.cell 127).missed + 1 < (sLane [(CTX_ADMIT_CFG_RMISS, 2)]).dev.get CTX_ADMIT_CFG_RMISS ∧
    (w [] fun d => { d with slu := { d.slu with snap := some 0 } }).dev.slu.snap = some 0 ∧ (w []).dev.slu.snap = none := by
  decide

theorem witness_loss : (sLane []).dev.isBound 127 = true ∧ 7 < 8 ∧ 127 < 128 ∧ (sLane []).dev.laneOf 127 = some 143 := by
  decide

def oneApplicant : Applicant := { Applicant.ofBytes 143 (List.replicate 24 0) with id := 5 }
def sApplicant : State := sFree [] fun d => d.onSurvey fun x => { x with queue := [oneApplicant] }
def admitPayload : List Byte := List.replicate 24 0
def sReloc : State := sService fun d => d.put (CTX_STATE_STATE 127) 4

theorem witness_admission :
    ((sFree []).dev.flag (LANE_LINK_SYNC 143) = true ∧ nymParse (cellFrame 8 admitPayload) = some (8, 0, admitPayload) ∧
      (sFree []).dev.surveyed 143 = true ∧ (sFree []).dev.flag (LANE_DOUT_VALID 143) = false ∧
      (sLane [(LANE_LINK_SYNC 143, 1)]).dev.surveyed 143 = false) ∧
    ((w []).dev.survey.queue = [] ∧ Ready sApplicant ∧ sApplicant.dev.survey.queue = [oneApplicant]) ∧
    (sApplicant.dev.ctxState 127 = St.free ∧ sApplicant.dev.gangOk 127 oneApplicant.lane = true ∧
      sApplicant.dev.polderFull (some 127) oneApplicant.lane = false ∧ sApplicant.dev.lockstepFull (some 127) = false ∧
      sApplicant.dev.surveyed oneApplicant.lane = true) ∧
    ((sLane []).dev.ctxState 127 = St.bound ∧ (w [(CTX_STATE_STATE 127, 1)]).dev.ctxState 127 = St.reserved ∧
      (w []).dev.ctxState 127 = St.free) ∧
    (((w [(SLU_SRC_ACTIVE, 2)] fun d => d.onCell 127 fun x => { x with safeHold := true }).dev.cell 127).safeHold = true ∧
      (w [(SLU_SRC_ACTIVE, 2)] fun d => d.onCell 127 fun x => { x with safeHold := true }).dev.srcOf 127 = 2) ∧
    ((w []).dev.cell 127).safeHold = false ∧ (w []).dev.keyed .pcie = false ∧
    (Ready sReloc ∧ sReloc.dev.keyed .pcie = true ∧
      ((sReloc.dev.keyUsed).put (CTX_RELOC_TARGET 127) 143).relocResult 127 143 false = 1) ∧
    ((sReloc.dev.onSurvey fun x => { x with deciding := some 143 }).survey.deciding = some (143 : Byte).toNat ∧
      ((sReloc.dev.keyUsed).put (CTX_RELOC_TARGET 127) 143).relocResult 127 143 true = 2) ∧
    ((w [] fun d => d.onSurvey fun x => { x with removed := true }).dev.survey.removed = true ∧
      sApplicant.dev.survey.removed = false ∧ 128 ≤ (128 : Byte).toNat ∧ (128 : Byte).toNat ≠ 0xFF) ∧
    (sFree []).dev.survey.queue = [] ∧ ((sFree []).dev.lane 143).rx = {} := by decide

theorem witness_admission_order :
    0x200 / 256 ≠ 1 ∧ 0x100 / 256 = 1 ∧ requestOk { oneApplicant with id := 0 } 0 = false ∧
    (requestOk { oneApplicant with nsl := 2, tloss := 4 } 0 = true) ∧
    (sLane [(CTX_ID_LO 127, 5)]).dev.isBound 127 = true ∧ (sLane [(CTX_ID_LO 127, 5)]).dev.ctxId 127 = oneApplicant.id ∧
    (sLane [(CTX_BIND_LANE 127, 0)]).dev.laneOf 127 ≠ some oneApplicant.lane ∧
    (w []).dev.outOfRange (10 ^ 12) = true ∧
    (w []).dev.outOfRange 0 = false ∧ (w []).dev.flag (LANE_DOUT_VALID 143) = false := by decide

def oneWindow : Window := default
def oneRec : Rec := ⟨127, 2, 3, 0, 0xF, 5, 255, 0, 0x7FFF, {}⟩
def sProof : State := sLane [(LANE_LINK_SYNC 143, 1)] fun d => d.onCell 127 fun x =>
  { x with buf := [Sheet.show Asp.block 1 false], wins := [{ oneWindow with ssq := 255, idx := 3 }], recs := [oneRec], failDue := true }

theorem witness_proof :
    (Ready sProof ∧ sProof.dev.ctxOfLane 143 = some 127 ∧ sProof.dev.lanesLit = true ∧ (sProof.dev.cell 127).buf ≠ []) ∧
    (((sLane []).dev.cell 127).buf = [] ∧ (sLane []).dev.ctxOfLane 0 = none) ∧
    (sProof.dev.flag (LANE_LINK_SYNC 143) = true ∧ crc8 [0, 0] ≠ 1 ∧ crc8 [0, 0] = 0) ∧
    (sProof.dev.cell 127).wins.find? (fun w => w.ssq == (255 : Byte).toNat && w.idx == (3 : Fin 4).val) =
      some { oneWindow with ssq := 255, idx := 3 } ∧
    (sLane []).dev.laneOf 127 = some 143 ∧
    (((w []).dev.cell 127).wins = [] ∧ (sProof.dev.cell 127).recs = [oneRec] ∧ ((w []).dev.cell 127).recs = [] ∧
      (sProof.dev.cell 127).failDue = true ∧ ((w []).dev.cell 127).failDue = false) := by decide

/-- D_in of a lane without ranging is its RXD. -/
theorem dinU_of_fuses (L : Fin 144) : (sLane []).dev.dinU L = 65536 * (Config.laneRxd L).toNat := by
  have h : ∀ M : Fin 144, (sLane []).dev.rttSum M = 0 ∧ (sLane []).dev.asym M = 0 := by decide
  simp only [dinU, h L, rxd]
  omega

theorem witness_echo :
    (polderCycle (tdcU 0) < (sLane []).dev.closing 143 { oneWindow with e := 10 ^ 12 } ∧
      (sLane []).dev.closing 143 oneWindow ≤ polderCycle (tdcU 10000000)) ∧
    tdcU 0 < (sLane []).dev.opening 143 { oneWindow with e := 10 ^ 12 } ∧
    (sLane []).dev.opening 143 oneWindow ≤ tdcU 10000000 ∧
    (Echo.ofBytes [0, 0]).asp = oneWindow.asp ∧ (Echo.ofBytes [0, 0]).asp ≠ { oneWindow with asp := 5 }.asp ∧
    (sLane []).dev.echoDelta 143 0 (Echo.ofBytes [0, 0]) oneWindow ≤ oneWindow.tsw ∧
    oneWindow.tsw < (sLane []).dev.echoDelta 143 10000000 (Echo.ofBytes [0, 0]) oneWindow := by
  have h : (sLane []).dev.dinU 143 = 65536 * (Config.laneRxd 143).toNat := dinU_of_fuses 143
  have b := (Config.laneRxd 143).isLt
  have g : (Echo.ofBytes [0, 0]).lag = 0 ∧ (Echo.ofBytes [0, 0]).asp = 0 := by decide
  have e : oneWindow.e = 0 ∧ oneWindow.asp = 0 ∧ oneWindow.len = 0 ∧ oneWindow.tsw = 0 := by decide
  simp only [closing, opening, echoDelta, polderCycle, tdcU, nsU, h, g, e]
  refine ⟨⟨?_, ?_⟩, ?_, ?_, trivial, by decide, ?_, ?_⟩ <;> omega
/-! ### Witnesses: chapters 7 and 8 -/

/-- A frame of an engine on the sluice (R222 to R226). -/
def engineFrame (ty seq : Nat) (payload : List Byte) : List Byte :=
  let body := [BitVec.ofNat 8 ty, 0] ++ Dev.le 2 payload.length ++ Dev.le 2 seq ++ payload
  body ++ Dev.le 4 (crc32 body)

/-- A ream with the sheet of context 127 alone. -/
def oneReam (mapv : Byte) : List Byte :=
  [1, 0, 0, 0, mapv, 0, 1, 0] ++ List.replicate 15 0 ++ [0x80] ++ List.replicate 16 0
def sSlu (st : Nat) (f : Dev → Dev := id) : State := sLane [(SLU_CFG_EN0, 1), (SLU_LINK_STATE 0, st), (SLU_LINK_STATE 1, st),
  (SLU_CFG_ROLE1, 1), (SLU_HOLD_LIMIT, 1), (SLU_RSQ_RSQ 1, 3)] f
def sNext : State := sSlu 2 fun d => d.onSluLane 1 fun x => { x with firstRx := false }
def sFirst : State := sSlu 2 fun d => d.onSluLane 1 fun x => { x with firstRx := true }

def sFreed : State := sLane [(SLU_HOLD_LIMIT, 0)] fun d => d.onPolder 7 fun x => { x with demandAll := false }

theorem witness_sluice :
    (Ready (sSlu 1) ∧ (sSlu 1).dev.get (SLU_LINK_STATE 1) = 1 ∧ (w []).dev.get (SLU_LINK_STATE 1) = 0) ∧
    (Ready (sSlu 2) ∧ (sSlu 2).dev.get (SLU_LINK_STATE 1) = 2 ∧ (sSlu 2).dev.sluUp 1 = true ∧ (w []).dev.sluUp 1 = false) ∧
    (sluParse [] = none ∧ sluParse (engineFrame 1 9 (oneReam 0)) = some (1, 9, oneReam 0)) ∧
    ((sSlu 2).dev.running = true ∧ (sSlu 2).dev.tide.cut ≤ (sSlu 2).dev.tide.n) ∧
    (w [] fun d => d.onTide fun t => { t with cut := 1 }).dev.tide.n < (w [] fun d => d.onTide fun t => { t with cut := 1 }).dev.tide.cut ∧
    (sFreed.dev.applies = true ∧ sFreed.dev.ctxState 127 = St.bound ∧
      (sFreed.dev.cell 127).safeHold = false ∧ sFreed.dev.done 127 sFreed.dev.nextCut = false ∧
      sFreed.dev.get SLU_HOLD_LIMIT ≤ (sFreed.dev.cell 127).hc ∧
      sFreed.dev.supplyFor 127 (sFreed.dev.srcFor 127 sFreed.dev.nextCut) sFreed.dev.nextCut = none ∧
      sFreed.dev.demanded 127 = false) ∧
    (sProof.dev.cell 127).buf ≠ [] ∧
    ((sSlu 2).dev.cell 127).hc < (sSlu 2).dev.get SLU_HOLD_LIMIT ∧
    ((sSlu 2).dev.sluEnabled 1 = true ∧ (sSlu 2).dev.get GLB_MODE_MODE ≠ 0 ∧ (sSlu 2).dev.get GLB_MODE_MODE ≠ 1 ∧
      (sSlu 2).dev.get GLB_MODE_MODE ≠ 0xA ∧ (w []).dev.get GLB_MODE_MODE = 0) := by decide

theorem witness_ream_checks :
    ((w []).dev.reamForm (ReamFrame.ofBytes ((w []).dev.fullDeckle (numAt [] 0 4)) []) [] = false) ∧
    (sNext.dev.reamForm (ReamFrame.ofBytes (sNext.dev.fullDeckle (numAt (oneReam 0) 0 4)) (oneReam 0)) (oneReam 0) = true ∧
      (sNext.dev.sluLane 1).firstRx = false ∧ (3 + 65536 - sNext.dev.get (SLU_RSQ_RSQ 1)) % 65536 = 0 ∧
      32768 ≤ (32771 + 65536 - sNext.dev.get (SLU_RSQ_RSQ 1)) % 65536) ∧
    ((sFirst.dev.sluLane 1).firstRx = true ∧
      sFirst.dev.reamForm (ReamFrame.ofBytes (sFirst.dev.fullDeckle (numAt (oneReam 9) 0 4)) (oneReam 9)) (oneReam 9) = true ∧
      sFirst.dev.reamMap (ReamFrame.ofBytes (sFirst.dev.fullDeckle (numAt (oneReam 9) 0 4)) (oneReam 9)) = false ∧
      sFirst.dev.sluSplit = false) := by decide

/-- The device as a free CTRL engine of lane 1 sees it. -/
def ctrlDev (s : State) : Dev := (noteFrame 1 true s.dev).onSluLane 1 fun x => { x with busy := true }
def sCouch : State := sLane [(SLU_LINK_STATE 1, 2), (COUCH_CFG_ENG_EN, 1), (CTX_PROG_SLACK 127, 1)]
def sCouching (pol : Nat) : State := sLane [(GLB_MODE_MODE, 6), (COUCH_STATUS_ACTIVE, 1), (COUCH_PROG_REMAIN, 1),
  (COUCH_STATUS_POLICY, pol), (COUCH_STATUS_IN, 2)] fun d => { d with brch := { d.brch with on := true } }

theorem witness_ctrl_and_couch :
    (Ready (sSlu 2) ∧ (sSlu 2).dev.sluUp 1 = true ∧ ((sSlu 2).dev.sluLane 1).busy = false) ∧
    ((Dev.le 6 1310720000).length = 6 ∧ (ctrlDev (sSlu 2)).decideTarget ((ctrlDev (sSlu 2)).flag TIDE_NCO_CFG_ENG_TGT)
      (Dev.nat (Dev.le 6 1310720000)) = 1) ∧
    (ctrlDev (sSlu 2)).decideTarget ((ctrlDev (sSlu 2)).flag TIDE_NCO_CFG_ENG_TGT) (Dev.nat (Dev.le 6 0)) = 3 ∧
    ((ctrlDev (sSlu 2)).decideCouch true 2 ≠ 1 ∧ Ready sCouch ∧ (ctrlDev sCouch).decideCouch true 2 = 1) ∧
    ((sSlu 2 fun d => d.onSluLane 1 fun x => { x with busy := true }).dev.sluLane 1).busy = true ∧ (w []).dev.sluUp 1 = false ∧
    ((ctrlDev sCycle).outranked true 6 = true ∧ (ctrlDev sCouch).outranked true 6 = false ∧ sCycle.dev.outranked true 6 = true ∧
      sCouch.dev.outranked true 6 = false) ∧
    (let s := w [] fun d => d.onCouch fun x => { x with wait := some (2, 1) }
     Ready s ∧ s.dev.couch.wait = some (2, 1) ∧ s.dev.get COUCH_CFG_POLICY < 2) ∧
    ((w []).dev.decideCouch false 2 ≠ 1 ∧ sCouch.dev.decideCouch false 2 = 1 ∧ sCouch.dev.running = true) ∧
    (Ready (sCouching 0) ∧ (sCouching 0).dev.flag COUCH_STATUS_ACTIVE = true ∧ (sCouching 0).dev.get COUCH_PROG_REMAIN ≠ 0 ∧
      (sCouching 0).dev.couch.m1 + (sCouching 0).dev.couch.timeout ≤ (sCouching 0).dev.tide.cut + 1 ∧
      (sCouching 0).dev.couch.ending = none ∧ (sCouching 0).dev.get COUCH_STATUS_POLICY = 0) ∧
    (let s : State := { (sCouching 0) with dev := (sCouching 0).dev.onCouch fun x => { x with ending := some (0, 2) } }
     Ready s ∧ s.dev.couch.ending = some (0, 2) ∧ 0 < s.dev.firstAhead 4 s.dev.nextCut) ∧
    ((sCouching 1).dev.get COUCH_STATUS_POLICY = 1 ∧ (sCouching 1).dev.brch.on = true) ∧
    ((w []).dev.flag COUCH_STATUS_ACTIVE = false ∧ (w []).dev.get COUCH_PROG_REMAIN = 0) := by decide

/-! ### Witnesses: chapter 9 -/

/-- Race q runs with a kind; context 127 is bound to lane 143 and routed to race 15. -/
def sRace (q kind : Nat) (fs : List (Fld × Nat) := []) (f : Dev → Dev := id) : State :=
  sLane ([(LANE_LINK_SYNC 143, 1), (RACE_CFG_EN q, 1), (RACE_CFG_KIND q, kind), (CTX_HROUTE_TCHEN 127, 15),
    (CTX_HROUTE_TRACE 127, 15), (CTX_CAP_CAP 127, 2), (RACE_TAIL q, 1)] ++ fs) fun d =>
    f { d with pcie := { d.pcie with up := true }, brch := { d.brch with on := true } }
/-- Race q runs with one descriptor. -/
def sDesc (q kind : Nat) (x : Desc) : State := sRace q kind [] fun d => d.onRace q fun r => { r with descs := [x] }
def sTelem : State := sDesc 15 1 { len := 4096 }
def telemPayload : List Byte := [9, 0, 0, 0]
def mgmtPayload : List Byte := [0x82, 31, 0, 0, 0]
def bulkPayload : List Byte := List.replicate 8 0
def sBulk : State := sRace 31 5 [] fun d => d.onLane 143 fun x =>
  { x with cellC0 := 1, staged := [⟨1, true, true, [], 0⟩], unacked := [⟨1, true, true, [], 0⟩], owed := true }

/-- A frame of a cell on stream 3. -/
def cellFrame3 (ty : Nat) (payload : List Byte) : List Byte :=
  let body := [BitVec.ofNat 8 (0x80 + ty), 3] ++ Dev.le 2 payload.length ++ payload
  body ++ Dev.le 2 (crc16 body)
def sAskedRace : State := sRace 31 6 [] fun d => d.onRace 31 fun r => { r with asked := some 127 }

theorem witness_cell_traffic :
    ((sTelem.dev.lane 143).rx = {} ∧ (sAskedRace.dev.lane 143).rx = {} ∧ nymParse [] = none) ∧
    (Ready sTelem ∧ sTelem.dev.flag (LANE_LINK_SYNC 143) = true ∧
      nymParse (cellFrame3 3 telemPayload) = some (3, 3, telemPayload) ∧
      sTelem.dev.ctxOfLane 143 = some 127 ∧
      sTelem.dev.bit (CTX_HROUTE_TCHEN 127) 3 = true ∧
      sTelem.dev.get (CTX_HROUTE_TRACE 127) = 15 ∧
      sTelem.dev.raceKind 15 = 1 ∧ sTelem.dev.raceServes 15 = true ∧
      sTelem.dev.openDesc 15 = some { len := 4096 } ∧
      0 + (sTelem.dev.telemRec 127 3 telemPayload).length ≤ 4096) ∧
    (Ready (sRace 15 1) ∧ (sRace 15 1).dev.openDesc 15 = none ∧ (sRace 15 1).dev.raceServes 15 = true) ∧
    (Ready sAskedRace ∧ nymParse (cellFrame 6 mgmtPayload) = some (6, 0, mgmtPayload) ∧ byteAt mgmtPayload 1 < 32 ∧
      sAskedRace.dev.ctxOfLane 143 = some 127 ∧ (sAskedRace.dev.race (byteAt mgmtPayload 1)).asked = some 127 ∧
      byteAt mgmtPayload 0 = 0x82 ∧ ((sRace 31 6).dev.race (byteAt mgmtPayload 1)).asked ≠ some 127 ∧
      ((sRace 31 6).dev.race 31).asked = none) := by decide

theorem witness_bulk :
    (nymParse (cellFrame 5 bulkPayload) = some (5, 0, bulkPayload) ∧ sBulk.dev.bulkCtx 143 = some 127 ∧
      (sBulk.dev.lane 143).staged = [⟨1, true, true, [], 0⟩] ∧ sBulk.dev.inFlight 143 < (sBulk.dev.lane 143).cellC0 ∧
      (sLane []).dev.bulkCtx 143 = some 127 ∧ ((sLane []).dev.lane 143).cellC0 ≤ (sLane []).dev.inFlight 143) ∧
    ((sBulk.dev.lane 143).unacked.drop (((sBulk.dev.lane 143).peerNext + 256 - (sBulk.dev.lane 143).peerCack) % 256) ≠ [] ∧
      ((sLane []).dev.lane 143).unacked = [] ∧ (sBulk.dev.lane 143).owed = true ∧ sBulk.dev.flag PWR_STATUS_OPTOFF = false ∧
      ((sLane []).dev.lane 143).owed = false) ∧
    ((sBulk.dev.lane 143).rx = {} ∧ sBulk.dev.laneFree 143 = true ∧ sProof.dev.laneFree 143 = false) := by decide

def sVatRace : State := w [(RACE_CFG_EN 15, 1), (RACE_CFG_KIND 15, 4)]
def sDone : State := sDesc 31 5 { status := some 0, irq := true }
def descOut : Desc := { len := 512, tgt := 127, first := true, last := true }
def sOut : State := sDesc 31 5 descOut

theorem witness_endpoint_and_races :
    (Ready (sRace 15 1) ∧ (sRace 15 1).dev.pcie.up = true ∧ (sRace 15 1).dev.flag (RACE_CFG_EN 15) = true ∧
      (w [] fun d => { d with pcie := { d.pcie with up := false } }).dev.pcie.up = false) ∧
    ((sRace 31 5).dev.raceRuns 31 = true ∧ (sRace 31 5).dev.brch.on = true ∧ (w []).dev.raceRuns 31 = false) ∧
    ((0x80000005 : Word).toNat.testBit 31 = true ∧ kindFits 15 5 = false ∧ kindFits 31 5 = true ∧ 5 ≠ 4 ∧
      (5 : Word).toNat.testBit 31 = false) ∧
    ((sRace 31 5).dev.raceOn 31 = true ∧
      2 ^ ((sRace 31 5).dev.race 31).size < (17 + 2 ^ 32 - (sRace 31 5).dev.get (RACE_NSEQ 31)) % 2 ^ 32 ∧
      (16 + 2 ^ 32 - (sRace 31 1).dev.get (RACE_NSEQ 31)) % 2 ^ 32 ≤ 2 ^ ((sRace 31 1).dev.race 31).size ∧
      (sRace 31 6).dev.raceKind 31 ≠ 5 ∧ (sRace 31 6).dev.raceOn 31 = true) ∧
    ((sRace 31 5).dev.dmaTurn 31 = true ∧ (sRace 15 1).dev.dmaTurn 15 = true ∧ (sRace 31 6).dev.dmaTurn 31 = true ∧
      numAt (List.replicate 32 0) 12 4 = (sRace 31 6).dev.get (RACE_HEAD 31)) ∧
    ((sRace 31 6).dev.openDesc 31 = none ∧ (sRace 31 6).dev.mayFetch 31 = true ∧ (w []).dev.raceOn 31 = false) ∧
    (sVatRace.dev.vatTested = false ∧ sVatRace.dev.raceRuns 0 = false ∧ sVatRace.dev.raceOn 15 = true ∧
      sVatRace.dev.raceKind 15 = 4) ∧
    ((sRace 31 5).dev.mayFetch 31 = true ∧ numAt (List.replicate 32 1) 12 4 ≠ (sRace 31 5).dev.get (RACE_HEAD 31) ∧
      (sRace 15 1).dev.mayFetch 15 = true ∧ (w []).dev.mayFetch 15 = false) := by decide

theorem witness_descriptors :
    (Ready sOut ∧ sOut.dev.pcie.up = true ∧ sOut.dev.raceServes 31 = true ∧ sOut.dev.raceKind 31 = 5 ∧
      sOut.dev.wantsPacket 31 127 = true ∧ sOut.dev.dmaTurn 31 = true ∧ sOut.dev.servedFor 127 = some (31, [descOut]) ∧
      sOut.dev.laneOf 127 = some 143 ∧ sOut.dev.bulkTarget 127 = true ∧
      (List.replicate 512 (0 : Byte)).length = min 512 (uncut [descOut])) ∧
    (let s := { sOut with dev := sOut.dev.put (CTX_CAP_CAP 127) 0 }
     s.dev.wantsPacket 31 127 = true ∧ s.dev.dmaTurn 31 = true ∧ s.dev.servedFor 127 = some (31, [descOut]) ∧
      begun [descOut] = false ∧ s.dev.bulkTarget 127 = false) ∧
    ((w []).dev.wantsPacket 31 127 = false ∧ sDone.dev.pcie.up = true ∧
      (sDone.dev.race 31).descs = [{ status := some 0, irq := true }] ∧ (some 0 : Option Nat) ≠ none) ∧
    (((sRace 31 5 [(RACE_IRQ_TIME 31, 1)] fun d => d.onRace 31 fun r => { r with unsig := 1 }).dev.race 31).unsig ≠ 0 ∧
      (sRace 31 5 [(RACE_IRQ_TIME 31, 1)]).dev.get (RACE_IRQ_TIME 31) ≠ 0 ∧ ((w []).dev.race 31).unsig = 0) ∧
    ((sDesc 15 1 { recs := 1 }).dev.openDesc 15 = some { recs := 1 } ∧ (w []).dev.openDesc 15 = none) ∧
    ((sRace 31 6).dev.flag (RACE_STAT_STOPPED 31) = false ∧ ((sRace 31 6).dev.race 31).asked = none ∧
      sAskedRace.dev.flag (RACE_STAT_STOPPED 31) = false ∧ (sAskedRace.dev.race 31).asked = some 127 ∧
      (w [(RACE_STAT_STOPPED 31, 1)]).dev.flag (RACE_STAT_STOPPED 31) = true) := by decide

def sVat (st : Nat) (f : Dev → Dev := id) : State := w [(RACE_VAT_STAT_STATE, st), (GLB_GPIO_FN_F6, 15)] f
def sVatFull : State := sVat 2 fun d => { d with vat := { d.vat with trig := true, since := 16, after := 65535 } }

theorem witness_vat :
    (Ready (sVat 0) ∧ (sVat 0).dev.vatTested = false ∧ (sVat 0).dev.vatRace = none ∧ (sVat 0).dev.get RACE_VAT_STAT_STATE ≠ 3 ∧
      (sVat 0).dev.get RACE_VAT_STAT_STATE ≠ 4) ∧
    ((sVat 3).dev.vatRace = none ∧ (sVat 3).dev.get RACE_VAT_STAT_STATE = 3 ∧ (sVat 3).dev.vatTested = false) ∧
    (sVatRace.dev.vatRace ≠ none ∧ sVatRace.dev.vatTested = false) ∧
    ((sVat 1).dev.get RACE_VAT_STAT_STATE = 1 ∧ (sVat 0).dev.get RACE_VAT_STAT_STATE ≠ 1) ∧
    ((sVat 1).dev.get GLB_GPIO_FN_F6 = 8 + 7 ∧ (sVat 1).dev.get GLB_GPIO_FN_F6 ≠ 8 + 0) ∧
    (sVatFull.dev.get RACE_VAT_STAT_STATE = 2 ∧ sVatFull.dev.vatComplete sVatFull.dev.vatBytes.length = true ∧
      sVatFull.dev.vatTested = false ∧ (sVat 0).dev.get RACE_VAT_STAT_STATE ≠ 2) ∧
    ((w [(RACE_VAT_STAT_STATE, 4), (RACE_VAT_FILL_FILL, 16)]).dev.vat.drained <
      (w [(RACE_VAT_STAT_STATE, 4), (RACE_VAT_FILL_FILL, 16)]).dev.get RACE_VAT_FILL_FILL ∧ (sVat 4).dev.get RACE_VAT_STAT_STATE = 4) := by
  decide

/-! ### Witnesses: chapter 10 -/

def oneProg (kind : Nat) : Prog := { ctx := 127, kind := kind, entry := 0, budget := 1 }
/-- Polder 7 runs a program of a kind for context 127, with four cycles left. -/
def sPld (kind : Nat) (emitted : Bool) (stack : List Nat) (fs : List (Fld × Nat)) (f : Dev → Dev := id) : State :=
  sLane ([(CTX_PROG_BUDGET 127, 1), (PLD_CTRL_STATE 7, 1)] ++ fs) fun d => f (d.onPolder 7 fun y =>
    { y with run := some { cur := some (oneProg kind), emitted := emitted }, stack := stack, regs := [(1, 0xC000), (2, 0x4000)] })
def oneRun (kind : Nat) (emitted : Bool) : Run := { cur := some (oneProg kind), emitted := emitted }

theorem witness_polder_issue : ∀ k ∈ [1, 2], Ready (sPld k false [] [(GLB_MODE_MODE, 3)]) ∧
    (sPld k false [] [(GLB_MODE_MODE, 3)]).dev.canIssue 7 (oneRun k false) (oneProg k) 4 ∧ (oneProg k).ctx < 128 := by
  unfold Dev.canIssue; decide

theorem witness_polder_run :
    ((sLane []).dev.running = true ∧ (sLane []).dev.progModes = true ∧ (sLane []).dev.get (PLD_CTRL_STATE 7) = 0 ∧
      ((sLane []).dev.polder 7).run = none ∧ ((sLane []).dev.polder 7).lastM ≠ (sLane []).dev.tide.n + 1) ∧
    (((sLane [] fun d => d.onPolder 7 fun y => { y with lastM := 1 }).dev.polder 7).lastM = (sLane []).dev.tide.n + 1 ∧
      (w []).dev.progModes = false) ∧
    (((sPld 1 false [] []).dev.polder 7).run = some (oneRun 1 false) ∧ (sPld 1 false [] []).dev.brch.on = true ∧
      (sPld 1 false [] []).dev.inBist 7 = false) ∧
    ((sPld 1 false [] [(CTX_PROG_BUDGET 127, 0)]).dev.current 7 = some (oneRun 1 false, oneProg 1) ∧
      (sPld 1 false [] [(CTX_PROG_BUDGET 127, 0)]).dev.cyclesLeft (oneRun 1 false) 127 <
        (sPld 1 false [] [(CTX_PROG_BUDGET 127, 0)]).dev.cyclesOf 7 0 0) ∧
    4 ≤ (sPld 1 false [] []).dev.cyclesLeft (oneRun 1 false) 127 := by decide

/-- Words of the formats: rd = 15, ra = 14, rb = 13 (R332). -/
theorem witness_polder_words :
    (iD 0x3FB4000 = 15 ∧ iA 0x3FB4000 = 14 ∧ iB 0x3FB4000 = 13 ∧ iImm 0x3FB4000 = 0) ∧
    (iB 0x3C03FFF = 0 ∧ iSimm 0x3C03FFF = 0xFFFFFFFF ∧ (0x3C03FFF : BitVec 26).toNat / 2 ^ 18 % 16 = 0) ∧
    ((0 + iSimm 0x3C01FFC).toNat % 65536 < 0x2000 ∧ (0 + iSimm 0x3C01FFC).toNat % 65536 % 4 = 0) := by decide

theorem witness_polder_control : ((sPld 1 false [7] []).dev.polder 7).stack = [7] ∧
    ((sPld 1 false [0, 1, 2, 3, 4, 5, 6] []).dev.polder 7).stack.length < 8 ∧
    ((sPld 1 false [0, 1, 2, 3, 4, 5, 6, 7] []).dev.polder 7).stack.length = 8 ∧
    ((sPld 1 false [] []).dev.polder 7).stack = [] := by decide

def sPldB : State := sPld 1 false [] [(CTX_PROG_BMBX 127, 1)] fun d => d.onLane 143 fun x =>
  { x with inbound := [⟨1, true, true, [], 0⟩] }

theorem witness_polder_device :
    ((oneProg 2).kind ≠ 1 ∧ (oneRun 2 false).emitted = false ∧ (oneRun 2 true).emitted = true ∧
      (sPld 2 true [] []).dev.current 7 = some (oneRun 2 true, oneProg 2)) ∧
    ((oneProg 1).kind = 1 ∧ (oneRun 1 false).todo = [] ∧ (sPld 1 false [] []).dev.flag (CTX_PSTAT_SAFEREQ 127) = false) ∧
    (sPldB.dev.laneOf 127 = some 143 ∧ sPldB.dev.flag (CTX_PROG_BMBX 127) = true ∧
      (sPldB.dev.lane 143).inbound = [⟨1, true, true, [], 0⟩] ∧ sPldB.dev.current 7 = some (oneRun 1 false, oneProg 1) ∧
      (sPldB.dev.gpr 7 (iA 0)).toNat % 1024 ≤ 512 ∧
      (sPldB.dev.lane 143).staged.length + (sPldB.dev.lane 143).unacked.length < sPldB.dev.get CTX_ADMIT_CFG_CRED) ∧
    (sPld 1 false [] []).dev.flag (CTX_PROG_BMBX 127) = false := by decide

/-- Words with ra = g1 (0xC000) and g2 (0x4000). -/
theorem witness_polder_exceptions :
    (let d := (sPld 1 false [] [] fun d => d.onPolder 7 fun y => { y with imem := [(0, 0xFFFFFFFF)] }).dev
     d.current 7 = some (oneRun 1 false, oneProg 1) ∧ d.progModes = true ∧ d.ctxState (oneProg 1).ctx = 3 ∧
      d.progDue (oneProg 1) = true ∧ d.pcListed 7 = false ∧ 1 ≤ d.cyclesLeft (oneRun 1 false) (oneProg 1).ctx ∧
      d.brch.on = true ∧ d.inBist 7 = false) ∧
    (sPld 2 true [] [(GLB_MODE_MODE, 3)]).dev.canIssue 7 (oneRun 2 true) (oneProg 2) 4 ∧
    iImm 1 ≠ 0 ∧ iB 0x4000 ≠ 0 ∧
    (iB 0x80000 = 0 ∧ ((sPld 1 false [] []).dev.gpr 7 (iA 0x80000) + iSimm 0x80000).toNat % 65536 = 0x4000) ∧
    (iB 1 = 0 ∧ ((sPld 1 false [] []).dev.gpr 7 (iA 1) + iSimm 1).toNat % 65536 = 1) ∧
    (iB 0x4001F = 1 ∨ ((sPld 1 false [] []).dev.gpr 7 (iA 0x4001F) + iSimm 0x4001F).toNat % 65536 = 0xC01F) := by
  unfold Dev.canIssue; decide


/-! ### Witnesses: chapters 16 and 17, 21 -/

def onM (f : Mgmt → Mgmt) : Dev → Dev := fun d => d.onMgmt f

theorem witness_load :
    (Ready (w []) ∧ (w []).dev.get GLB_MODE_MODE = 0 ∧ (w []).dev.lcs < 3 ∧ Dev.jedecBad (0x1720C2 : BitVec 24).toNat = false) ∧
    Dev.jedecBad (0xFFFFFF : BitVec 24).toNat = true ∧
    (w [(LCS_STATE_STATE, 3)]).dev.lcs = 3 ∧
    ((w [(GLB_MODE_MODE, 9)]).dev.get GLB_MODE_MODE = 9 ∧ (w [(GLB_MODE_MODE, 9)]).dev.lcs ≠ 3 ∧ Path.pcie ≠ Path.fic) ∧
    (w []).dev.get GLB_MODE_MODE ≠ 9 := by decide

def sStop (c : Nat) : State := w [] fun d => (d.onMgmt fun m => { m with stopped := true }).onBrch fun b => { b with cond := c }

theorem witness_engine : (w []).dev.mgmt.stopped = false ∧
    ((w []).dev.brch.on = true ∧ (w [] fun d => d.onBrch fun b => { b with on := false }).dev.brch.on = false) ∧
    (Ready (sStop (2 ^ 47)) ∧ (sStop (2 ^ 47)).dev.mgmt.stopped = true ∧
      (sStop (2 ^ 47)).dev.brch.cond.testBit 47 = true) := by decide

def sPwd (key : List Byte) (n : Nat) : State := w [] (onM fun m => { m with checking := some [0x61], pwd := some ([], key), fails := n })

theorem witness_password_check :
    (w []).dev.checkRefusal (7 : BitVec 7).toNat ≠ 0 ∧ (w []).dev.checkRefusal (8 : BitVec 7).toNat ≠ 0 ∧
    (w [] (onM fun m => { m with pwd := some ([], []) })).dev.checkRefusal (8 : BitVec 7).toNat = 0 ∧
    (w [] (onM fun m => { m with pwd := some ([], []) })).dev.checkRefusal (64 : BitVec 7).toNat = 0 ∧
    (w [] (onM fun m => { m with pwd := some ([], []) })).dev.checkRefusal (65 : BitVec 7).toNat ≠ 0 ∧
    (w []).dev.mgmt.checking = none := by decide

theorem witness_password (key : List Byte) : (sPwd key 4).dev.mgmt.checking = some [0x61] ∧
    (sPwd key 4).dev.mgmt.pwd = some ([], key) ∧ (sPwd key 4).dev.flag GLB_KEY_STAT_OPEN = false := ⟨rfl, rfl, (by decide : (sPwd [] 4).dev.flag GLB_KEY_STAT_OPEN = false)⟩

theorem witness_password_key (cand salt : List Byte) : (∃ key, Sha.pbkdf2 cand salt = key) ∧ ∃ key, Sha.pbkdf2 cand salt ≠ key := by
  generalize Sha.pbkdf2 cand salt = k
  exact ⟨⟨k, rfl⟩, ⟨0 :: k, fun h => by simpa using congrArg List.length h⟩⟩

def sWrite (fs : List (Fld × Nat)) (f : Mgmt → Mgmt := id) : State :=
  w ([(GLB_MODE_MODE, 0xB), (GLB_MODE_BASE, 5), (GLB_KEY_STAT_OPEN, 1)] ++ fs) (onM f)

theorem witness_image_begin : Ready (sWrite []) ∧ (sWrite []).dev.keyed .pcie = true ∧ (sWrite []).dev.lcs ≠ 3 ∧
    (sWrite []).dev.get GLB_MODE_MODE = 0xB ∧ (sWrite []).dev.mgmt.stopped = false ∧
    (sWrite []).dev.get WMK_WR_STAT_STATE = 0 := by decide
theorem witness_no_directory : (sWrite []).dev.directory = none := by decide

theorem witness_image_data :
    (sWrite [(WMK_WR_STAT_STATE, 1)]).dev.get WMK_WR_STAT_STATE = 1 ∧ (sWrite []).dev.get WMK_WR_STAT_STATE ≠ 1 ∧
    (let s := sWrite [(WMK_WR_STAT_STATE, 2), (WMK_WR_STAT_SPACE, 4), (WMK_WR_COUNT_COUNT, 2097148)]
     Ready s ∧ s.dev.keyed .pcie = true ∧ s.dev.get WMK_WR_STAT_STATE = 2 ∧ 4 ≤ s.dev.get WMK_WR_STAT_SPACE ∧
      s.dev.get WMK_WR_STAT_SPACE ≤ 512 ∧ s.dev.get WMK_WR_COUNT_COUNT < 2097152) ∧
    (sWrite [(WMK_WR_STAT_STATE, 2), (WMK_WR_STAT_SPACE, 3)]).dev.get WMK_WR_STAT_SPACE < 4 ∧
    ((sWrite [(WMK_WR_STAT_STATE, 2)] fun m => { m with write := { buf := List.replicate 256 0 } }).dev.get WMK_WR_STAT_STATE = 2 ∧
      256 ≤ (sWrite [(WMK_WR_STAT_STATE, 2)] fun m =>
        { m with write := { buf := List.replicate 256 0 } }).dev.mgmt.write.buf.length) ∧
    (sWrite []).dev.mgmt.write.buf.length < 256 := by decide

theorem witness_image_commit :
    (let s := sWrite [(WMK_WR_STAT_STATE, 2), (WMK_WR_LEN_LEN, 4)]
     Ready s ∧ s.dev.keyed .pcie = true ∧ s.dev.lcs ≠ 3 ∧ s.dev.get GLB_MODE_MODE = 0xB ∧ s.dev.mgmt.stopped = false ∧
      s.dev.logFull = false ∧ s.dev.get WMK_WR_STAT_STATE = 2 ∧ s.dev.get WMK_WR_COUNT_COUNT ≠ s.dev.get WMK_WR_LEN_LEN) ∧
    (let s := sWrite [(WMK_WR_STAT_STATE, 2), (WMK_WR_LEN_LEN, 4), (WMK_WR_COUNT_COUNT, 4)]
     s.dev.flag WMK_WR_STAT_OVERRUN = false ∧ s.dev.get WMK_WR_COUNT_COUNT = s.dev.get WMK_WR_LEN_LEN) ∧
    ((sWrite [(WMK_WR_STAT_STATE, 3)]).dev.get WMK_WR_STAT_STATE = 3 ∧ (sWrite [(WMK_WR_STAT_STATE, 3)]).dev.logFull = false) ∧
    (sWrite [] fun m => { m with staged := [⟨0, 1, 1, 0, []⟩] }).dev.mgmt.staged ≠ [] := by decide

theorem witness_log :
    (let s := sWrite [] fun m => { m with staged := [⟨0, 1, 1, 0, []⟩] }
     s.dev.mgmt.stopped = false ∧ s.dev.flag WMK_LOG_STAT_FAIL = false ∧ s.dev.mgmt.staged = [⟨0, 1, 1, 0, []⟩]) ∧
    (let s := sWrite [(WMK_LOG_STAT_FAIL, 1)] fun m => { m with staged := [⟨0, 1, 1, 0, []⟩] }
     Ready s ∧ s.dev.mgmt.stopped = false ∧ s.dev.flag WMK_LOG_STAT_FAIL = true ∧
      s.dev.mgmt.staged = [⟨0, 1, 1, 0, []⟩]) := by decide

theorem witness_lcs :
    ((sWrite []).dev.flag LCS_STATE_PEND = false ∧ (sWrite []).dev.mgmt.blowing = none ∧ (sWrite []).dev.logFull = false ∧
      (sWrite []).dev.lcs < 3 ∧ (sWrite [(LCS_STATE_STATE, 1)]).dev.lcs = 1 ∧ (sWrite [(LCS_STATE_STATE, 1)]).dev.logFull = false) ∧
    (let s := sWrite [(LCS_STATE_STATE, 1), (WMK_STATUS_LOADED, 1)] fun m => { m with lcsMask := 4 }
     s.dev.flag WMK_STATUS_LOADED = true ∧ s.dev.mgmt.lcsMask.testBit 2 = true) ∧
    (0x4C420003 : Word).toNat / 65536 ≠ 0x4C43 ∧
    (sWrite [] fun m => { m with blowing := some 3 }).dev.mgmt.blowing = some 3 := by decide

theorem witness_key :
    (let s := w [(GLB_KEY_STAT_STEP, 1)]
     Ready s ∧ s.dev.flag GLB_KEY_STAT_OPEN = false ∧ s.dev.get GLB_KEY_STAT_STEP = 1 ∧ s.dev.ownsKey .pcie = true ∧
      s.dev.keyRefused = false ∧ s.dev.ownsKey .spi = false) ∧
    (let s := w [(GLB_KEY_STAT_STEP, 2)]
     s.dev.flag GLB_KEY_STAT_OPEN = false ∧ s.dev.get GLB_KEY_STAT_STEP = 2 ∧ s.dev.ownsKey .pcie = true ∧
      s.dev.keyRefused = false ∧ s.dev.logFull = false) ∧
    (w []).dev.get GLB_KEY_STAT_STEP ≠ 1 ∧
    ((sWrite []).dev.flag GLB_KEY_STAT_OPEN = true ∧ (sWrite []).dev.ownsKey .pcie = true) ∧
    ((1 : BitVec 16) ≠ 0 ∧ (1 : BitVec 16) ≠ 0x5E12 ∧ (1 : BitVec 16) ≠ 0xA1ED) := by decide

/-! ### Witnesses: chapters 14, 15 and 18 -/

def sDark (fs : List (Fld × Nat)) (f : Dev → Dev := id) : State := w ([(GLB_MODE_MODE, 9)] ++ fs) f

theorem witness_breach :
    (Ready (sDark []) ∧ (sDark []).dev.get GLB_MODE_MODE = 9 ∧ (sDark []).dev.brch.on = true ∧
      (sDark []).dev.pinIgnored (24 : Fin 64) = false ∧ 2 ≤ (sDark []).dev.level (24 : Fin 64) ∧
      (sDark []).dev.level (24 : Fin 64) ≤ 4 ∧ (sDark []).dev.flag COUCH_STATUS_ACTIVE = false) ∧
    (sDark [] fun d => d.onBrch fun b => { b with on := false }).dev.brch.on = false ∧
    (sDark [(BRCH_STATUS_GRACE, 1)]).dev.flag BRCH_STATUS_GRACE = true ∧ (sDark []).dev.flag BRCH_STATUS_GRACE = false ∧
    Path.pcie ≠ Path.fic := by decide
theorem witness_breach_none_open : ∀ r, r < 64 → r ≠ (24 : Fin 64).val → r ∉ (sDark []).dev.openFaults := by decide
theorem witness_second_fault :
    let d := (sDark [(BRCH_STICKY 53, 1), (BRCH_UNACK 53, 1), (BRCH_EFF 53, 3)]).dev
    53 ∈ d.openFaults ∧ 24 < 64 ∧ 24 ≠ 53 ∧ 2 ≤ d.level 24 ∧
      (∀ q, q ∈ d.openFaults → q ≠ 24 → d.get (BRCH_EFF q) ≤ d.get (BRCH_EFF 53)) := by decide

def sInject (st : Nat) (mask : Nat := 64) : State := w [(GLB_MODE_MODE, 0xB), (GLB_KEY_STAT_OPEN, 1),
  (BRCH_INJ_STAT_STATE, st), (BRCH_INJ_ADDR_WORD, 65535)] fun d => d.onBrch fun b => { b with arm := ⟨24, 65535, mask⟩ }

theorem witness_inject :
    ((sInject 0).dev.keyed .pcie = true ∧ (sInject 0).dev.get BRCH_INJ_STAT_STATE ≠ 1 ∧
      injectWords ((0x80400007 : Word).toNat % 64) ((0x80400007 : Word).toNat / 4096 % 4) = some 65536 ∧
      (sInject 0).dev.get BRCH_INJ_ADDR_WORD < 65536 ∧ ones 7 ((0x80400007 : Word).toNat / 65536 % 128) = 1) ∧
    ((sInject 0).dev.get BRCH_INJ_STAT_STATE = 0 ∧
      injectWords ((0x80400010 : Word).toNat % 64) ((0x80400010 : Word).toNat / 4096 % 4) = none) ∧
    (Ready (sInject 1) ∧ (sInject 1).dev.keyed .pcie = true ∧ (sInject 1).dev.get BRCH_INJ_STAT_STATE = 1 ∧
      (sInject 1).dev.brch.arm.mask = (64 : BitVec 7).toNat ∧ ones 7 (64 : BitVec 7).toNat = 1 ∧
      (sInject 1).dev.brch.unsol = false ∧ 16 ≤ (sInject 1).dev.brch.arm.src) ∧
    -- a mask of two bits, and a syndrome that is not the mask
    (Ready (sInject 1 96) ∧ (sInject 1 96).dev.get BRCH_INJ_STAT_STATE = 1 ∧
      (96 : BitVec 7).toNat = (sInject 1 96).dev.brch.arm.mask ∧ ones 7 (96 : BitVec 7).toNat = 2 ∧
      (1 : BitVec 7).toNat ≠ (sInject 1 96).dev.brch.arm.mask) := by decide

def sTest (f : Bist → Bist) : State := w [(GLB_MODE_MODE, 0xA), (BIST_STATUS_POLDERS, 0x80)] fun d => d.onBist f

theorem witness_self_test :
    (w []).dev.get GLB_MODE_MODE ≠ 0xA ∧
    ((sTest id).dev.get GLB_MODE_MODE = 0xA ∧ (53 : Word).toNat % 64 < 54 ∧
      (sTest id).dev.bist.queue.contains ((53 : Word).toNat % 64) = false ∧
      (sTest id).dev.bist.run.contains ((53 : Word).toNat % 64) = false) ∧
    (sTest fun b => { b with queue := [53] }).dev.bist.queue.find? (sTest fun b => { b with queue := [53] }).dev.canStart = some 53 ∧
    (sTest id).dev.bist.queue = [] ∧ (sTest id).dev.bist.run = [] := by decide
theorem witness_signature : ∀ k, ∃ g : Word, g ≠ Config.expectedSignature k := fun k =>
  ⟨Config.expectedSignature k + 1, by generalize Config.expectedSignature k = x; bv_omega⟩
theorem witness_test_end :
    (sTest fun b => { b with run := [53] }).dev.bist.run.contains (53 : Fin 54).val = true ∧
    (sTest fun b => { b with run := [53] }).dev.bist.queue.contains (53 : Fin 54).val = false ∧
    (sTest fun b => { b with run := [53] }).dev.brch.on = true ∧
    (0 : Word).toNat ≠ (sTest id).dev.get (BIST_TEXP_EXPECTED 53) ∧
    (BitVec.ofNat 32 ((sTest id).dev.get (BIST_TEXP_EXPECTED 53)) : Word).toNat =
      (sTest fun b => { b with run := [53] }).dev.get (BIST_TEXP_EXPECTED 53) ∧
    (sTest id).dev.bist.run.contains (53 : Fin 54).val = false ∧
    (sTest fun b => { b with run := [53] }).dev.bist.run ≠ [] ∧
    ((sTest fun b => { b with reinit := [46] }).dev.bist.reinit = [6 * 7 + 4] ∧
      (sTest fun b => { b with reinit := [46] }).dev.inBist 7 = true) := by decide

def sRoll (f : Bist → Bist) : State := w [(GLB_MODE_MODE, 2), (BIST_ROLL_EN, 1), (LANE_CFG_ROLE 0, 1), (LANE_CFG_ROLE 1, 0)]
  fun d => d.onBist f
theorem witness_rolling_check :
    ((sRoll id).dev.flag BIST_ROLL_EN = true ∧ (sRoll id).dev.get GLB_MODE_MODE = 2 ∧ (sRoll id).dev.lcs ≠ 3 ∧
      (sRoll id).dev.bist.roll = none ∧ (sRoll id).dev.nextSpare = some 1) ∧
    (sRoll fun b => { b with roll := some 143 }).dev.bist.roll = some 143 ∧ (sRoll id).dev.inBist 7 = false ∧
    (sRoll id).dev.brch.on = true ∧ (0 : BitVec 16) ≠ 352 := by decide

def sFuse : State := w [(GLB_MODE_MODE, 0xA), (GLB_KEY_STAT_OPEN, 1), (LCS_STATE_STATE, 0)]
theorem witness_repairs :
    (sService.dev.keyed .pcie = true ∧ sService.dev.get GLB_MODE_MODE = 0xB ∧
      (Dev.storeRequest 0 sService.dev.keyUsed).softResult (Dev.storeRequest 0 sService.dev.keyUsed).repairOf = 1) ∧
    (sFuse.dev.keyed .pcie = true ∧
      (Dev.storeRequest 0x08000000 sFuse.dev.keyUsed).fuseResult (Dev.storeRequest 0x08000000 sFuse.dev.keyUsed).repairOf = 1) := by
  decide

def sUp : State := w [(LANE_LINK_STATE 143, 4)]
def sWeek : State := w [] fun d => d.onLdg fun l => { l with acc := [(8, 604800)] }
theorem witness_ledger :
    (Ready (w []) ∧ (w []).dev.ledgerIdle = false ∧ (w []).dev.ldg.scrub = none ∧ (w []).dev.mgmt.lock = 0) ∧
    (sStop 0).dev.ledgerIdle = true ∧ (sStop 0).dev.mgmt.stopped = true ∧ (w []).dev.mgmt.stopped = false ∧
    (sUp.dev.ledgerIdle = false ∧ sUp.dev.get (LANE_LINK_STATE (143 : Fin 144)) = 4) ∧
    (sWeek.dev.ledgerIdle = false ∧ 604800 ≤ sWeek.dev.powered ∧ sWeek.dev.ldg.means = []) ∧
    (w []).dev.powered < 604800 := by decide

theorem witness_events :
    (let s := w [] fun d => d.onPcie fun p => { p with fnMask := false, pba := 2 ^ 31 }
     Ready s ∧ s.dev.pcie.fnMask = false ∧ s.dev.pcie.pba.testBit (31 : Fin 32) = true) ∧
    (w []).dev.pcie.pba.testBit (0 : Fin 32) = false ∧ (w []).dev.pcie.pba = 0 := by decide

/-! ### Witnesses: chapters 19, 1 and 20 -/

def sAsleep (held : Nat) : State := w [] fun d => { d with pwr := { d.pwr with held := held } }

theorem witness_supply :
    (let s := w [(PWR_STATUS_WARN, 32)] fun d => d.onBrch fun b => { b with rails := 32, cond := 2 ^ 33 }
     Ready s ∧ s.dev.brch.rails = 2 ^ (5 : Fin 6).val ∧ s.dev.brch.rails.testBit (5 : Fin 6) = true) ∧
    113 ≤ (113 : Byte).toInt ∧ 125 ≤ (127 : Byte).toInt ∧ (w []).dev.awake = true ∧
    ((sAsleep 4).dev.awake = false ∧ (100 : Int) < (108 : Byte).toInt ∧ (108 : Byte).toInt ≤ 108 ∧ (100 : Byte).toInt ≤ 100 ∧
      (156 : Byte).toInt ≤ 100 ∧ (sAsleep 4).dev.pwr.held = 4) := by decide

theorem witness_reset :
    ((w []).dev.awake = true ∧ (w []).dev.berm.masterOff = false) ∧ (sAsleep 8).dev.awake = false ∧
    ((w []).dev.pcie.up = false ∧ (w [] fun d => d.onPcie fun p => { p with up := true }).dev.pcie.up = true) ∧
    ((sAsleep 8).dev.pwr.held.testBit 2 = false ∧ (sAsleep 8).dev.tide.refLost = false ∧
      (sAsleep 12).dev.pwr.held.testBit 2 = true) := by decide

def sSpi (n : Nat) : State := w [(RACE_SPI_EN, 1)] fun d => { d with up := n }

theorem witness_register_access :
    ((0xE : BitVec 4) ≠ 0xF ∧ Ready (w []) ∧ Path.spi ≠ Path.fic) ∧
    ((w []).dev.keyed .pcie = false ∧ (w []).dev.keyDiffers 0x20080 (1 : Word).toNat = true) ∧
    ((sSpi 1000000).dev.spiOpen = true ∧ (sSpi 999999).dev.spiOpen = false) := by decide

/-- A write frame of R583, and a read frame for the upper word of TIDE_PERIOD. -/
def writeFrame : List Byte := [0x02, 0x18, 0, 0, 1, 0, 0, 0, BitVec.ofNat 8 (crc8 [0x02, 0x18, 0, 0, 1, 0, 0, 0])]
def readFrame : List Byte := [0x0B, 0x07, 0x40, 0, BitVec.ofNat 8 (crc8 [0x0B, 0x07, 0x40, 0]), 0, 0, 0, 0, 0, 0, 0, 0]

theorem witness_spi_frames :
    (writeFrame.length = 9 ∧ crc8 (writeFrame.take 8) = (writeFrame.getD 8 0).toNat ∧ writeFrame.getD 0 0 = 0x02) ∧
    (List.replicate 8 (0 : Byte)).length ≠ 9 ∧
    ((List.replicate 9 (1 : Byte)).length = 9 ∧
      crc8 ((List.replicate 9 (1 : Byte)).take 8) ≠ ((List.replicate 9 (1 : Byte)).getD 8 0).toNat) ∧
    (readFrame.length = 13 ∧ crc8 (readFrame.take 4) = (readFrame.getD 4 0).toNat ∧
      Dev.nat ((readFrame.drop 1).take 3) = 0x4007) := by decide

/-! ### Witnesses: chapters 12 and 13 -/

def sBerm (fs : List (Fld × Nat)) (f : Berm → Berm := id) : State :=
  w fs fun d => d.onBerm fun b => f { b with powered := true }
def f0 : ToBerm := ⟨1, 0xFFFF, false, false, false, false⟩
def g0 : ToTerp := ⟨1, 0, 0, 0, 0, 0, 0, 0, true⟩

/-- The eighth valid frame in succession during silence, or the first one. -/
def sSilent (ok : Bool) (n : Nat) : State := sBerm [(FLD_STATUS_SILENCED, 1)] fun b =>
  { b with toBerm := some f0, bermSeq := some 0, silent := true, selfOk := ok, goodRun := n }

theorem witness_silence :
    (∀ n ∈ [0, 7], (sSilent true n).dev.berm.toBerm = some f0 ∧ (sSilent true n).dev.berm.powered = true ∧
      (sSilent true n).dev.berm.bermSeq ≠ some f0.seq ∧ (sSilent true n).dev.berm.silent = true ∧
      (sSilent true n).dev.berm.selfOk = true ∧ (sSilent true n).dev.berm.goodRun = n) ∧
    ((sSilent false 0).dev.berm.selfOk = false ∧ (sSilent false 0).dev.berm.goodRun = 0 ∧
      (sSilent false 0).dev.flag FLD_STATUS_SILENCED = true) ∧
    (let s := sBerm [] fun b => { b with toBerm := some f0, bermSeq := some 1 }
     s.dev.berm.toBerm = some f0 ∧ s.dev.berm.bermSeq = some f0.seq) ∧
    (let s := w [] fun d => d.onBerm fun b => { b with toBerm := some f0 }
     s.dev.berm.toBerm = some f0 ∧ s.dev.berm.powered = false) ∧
    (let s := sBerm [] fun b => { b with toTerp := some g0, terpSeq := some 1 }
     Ready s ∧ s.dev.berm.toTerp = some g0 ∧ s.dev.berm.terpSeq = some g0.seq) ∧ (sBerm []).dev.berm.toTerp = none := by decide

theorem witness_isolation :
    (Ready (sBerm []) ∧ (sBerm []).dev.berm.masterOff = false ∧ (sBerm []).dev.berm.powered = true) ∧
    (let s := sBerm [] fun b => { b with toBerm := some f0, bermSeq := some 0 }
     s.dev.berm.toBerm = some f0 ∧ s.dev.berm.powered = true ∧ s.dev.berm.bermSeq ≠ some f0.seq ∧ s.dev.berm.silent = false) ∧
    (sBerm []).dev.berm.toBerm = none ∧
    (let s := sBerm [] fun b => { b with toTerp := some g0 }
     Ready s ∧ s.dev.berm.toTerp = some g0 ∧ s.dev.berm.terpSeq ≠ some g0.seq) ∧
    ((sBerm [] fun b => { b with silent := false }).dev.berm.silent = false ∧
      (sBerm [] fun b => { b with silent := true }).dev.berm.silent = true ∧
      (sBerm [] fun b => { b with silent := true }).dev.berm.powered = true ∧ (w []).dev.berm.powered = false ∧
      (sBerm []).dev.flag (FLD_OUT_SILENT 15) = false ∧ (sBerm []).dev.flag FLD_STATUS_SILENCED = false ∧
      (sBerm [(FLD_STATUS_SILENCED, 1)]).dev.flag FLD_STATUS_SILENCED = true) ∧
    ((sBerm [] fun b => { b with terpSilent := false }).dev.berm.terpSilent = false ∧
      (sBerm [] fun b => { b with terpSilent := true }).dev.berm.terpSilent = true) := by decide

def sIn (ty : Nat) (y : FieldIn) (f : Berm → Berm := id) : State := sBerm [(FLD_IN_TYPE 23, ty)] fun b => f { b with ins := [(23, y)] }

theorem witness_inputs :
    ((sIn 1 {}).dev.get (FLD_IN_TYPE (23 : Fin 24)) ≠ 0 ∧ band ((sIn 1 {}).dev.get (FLD_IN_TYPE (23 : Fin 24))) (75 : Byte).toNat = some 2 ∧
      band ((sIn 1 {}).dev.get (FLD_IN_TYPE (23 : Fin 24))) (74 : Byte).toNat = none ∧
      (sIn 0 {}).dev.get (FLD_IN_TYPE (23 : Fin 24)) = 0) ∧
    (let s := sIn 3 { gap := true, deb := 1 }
     (s.dev.fin (23 : Fin 24)).gap = true ∧ s.dev.get FLD_STATUS_SUPPLY = 3 ∧ (s.dev.fin (23 : Fin 24)).deb ≠ 0) ∧
    (let s := sBerm [(FLD_IN_TYPE 23, 3), (FLD_STATUS_SUPPLY, 0)] fun b => { b with ins := [(23, { gap := true, deb := 1 })] }
     (s.dev.fin (23 : Fin 24)).gap = true ∧ s.dev.supplyOk = true ∧ s.dev.get (FLD_IN_TYPE (23 : Fin 24)) ≠ 0 ∧
      (s.dev.fin (23 : Fin 24)).deb ≠ 0) ∧
    ((sIn 1 {}).dev.berm.pulse = none ∧ ((sIn 1 {}).dev.fin (23 : Fin 24)).hold = 0 ∧
      0 < ((sIn 1 { hold := 1 }).dev.fin (23 : Fin 24)).hold ∧ (sIn 1 {} fun b => { b with pulse := some 3 }).dev.berm.pulse ≠ none) ∧
    (let s := sIn 1 { held := 65535, clear := 0, invalid := true }
     s.dev.get (FLD_IN_DEB (23 : Fin 24)) ≤ (s.dev.fin (23 : Fin 24)).held ∧ (s.dev.fin (23 : Fin 24)).invalid = true) ∧
    (sBerm [(FLD_IN_TYPE 23, 1), (FLD_IN_DEB 23, 1)]).dev.get (FLD_IN_DEB (23 : Fin 24)) >
      ((sIn 1 {}).dev.fin (23 : Fin 24)).held ∧
    ((sIn 1 {}).dev.fin (23 : Fin 24)).gap = false ∧ (0 : Fin 24) ≠ 23 := by decide
theorem witness_pulses :
    (∃ k ∈ ([0, 1, 2, 3] : List (Fin 4)), (sIn 1 {}).dev.berm.powered = true ∧ (sIn 1 {}).dev.berm.pulse = none ∧
      (sIn 1 {}).dev.sourcesInUse.contains k.val = false) ∧
    (∃ k ∈ ([0, 1, 2, 3] : List (Fin 4)),
      (sBerm [(FLD_IN_TYPE 23, 3), (FLD_GRP_SRC, 0x3FFFF)]).dev.sourcesInUse.contains k.val = true) ∧
    (sIn 1 {} fun b => { b with pulse := some 3 }).dev.berm.pulse = some 3 := by decide

def sOutput (fs : List (Fld × Nat)) (x : FieldOut) : State := sBerm fs fun b => { b with outs := [(15, x)] }

theorem witness_outputs :
    ((sOutput [] { on := true }).dev.fout (15 : Fin 16)).on = true ∧ ((sOutput [] {}).dev.fout (15 : Fin 16)).on = false ∧
    (let x := (sOutput [] { highRun := 2 }).dev.fout (15 : Fin 16)
     x.on = false ∧ x.testing = false ∧ x.skipOff = 0 ∧ x.highRun = 2 ∧ (sOutput [] { highRun := 2 }).dev.isLamp (15 : Fin 16) = false) ∧
    (((sOutput [] {}).dev.fout (15 : Fin 16)).highRun ≠ 2 ∧ 0 < ((sOutput [] { skipOff := 1 }).dev.fout (15 : Fin 16)).skipOff ∧
      (sOutput [(FLD_OUT_LAMP 15, 1), (FLD_STATUS_SUPPLY, 1)] { testing := true }).dev.isLamp (15 : Fin 16) = true ∧
      (sOutput [(FLD_OUT_LAMP 15, 1), (FLD_STATUS_SUPPLY, 1)] { testing := true }).dev.supplyOk = false ∧
      ((sOutput [(FLD_OUT_LAMP 15, 1), (FLD_STATUS_SUPPLY, 1)] { testing := true }).dev.fout (15 : Fin 16)).testing = true) ∧
    ((sOutput [(FLD_OUT_DTEST 15, 1)] { on := true }).dev.flag (FLD_OUT_DTEST (15 : Fin 16)) = true ∧
      (∀ j, j < 16 → ((sOutput [(FLD_OUT_DTEST 15, 1)] { on := true }).dev.fout j).testing = false)) ∧
    (15 < 16 ∧ ((sOutput [] { testing := true }).dev.fout 15).testing = true ∧ (2 : Fin 3) ≠ 0) := by decide
theorem witness_correlation :
    (let s := sBerm [] fun b => { b with outs := [(0, { on := true }), (15, { correl := some ([0], []) })] }
     0 < 16 ∧ 0 ≠ (15 : Fin 16).val ∧ (s.dev.fout (15 : Fin 16)).correl = some ([0], []) ∧ (s.dev.fout 0).on = true ∧
      s.dev.isSafetyOut (15 : Fin 16) = false ∧ s.dev.isSafetyOut 0 = false ∧
      ([0].filter fun j => (s.dev.fout j).on) = 0 :: []) ∧
    (let s := sBerm [] fun b => { b with outs := [(1, { on := true }), (2, { on := true }), (15, { correl := some ([0, 1, 2], [3]) })] }
     (s.dev.fout (15 : Fin 16)).correl = some ([0, 1, 2], [3]) ∧ ([0, 1, 2].filter fun j => (s.dev.fout j).on) = 1 :: [2]) ∧
    (let s := sOutput [] { correl := some ([0], [3]) }
     (s.dev.fout (15 : Fin 16)).correl = some ([0], [3]) ∧ ∀ j ∈ [0], (s.dev.fout j).on = false) ∧
    ((sOutput [] {}).dev.fout (15 : Fin 16)).correl = none := by decide

def sLamp (x : FieldOut) (fs : List (Fld × Nat) := []) : State :=
  sOutput ([(FLD_OUT_LAMP 15, 1), (FLD_OUT_LMIN 15, 8), (FLD_STATUS_SUPPLY, 0)] ++ fs) x

theorem witness_lamps :
    (let s := sLamp { demand := true, dimRun := 2, litRun := 2 }
     s.dev.isLamp (15 : Fin 16) = true ∧ s.dev.supplyOk = true ∧ s.dev.groupOff (15 : Fin 16) = false ∧
      (s.dev.fout (15 : Fin 16)).testing = false ∧ (s.dev.fout (15 : Fin 16)).skipLamp = 0 ∧
      (s.dev.fout (15 : Fin 16)).demand = true ∧ (3 : Byte).toNat * 4 < s.dev.get (FLD_OUT_LMIN (15 : Fin 16)) * 2 ∧
      s.dev.get (FLD_OUT_LMIN (15 : Fin 16)) * 2 ≤ (4 : Byte).toNat * 4 ∧ (s.dev.fout (15 : Fin 16)).dimRun = 2 ∧
      (s.dev.fout (15 : Fin 16)).litRun = 2 ∧ s.dev.flag (FLD_OUT_FAILED (15 : Fin 16)) = false ∧
      (s.dev.fout (15 : Fin 16)).await = false ∧ Ready s ∧ s.dev.get (FLD_OUT_LSTATE (15 : Fin 16)) = 0) ∧
    (let s := sLamp { lowRun := 2, dimRun := 2 }
     (s.dev.fout (15 : Fin 16)).demand = false ∧ (s.dev.fout (15 : Fin 16)).lowRun = 2 ∧ (s.dev.fout (15 : Fin 16)).dimRun = 2 ∧
      (s.dev.fout (15 : Fin 16)).skipLamp = 0 ∧ s.dev.flag (FLD_OUT_FAILED (15 : Fin 16)) = false) ∧
    ((sLamp { await := true }).dev.fout (15 : Fin 16)).await = true ∧ (sOutput [] {}).dev.isLamp (15 : Fin 16) = false ∧
    (0 < ((sLamp { skipLamp := 1 }).dev.fout (15 : Fin 16)).skipLamp ∧ (sLamp { skipLamp := 1 }).dev.supplyOk = true ∧
      ((sLamp { skipLamp := 1 }).dev.fout (15 : Fin 16)).await = false) ∧
    (sLamp {} [(FLD_OUT_LSTATE 15, 1)]).dev.get (FLD_OUT_LSTATE (15 : Fin 16)) ≠ 0 ∧
    (sLamp {} [(FLD_OUT_FAILED 15, 1)]).dev.flag (FLD_OUT_FAILED (15 : Fin 16)) = true := by decide

def sRearm : State := w [(GLB_MODE_MODE, 0xB), (GLB_MODE_BASE, 5), (GLB_KEY_STAT_OPEN, 1), (FLD_STATUS_GRPA_OFF, 1)]

theorem witness_rearm :
    ((sBerm []).dev.isolationSeen = true ∧ (sBerm []).dev.berm.terpSilent = false) ∧
    (sBerm [(CAB_ISO_MASK, 1)]).dev.isolationSeen = false ∧
    (Ready sRearm ∧ sRearm.dev.keyed .pcie = true ∧ sRearm.dev.get GLB_MODE_MODE = 0xB ∧ sRearm.dev.logFull = false ∧
      (∀ j, j < 16 → (sRearm.dev.fout j).pinHigh = false ∧ sRearm.dev.flag (FLD_OUT_FAILED j) = false)) ∧
    ((w [(GLB_KEY_STAT_OPEN, 1)]).dev.keyed .pcie = true ∧ (w [(GLB_KEY_STAT_OPEN, 1)]).dev.get GLB_MODE_MODE ≠ 0xB) := by
  decide

/-- The logic rail alone is monitored, with some samples below 15.0 V, and at 19.2 V or more, in succession. -/
def sSupply (n m : Nat) : State := sBerm [(FLD_STATUS_SUPPLY, 0), (FLD_SUP_LPL, 384)] fun b => { b with under := [(0, n)], good := [(0, m)] }

theorem witness_field_supply :
    (let s := sSupply 0 0
     s.dev.berm.powered = true ∧ (383 : BitVec 10).toNat < 384 ∧ s.dev.supply = 0 ∧
      (∀ r, r < 3 → 1 ≤ r → s.dev.bermMonitored r = false) ∧ s.dev.berm.ovf = false ∧ s.dev.supply ≠ 3) ∧
    ((sSupply 22 0).dev.bermMonitored 0 = true ∧ 22 ≤ (sSupply 22 0).dev.railUnder 0 ∧ (sSupply 22 0).dev.supply ≠ 3) ∧
    (∀ r, r < 3 → (sSupply 21 0).dev.bermMonitored r = true → (sSupply 21 0).dev.railUnder r < 22) ∧
    (∀ r, r < 3 → (sSupply 0 2000).dev.bermMonitored r = true → 2000 ≤ (sSupply 0 2000).dev.railGood r) ∧
    (sSupply 0 1999).dev.railGood 0 < 2000 ∧ (w []).dev.supply = 3 ∧ (w []).dev.berm.powered = false := by decide

def sCon (st : Nat) : State := w [(SAF_CON_EN 3, 1), (SAF_CONST_STATE, st * 4096), (FLD_STATUS_SUPPLY, 0)]

theorem witness_safety_function :
    ((sCon 1).dev.flag (SAF_CON_EN (3 : Fin 4)) = true ∧ (sCon 1).dev.conState (3 : Fin 4) = 1 ∧ (sCon 1).dev.supply ≠ 3 ∧
      (sCon 3).dev.conState (3 : Fin 4) = 3 ∧ (w []).dev.supply = 3 ∧ Ready (sCon 1)) ∧
    (127 < 128 ∧ (sLane []).dev.isBound 127 = true ∧ (sLane []).dev.laneOf 127 = some 143 ∧ 143 / 18 = (7 : Fin 8).val) ∧
    ((sLane [] fun d => d.onSaf fun x => { x with tstate := 6 }).dev.saf.tstate = 6 ∧
      (sLane [] fun d => d.onSaf fun x => { x with tstate := 1, copy := none }).dev.saf.tstate ≠ 6 ∧
      (sLane [] fun d => d.onSaf fun x => { x with copy := none }).dev.saf.copy = none ∧
      (sLane [] fun d => d.onSaf fun x => { x with copy := some ⟨0, 0, []⟩ }).dev.saf.copy = some ⟨0, 0, []⟩ ∧
      (sLane []).dev.get GLB_MODE_MODE ≠ 0) ∧
    ((sLane []).dev.polder (7 : Fin 8)).toggle = Table.get false (sLane []).dev.saf.toggle (7 : Fin 8) ∧
    crc8 ((List.replicate 18 (1 : Byte)).take 17) ≠ ((List.replicate 18 (1 : Byte)).getD 17 0).toNat := by decide

/-- A twin telegram of R442: version 1, port 1, SRC and DST 0, TSEQ 4, RUNP set. -/
def twinBody : List Byte := [1, 0x0B, 0, 0, 0, 0, 4, 0, 0, 0, 1] ++ List.replicate 31 0
def twinBytes : List Byte := twinBody ++ Dev.le 4 (crc32c twinBody)

theorem witness_twin :
    ((0x88B5 : BitVec 16).toNat = (sLane []).dev.get TWIN_CFG_ETYPE ∧ 46 ≤ twinBytes.length ∧
      crc32c (twinBytes.take 42) = Dev.nat ((twinBytes.drop 42).take 4) ∧ twinBytes.getD 0 0 = 1 ∧
      twinBytes.getD 1 0 = BitVec.ofNat 8 (0x0A + (1 : Fin 2).val) ∧
      Dev.nat ((twinBytes.drop 2).take 2) = (sLane []).dev.get TWIN_ID_SRC ∧
      Dev.nat ((twinBytes.drop 4).take 2) = (sLane []).dev.get TWIN_ID_DST ∧
      Table.get 0 (sLane []).dev.saf.portSeq (1 : Fin 2) ≠ Dev.nat ((twinBytes.drop 6).take 4) + 1 ∧
      (((twinBytes.take 1 ++ (twinBytes.drop 2).take 40).drop 9).getD 0 0).getLsbD 0 = true ∧
      (sLane []).dev.saf.seqOk = false ∧ (sLane []).dev.saf.copy = none) ∧
    -- TSEQ 4 is older than 5
    ((sLane [] fun d => d.onSaf fun x => { x with copy := some ⟨0, 5, []⟩ }).dev.saf.copy = some ⟨0, 5, []⟩ ∧
      Dev.nat ((twinBytes.drop 6).take 4) ≠ 5 ∧ 2 ^ 31 ≤ (Dev.nat ((twinBytes.drop 6).take 4) + (2 ^ 32 - 5)) % 2 ^ 32) ∧
    (46 ≤ (List.replicate 46 (0 : Byte)).length ∧ crc32c ((List.replicate 46 (0 : Byte)).take 42) ≠
      Dev.nat (((List.replicate 46 (0 : Byte)).drop 42).take 4)) := by decide

/-! ### Witnesses: the FIC interpreter -/

def sFic (x : Fic) (fs : List (Fld × Nat) := []) : State := w ([(GLB_MODE_MODE, 1)] ++ fs) fun d => { d with fic := x }

theorem witness_fic :
    (Ready (sFic { prog := 1, pc := 4095 }) ∧ (sFic { prog := 1, pc := 4095 }).dev.ficReady = true ∧ (w []).dev.ficReady = false) ∧
    ((sFic { prog := 2 }).dev.fic.prog = 2 ∧ (sFic { prog := 2 }).dev.ficReady = true ∧ (sFic { prog := 1 }).dev.fic.prog ≠ 2) ∧
    ((sFic { prog := 1 }).dev.fic.prog = 1 ∧ (0x2D0000 : BitVec 24).toNat % 2 ^ 16 % 4 = 0 ∧
      (sFic { prog := 1 }).dev.get GLB_MODE_MODE = 1 ∧ (0x2D0001 : BitVec 24).toNat % 2 ^ 16 % 4 = 1) ∧
    (sFic { prog := 1, wait := .poll 0 0 0 }).dev.fic.wait = .poll 0 0 0 ∧ (sFic { prog := 1 }).dev.fic.wait = .none ∧
    (sFic { prog := 1, wait := .delay }).dev.fic.wait = .delay ∧ (sFic { prog := 1, wait := .deck 0 }).dev.fic.wait = .deck 0 ∧
    (sFic { prog := 1, wait := .deck 1 }).dev.fic.wait = .deck (0 + 1) ∧
    ((sFic { prog := 2, wait := .test 0 54 }).dev.fic.wait = .test 0 54 ∧ (sFic { prog := 2 }).dev.bist.queue = [] ∧
      (sFic { prog := 2 }).dev.bist.run = []) ∧
    (w []).dev.fic.prog = 0 := by decide

/-! ### Witnesses: chapter 11 -/

def sDike (fs : List (Fld × Nat)) (x : Dike → Dike := id) : State := w ([(DIKE_STATUS_STATE, 2)] ++ fs) fun d =>
  { d with dike := x { d.dike with running := true, pc := 1, bank0 := { plen := 3, crc := 5 } } }

theorem witness_dike_phases :
    (Ready (sDike []) ∧ (sDike []).dev.get DIKE_STATUS_STATE = 2 ∧ (sDike []).dev.dike.restart = false ∧
      (sDike []).dev.dike.fclr = false ∧ (sDike []).dev.dike.forceW = none ∧ (sDike []).dev.dike.forces = []) ∧
    (w []).dev.get DIKE_STATUS_STATE ≠ 2 ∧ (w []).dev.dike.restart = false ∧ (w []).dev.dike.running = false ∧
    (sDike [] fun x => { x with restart := true }).dev.dike.restart = true ∧
    ((sDike [(DIKE_STATUS_SWAPPEND, 1)] fun x => { x with swapArmed := true }).dev.flag DIKE_STATUS_SWAPPEND = true ∧
      (sDike [(DIKE_STATUS_SWAPPEND, 1)] fun x => { x with swapArmed := true }).dev.dike.swapArmed = true ∧
      (sDike []).dev.flag DIKE_STATUS_SWAPPEND = false ∧
      (sDike [(DIKE_STATUS_SWAPPEND, 1)]).dev.dike.swapArmed = false) ∧
    ((sDike []).dev.fic.prog = 0 ∧ (sDike []).dev.brch.on = true ∧ (sDike []).dev.dike.running = true ∧
      (4 : Word).toNat ≠ (sDike []).dev.bank.crc ∧ (5 : Word).toNat = (sDike []).dev.bank.crc) := by decide
theorem witness_dike_arm :
    ((sDike [(DIKE_STATUS_STATE, 3)]).dev.wstop = true ∧ (sDike [(DIKE_STATUS_STATE, 3)]).dev.flag (BRCH_STICKY 36) = false ∧
      (sDike [(DIKE_STATUS_STATE, 3)]).dev.get DIKE_STATUS_STOPCAUSE ≠ 2) ∧
    (∀ c ∈ [0, 2 ^ 37], let s := { (sDike [(DIKE_STATUS_STATE, 3), (DIKE_STATUS_STOPCAUSE, 2)]) with
        dev := (sDike [(DIKE_STATUS_STATE, 3), (DIKE_STATUS_STOPCAUSE, 2)]).dev.onBrch fun b => { b with cond := c } }
      s.dev.wstop = true ∧ s.dev.get DIKE_STATUS_STOPCAUSE = 2 ∧ s.dev.brch.cond.testBit 37 = decide (c ≠ 0)) ∧
    (∀ f ∈ ([⟨63, 0, 191, 1, 1⟩, ⟨63, 2, 8191, 1, 1⟩, ⟨63, 8, 2047, 3, 7⟩] : List Force),
      (sDike [] fun x => { x with forces := [f] }).dev.dike.forces = [f] ∧ (f.area = 0 ∨ f.area = 2 ∨ f.area = 8)) ∧
    (sDike []).dev.wstop = false ∧ (sDike [(BRCH_STICKY 36, 1)]).dev.flag (BRCH_STICKY 36) = true := by decide

/-- The program runs at word 1 of 3; operand words at the ends of their areas. -/
theorem witness_dike_bits :
    ((sDike []).dev.dike.running = true ∧ (sDike []).dev.dike.pc + 1 < (sDike []).dev.bank.plen) ∧
    (∀ x ∈ ([(0x0007FF, 0), (0x1003FF, 1), (0x201FFF, 2), (0x40007F, 4), (0x50003F, 5)] : List (BitVec 24 × Nat)),
      x.1.toNat / 2 ^ 16 % 16 = 0 ∧ x.1.toNat / 2 ^ 20 = x.2 ∧ x.1.toNat % 2 ^ 16 < areaSize x.2 ∧
      areaSize x.2 ≤ (x.1 + 1).toNat % 2 ^ 16) ∧
    ((0x3007FF : BitVec 24).toNat / 2 ^ 16 = 3 * 16 ∧ (0x3007FF : BitVec 24).toNat % 2 ^ 16 < 2048) ∧
    ((0x000002 : BitVec 24).toNat / 2 ^ 16 = 0 ∧ (sDike []).dev.dike.pc < (0x000002 : BitVec 24).toNat % 2 ^ 16 ∧
      (0x000002 : BitVec 24).toNat % 2 ^ 16 < (sDike []).dev.bank.plen ∧
      (0x000001 : BitVec 24).toNat % 2 ^ 16 ≤ (sDike []).dev.dike.pc) ∧
    (0x010000 : BitVec 24).toNat / 2 ^ 16 = 1 ∧
    ((0x310000 : BitVec 24).toNat / 2 ^ 16 % 16 ≠ 0 ∧ (0x300000 : BitVec 24).toNat / 2 ^ 20 ∉ [0, 1, 2, 4, 5]) := by decide
theorem witness_dike_stack :
    (sDike []).dev.dike.stack = [] ∧
    (sDike [] fun x => { x with pc := 2 }).dev.bank.plen ≤ (sDike [] fun x => { x with pc := 2 }).dev.dike.pc + 1 ∧
    (sDike [] fun x => { x with stack := List.replicate 15 (true, false) }).dev.dike.stack.length < 16 ∧
    16 ≤ (sDike [] fun x => { x with stack := List.replicate 16 (true, false) }).dev.dike.stack.length ∧
    (sDike [] fun x => { x with stack := [(true, true)] }).dev.dike.stack = [(true, true)] ∧
    (sDike [] fun x => { x with stack := [(true, true)] }).dev.dike.stack ≠ [] := by decide
theorem witness_bit_store :
    (w []).dev.forceAt 2 8191 = none ∧
    (w [] fun d => d.onDike fun x => { x with forces := [⟨63, 2, 8191, 1, 1⟩] }).dev.forceAt 2 8191 ≠ none ∧
    ((1, 7) : Nat × Nat) ≠ (2, 7) := by decide

/-- Word operands at the ends of their areas; a timer and a counter at work. -/
def sTimer (a : Bool) (t : Timer) : State := sDike [] fun x => { x with a := a, timers := [(127, t)] }
theorem witness_dike_words :
    (∀ x ∈ ([(0x60003F, 6), (0x70001F, 7), (0x8007FF, 8), (0x40007F, 4), (0x50003F, 5)] : List (BitVec 24 × Nat)),
      x.1.toNat / 2 ^ 16 % 16 = 0 ∧ x.1.toNat / 2 ^ 20 = x.2 ∧ x.1.toNat % 2 ^ 16 < areaSize x.2) ∧
    ((sTimer false {}).dev.dike.a = false ∧ ((sTimer true {}).dev.timer 127).run = false ∧ (sTimer true {}).dev.dike.a = true ∧
      ((sTimer true { run := true }).dev.timer 127).run = true ∧
      ((sTimer false { q := true, pt := 1, base := 1 }).dev.timer 127).q = true ∧
      0 < ((sTimer false { q := true, pt := 1, base := 1 }).dev.timer 127).pt *
        ((sTimer false { q := true, pt := 1, base := 1 }).dev.timer 127).base ∧
      ((sTimer true { pt := 1, base := 1 }).dev.timer 127).inp = false) ∧
    ((0x00001F : BitVec 24).toNat / 2 ^ 20 = 0 ∧ (0x00001F : BitVec 24).toNat % 2 ^ 16 < 32 ∧
      32 ≤ (0x000020 : BitVec 24).toNat % 2 ^ 16) := by decide

def sForce (fs : List (Fld × Nat)) (x : Dike → Dike := id) : State :=
  w ([(GLB_MODE_MODE, 0xB), (GLB_MODE_BASE, 5), (GLB_KEY_STAT_OPEN, 1), (DIKE_FSEL_ENTRY, 63)] ++ fs) fun d => d.onDike x

theorem witness_online_change :
    (Ready (sForce []) ∧ (sForce []).dev.keyed .pcie = true ∧ (sForce []).dev.get GLB_MODE_MODE = 0xB ∧
      (sForce []).dev.dike.forceW = none ∧ (sForce []).dev.logFull = false) ∧
    ((w [(GLB_KEY_STAT_OPEN, 1)]).dev.keyed .pcie = true ∧ (w [(GLB_KEY_STAT_OPEN, 1)]).dev.get GLB_MODE_MODE ≠ 0xB) ∧
    ((sForce []).dev.forceResult (1 : BitVec 4).toNat (15 : BitVec 16).toNat ((sForce []).dev.get DIKE_FVAL_VALUE) = 1 ∧
      (sForce []).dev.forceResult (1 : BitVec 4).toNat (16 : BitVec 16).toNat ((sForce []).dev.get DIKE_FVAL_VALUE) ≠ 1) ∧
    ((sForce []).dev.keyed .spi = false ∧ ∀ f ∈ (sForce []).dev.dike.forces, f.entry ≠ (sForce []).dev.get DIKE_FSEL_ENTRY) ∧
    ((sForce [] fun x => { x with forceW := some (⟨63, 1, 15, 1, 1⟩, true) }).dev.dike.forceW ≠ none ∧
      { (sForce []) with dev := (sForce []).dev.onMgmt fun m => { m with staged := List.replicate 16 ⟨0, 1, 1, 0, []⟩ } }.dev.logFull = true) ∧
    ((sForce [(DIKE_SAFEOUT_MASK, 0x8000), (DIKE_FVAL_VALUE, 1)]).dev.isSafetyOut (15 : BitVec 16).toNat = true ∧
      (sForce [(DIKE_SAFEOUT_MASK, 0x8000), (DIKE_FVAL_VALUE, 1)]).dev.get DIKE_FVAL_VALUE ≠ 0 ∧
      (sForce [(DIKE_SAFEIN_MASK, 0x800000)]).dev.isSafetyIn (23 : BitVec 16).toNat = true) ∧
    ((sForce [] fun x => { x with forces := [⟨63, 1, 15, 1, 1⟩] }).dev.dike.forces.find? fun g =>
      g.entry = (sForce [] fun x => { x with forces := [⟨63, 1, 15, 1, 1⟩] }).dev.get DIKE_FSEL_ENTRY) =
        some ⟨63, 1, 15, 1, 1⟩ := by decide

/-! ### Witnesses: the block as a whole -/

theorem witness_step : ({ (w []) with pending := [.powerOn, .trst] } : State).pending = .powerOn :: [.trst] ∧
    (w []).pending = [] ∧ (sAsleep 8).dev.awake = false ∧ actsInReset .injectTimeout = false := by decide
theorem witness_message : ∃ t, exec .trst (w []) = .next t := ⟨_, rfl⟩
theorem witness_invariant_step : ∃ t, step (w []) = .next t := ⟨_, rfl⟩
theorem witness_invariant : PinsTrue (w []).dev ∧ (w []).dev.mode.due = 0 ∧ (w []).dev.mode.dueSafe = false := by
  unfold PinsTrue SafeNLow EvtNLow; decide

/-! ### Check strings (R108, R120, R225, R442) and single steps, expected results by hand from the rules -/

def digits : List Byte := [0x31, 0x32, 0x33, 0x34, 0x35, 0x36, 0x37, 0x38, 0x39]

theorem test_crc16 : crc16 digits = 0x29B1 := by decide
theorem test_crc8 : crc8 digits = 0xF4 := by decide
theorem test_crc32 : crc32 digits = 0xCBF43926 := by decide
theorem test_crc32c : crc32c digits = 0xE3069283 := by decide

/-- The device after one step with a command in front. -/
def after1 (c : Instr) (s : State) : Dev :=
  match step { s with pending := [c] } with
  | .next t => t.dev
  | _ => s.dev

/-- R332: g3 := g1 + g2 wraps; a word with rd = 15, ra = 1, rb = 2. -/
theorem test_polder_add_wraps : ((after1 (.pldAdd 7 0x3C48000) (sPld 1 false [] [] fun d => d.onPolder 7 fun y =>
    { y with regs := [(1, 0xFFFFFFFF), (2, 2)] })).gpr 7 15) = 1 := by decide
/-- R373: a counter stops at 65535. -/
theorem test_dike_counter_stops : ((after1 (.dikeCtu 0x50003F) (sDike [] fun x =>
    { x with a := true, counts := [(63, { value := 65535, preset := 65535 })] })).counter 63).value = 65535 := by decide
/-- R538: LDI extends the sign. -/
theorem test_fic_ldi : (after1 (.ficLdi 0xF08000) (sFic { prog := 1 })).vreg 15 = 0xFFFF8000 := by decide
/-- R459, R461: a source of level 3 is unacknowledged and LEVEL is 3. -/
theorem test_breach_level : (after1 (.breachRaise 24 false 0 0 []) (sDark [])).get BRCH_STATUS_LEVEL = 3 ∧
    (after1 (.breachRaise 24 false 0 0 []) (sDark [])).flag (BRCH_UNACK 24) = true := by decide

end Sys2Proof.Tests
end

section
/-! PROOF. Register access (R4 to R9, R283, R310, R583): what a write and a read of a word do at the offsets that the
statements name, what the SPI frames do, and the two statements about register access. -/

namespace Sys2Proof.Machine

open Reg

namespace Dev

/-! ### Completions and responses: no pin of R575 mutes them -/

theorem send_read (d : Dev) (v : Nat) : d.send (.read v) = d.emits (.read v) := rfl
theorem send_spi (d : Dev) (bs : List Byte) : d.send (.spi bs) = d.emits (.spi bs) := rfl

@[simp] theorem emits_mode (d : Dev) (o : Out) : (d.emits o).mode = d.mode := rfl
@[simp] theorem emits_out (d : Dev) (o : Out) : (d.emits o).out = d.out ++ [o] := rfl
@[simp] theorem emits_get (d : Dev) (o : Out) (f : Fld) : (d.emits o).get f = d.get f := rfl
@[simp] theorem showPins_out (d : Dev) : d.showPins.out = d.out := rfl

/-- The bytes that the byte enables address, byte by byte. -/
theorem addressed_eq (be : BitVec 4) (n : Nat) : addressed be n =
    (if be.getLsbD 0 then n % 256 else 0) + (if be.getLsbD 1 then n / 256 % 256 * 256 else 0) +
    (if be.getLsbD 2 then n / 65536 % 256 * 65536 else 0) +
    (if be.getLsbD 3 then n / 16777216 % 256 * 16777216 else 0) := by
  simp [addressed, List.range_succ]

theorem addressed_all (v : Word) : addressed 0xF v.toNat = v.toNat := by
  have hb : ∀ i < 4, (0xF : BitVec 4).getLsbD i = true := by decide
  have hv : v.toNat < 2 ^ 32 := v.isLt
  rw [addressed_eq, if_pos (hb 0 (by decide)), if_pos (hb 1 (by decide)), if_pos (hb 2 (by decide)),
    if_pos (hb 3 (by decide))]
  omega

/-! ### Writes: a plain register, a KRW register without the key, a register spared from the FIC interpreter -/

theorem fieldsAt_gpio : fieldsAt 0x60 =
    [⟨GLB_GPIO_IN, .ro, .none, 0, 255⟩, ⟨GLB_GPIO_CLAIMED, .ro, .none, 0, 255⟩,
      ⟨GLB_GPIO_OUT, .rw, .none, 0, 255⟩, ⟨GLB_GPIO_DIR, .rw, .none, 0, 255⟩] := by decide

/-- Without the key a write changes no field of BRCH_INJ_CTRL (R478). -/
theorem fieldsAt_injCtrl : ∀ a ∈ fieldsAt 0x20080, a.ty = .krw ∨ a.ty = .ka := by decide

/-- The table of GLB_GPIO states no limits (R601). -/
theorem legal_gpio (d : Dev) (v : Nat) : d.legal 0x60 v = v := by
  have h : laneOf? 0x60 0 = none := by decide
  simp [legal, h]

/-- The table of BRCH_INJ_CTRL states no limits (R478). -/
theorem legal_injCtrl (d : Dev) (v : Nat) : d.legal 0x20080 v = v := by
  have h : laneOf? 0x20080 0 = none := by decide
  simp [legal, h]

theorem writeFields_gpio (p : Path) (v : Nat) (d : Dev) : writeFields p 0x60 v d =
    (d.put GLB_GPIO_OUT (part v GLB_GPIO_OUT)).put GLB_GPIO_DIR (part v GLB_GPIO_DIR) := by
  have hk : hasKrw 0x60 = false := by decide
  simp [writeFields, hk, fieldsAt_gpio, legal_gpio, each, writeField]

theorem writeReg_gpio (p : Path) (v : Nat) (d : Dev) : writeReg p 0x60 v d =
    (d.put GLB_GPIO_OUT (part v GLB_GPIO_OUT)).put GLB_GPIO_DIR (part v GLB_GPIO_DIR) := by
  rw [← writeFields_gpio p v d]
  simp [writeReg, ficSpared, writeGlobal, indexOf]

/-- A field of type KRW, or an action, keeps its value in a write without the key (R625). -/
theorem writeField_unkeyed {a : FieldAt} (h : a.ty = .krw ∨ a.ty = .ka) (v : Nat) (d : Dev) :
    writeField v false a d = d := by
  rcases h with h | h <;> simp [writeField, h]

theorem each_writeField_unkeyed {as : List FieldAt} (h : ∀ a ∈ as, a.ty = .krw ∨ a.ty = .ka) (v : Nat) (d : Dev) :
    each as (writeField v false) d = d := by
  induction as with
  | nil => rfl
  | cons a as ih =>
    rw [each, List.foldl_cons, writeField_unkeyed (h a (by simp))]
    exact ih fun b hb => h b (by simp [hb])

/-- A write of BRCH_INJ_CTRL without the key that differs in a KRW field is rejected, and nothing is armed (R470). -/
theorem writeReg_injCtrl_rejected {p : Path} {v : Nat} {d : Dev} (hk : d.keyed p = false)
    (hv : d.keyDiffers 0x20080 v = true) : writeReg p 0x20080 v d = rejectKey p 0x20080 d := by
  have hkrw : hasKrw 0x20080 = true := by decide
  have hw : writeFields p 0x20080 v d = rejectKey p 0x20080 d := by
    simp [writeFields, legal_injCtrl, hkrw, hk, hv, each_writeField_unkeyed fieldsAt_injCtrl]
  simp [writeReg, ficSpared, writeBreach, writeThen, hk, hw]

theorem writeReg_fic_spared {off : Nat} (h : ficSpared off = true) (v : Nat) (d : Dev) : writeReg .fic off v d = d := by
  simp [writeReg, h]

/-! ### Reads: RC fields, and a quantity wider than 32 bits -/

theorem fieldsAt_breachStatus_rc : (fieldsAt 0x20000).filter (fun a => a.ty == .rc) =
    [⟨BRCH_STATUS_RESULT, .rc, .none, 0, 15⟩, ⟨BRCH_STATUS_PEAK, .rc, .none, 0, 7⟩] := by decide

theorem clearRead_breachStatus (d : Dev) :
    clearRead 0x20000 d = (d.clear BRCH_STATUS_RESULT).clear BRCH_STATUS_PEAK := by
  simp [clearRead, clearAt, fieldsAt_breachStatus_rc, each]

theorem readReg_breachStatus (p : Path) (d : Dev) :
    readReg p 0x20000 d = (d.readFields 0x20000, (d.clear BRCH_STATUS_RESULT).clear BRCH_STATUS_PEAK) := by
  rw [← clearRead_breachStatus]
  simp [readReg, wideLow, indexOf]

theorem readReg_periodLo (p : Path) (d : Dev) :
    readReg p 0x10018 d = (d.readFields 0x10018, setShadow 0x1001C (d.readFields 0x1001C) d) := by
  simp [readReg, wideLow]

theorem readReg_periodHi (p : Path) (d : Dev) : readReg p 0x1001C d = (Table.get 0 d.shadow 0x1001C, d) := by
  simp [readReg, wideLow]

/-! ### SPI frames (R310) -/

theorem spiWrite_closed {d : Dev} (h : d.spiOpen = false) (bs : List Byte) : spiWrite bs d = d := by
  simp [spiWrite, h]

theorem spiWrite_length {d : Dev} {bs : List Byte} (h : d.spiOpen = true) (hl : bs.length ≠ 9) :
    spiWrite bs d = { d.inc RACE_SPI_LENERR with spi := { wcrc := true, wkey := false } } := by
  simp [spiWrite, h, hl]

theorem spiWrite_badCrc {d : Dev} {bs : List Byte} (h : d.spiOpen = true) (hl : bs.length = 9)
    (hc : crc8 (bs.take 8) ≠ (bs.getD 8 0).toNat) :
    spiWrite bs d = { d.inc RACE_SPI_CRCERR with spi := { wcrc := true, wkey := false } } := by
  unfold spiWrite
  rw [h, if_neg (by decide), if_neg (not_not_intro hl), if_pos hc]

theorem spiWrite_goodCrc {d : Dev} {bs : List Byte} (h : d.spiOpen = true) (hl : bs.length = 9)
    (hc : crc8 (bs.take 8) = (bs.getD 8 0).toNat) :
    spiWrite bs d =
      (let d := { d with spi := { wcrc := false, wkey := false } }
       if bs.getD 0 0 = 0x02 then writeReg .spi (4 * nat ((bs.drop 1).take 3)) (nat ((bs.drop 4).take 4)) d else d) := by
  unfold spiWrite
  rw [h, if_neg (by decide), if_neg (not_not_intro hl), if_neg (not_not_intro hc)]

theorem spiRead_closed {d : Dev} (h : d.spiOpen = false) (bs : List Byte) : spiRead bs d = d := by
  simp [spiRead, h]

theorem spiRead_open {d : Dev} (h : d.spiOpen = true) (bs : List Byte) :
    spiRead bs d =
      (let ok := decide (5 ≤ bs.length) && crc8 (bs.take 4) == (bs.getD 4 0).toNat
       let r := if ok then readReg .spi (4 * nat ((bs.drop 1).take 3)) d else (0, d)
       let status := d.spi.wcrc.toNat + 2 * d.spi.wkey.toNat + 4 * (!ok).toNat
       let e := if 5 ≤ bs.length ∧ !ok then r.2.inc RACE_SPI_CRCERR else r.2
       (if bs.length = 13 then e else e.inc RACE_SPI_LENERR).emits (.spi ((spiResponse status r.1).take bs.length))) := by
  unfold spiRead
  rw [h, if_neg (by decide)]
  rfl

theorem length_spiResponse (status v : Nat) : (spiResponse status v).length = 13 := by simp [spiResponse, le]

/-- A read frame of 13 bytes whose CRC passes: the register's value in its response, and nothing is counted. -/
theorem spiRead_goodCrc {d : Dev} {bs : List Byte} (h : d.spiOpen = true) (hl : bs.length = 13)
    (hc : crc8 (bs.take 4) = (bs.getD 4 0).toNat) :
    spiRead bs d =
      (let r := readReg .spi (4 * nat ((bs.drop 1).take 3)) d
       r.2.emits (.spi (spiResponse (d.spi.wcrc.toNat + 2 * d.spi.wkey.toNat) r.1))) := by
  have hok : (decide (5 ≤ bs.length) && crc8 (bs.take 4) == (bs.getD 4 0).toNat) = true := by
    simp [-List.getD_eq_getElem?_getD, hl, hc]
  have ht (k v : Nat) : (spiResponse k v).take bs.length = spiResponse k v :=
    List.take_of_length_le (Nat.le_of_eq ((length_spiResponse k v).trans hl.symm))
  rw [spiRead_open h]
  simp only [hok, ht]
  simp [hl]

end Dev

open Dev

/-! ### The arms of the five commands -/

theorem exec_registerWrite (p : Path) (o : BitVec 18) (v : Word) (be : BitVec 4) (s : State) :
    exec (.registerWrite p o v be) s = s.next fun d => if be = 0xF then writeReg p (4 * o.toNat) v.toNat d else d := rfl
theorem exec_rcRead (p : Path) (o : BitVec 18) (be : BitVec 4) (s : State) :
    exec (.rcRead p o be) s = s.next (answerRead p o.toNat be) := rfl
theorem exec_wideReadLow (p : Path) (o : BitVec 18) (be : BitVec 4) (s : State) :
    exec (.wideReadLow p o be) s = exec (.rcRead p o be) s := rfl
theorem exec_spiWriteFrame (bs : List Byte) (s : State) : exec (.spiWriteFrame bs) s = s.next (spiWrite bs) := rfl
theorem exec_spiReadFrame (bs : List Byte) (s : State) : exec (.spiReadFrame bs) s = s.next (spiRead bs) := rfl

section

variable {s : State}

/-! ### Writes and reads of a word -/

theorem exec_registerWrite_whole (hr : Ready s) (p : Path) (o : BitVec 18) (v : Word) :
    exec (.registerWrite p o v 0xF) s = .next (s.settles (writeReg p (4 * o.toNat) v.toNat s.dev)) := by
  rw [exec_registerWrite]
  exact State.next_settles hr (if_pos rfl)

/-- A write whose effect imposes nothing and sends nothing. -/
theorem exec_registerWrite_shows (hr : Ready s) {p : Path} {o : BitVec 18} {v : Word} {E : Dev}
    (hE : writeReg p (4 * o.toNat) v.toNat s.dev = E) (hm : E.mode = s.dev.mode) (ho : E.out = s.dev.out) :
    exec (.registerWrite p o v 0xF) s = .next (s.shows E) := by
  rw [exec_registerWrite]
  exact State.next_shows hr ((if_pos rfl).trans hE) hm (.inl ho)

theorem exec_rcRead_settles (hr : Ready s) (p : Path) (o : BitVec 18) (be : BitVec 4) :
    exec (.rcRead p o be) s = .next (s.settles ((readReg p (4 * o.toNat) s.dev).2.emits
      (.read (addressed be (readReg p (4 * o.toNat) s.dev).1)))) := by
  rw [exec_rcRead]
  exact State.next_settles hr (send_read _ _)

/-- A read whose effect imposes nothing and sends nothing beside the completion. -/
theorem exec_rcRead_shows (hr : Ready s) {p : Path} {o : BitVec 18} (be : BitVec 4) {n : Nat} {E : Dev}
    (hE : readReg p (4 * o.toNat) s.dev = (n, E)) (hm : E.mode = s.dev.mode) (ho : E.out = s.dev.out) :
    exec (.rcRead p o be) s = .next (s.shows (E.emits (.read (addressed be n)))) := by
  have ha : answerRead p o.toNat be s.dev = E.emits (.read (addressed be n)) := by
    rw [answerRead, hE]
    exact send_read _ _
  rw [exec_rcRead]
  exact State.next_shows hr ha hm (.inr ⟨_, by rw [emits_out, ho]⟩)

/-- A read of the low word of a wide quantity completes as any read does (R9). -/
theorem exec_wideReadLow_settles (hr : Ready s) (p : Path) (o : BitVec 18) (be : BitVec 4) :
    exec (.wideReadLow p o be) s = .next (s.settles ((readReg p (4 * o.toNat) s.dev).2.emits
      (.read (addressed be (readReg p (4 * o.toNat) s.dev).1)))) :=
  (exec_wideReadLow p o be s).trans (exec_rcRead_settles hr p o be)

theorem exec_registerWrite_gpio (hr : Ready s) (p : Path) (v : Word) :
    ∃ t, exec (.registerWrite p 0x18 v 0xF) s = .next t ∧
      t.dev.get GLB_GPIO_OUT = v.toNat / 2 ^ GLB_GPIO_OUT.lsb % 2 ^ GLB_GPIO_OUT.w := by
  refine ⟨_, exec_registerWrite_shows hr (writeReg_gpio p v.toNat s.dev) rfl rfl, ?_⟩
  rw [State.shows, get_showPins_ne _ (by decide) (by decide), get_put_ne _ _ (by decide), get_put_same, part,
    Nat.mod_mod]

theorem exec_rcRead_breachStatus (hr : Ready s) (p : Path) (be : BitVec 4) :
    ∃ t, exec (.rcRead p 0x8000 be) s = .next t ∧ t.dev.get BRCH_STATUS_PEAK = 0 ∧
      t.dev.out = s.dev.out ++ [.read (addressed be (s.dev.readFields 0x20000))] := by
  refine ⟨_, exec_rcRead_shows hr be (readReg_breachStatus p s.dev) rfl rfl, ?_, rfl⟩
  rw [State.shows, get_showPins_ne _ (by decide) (by decide), emits_get, clear, get_put_same]
  rfl

/-! ### SPI frames -/

/-- A frame whose effect imposes nothing and sends nothing. -/
theorem exec_spiWriteFrame_shows (hr : Ready s) {bs : List Byte} {E : Dev} (hE : spiWrite bs s.dev = E)
    (hm : E.mode = s.dev.mode) (ho : E.out = s.dev.out) : exec (.spiWriteFrame bs) s = .next (s.shows E) := by
  rw [exec_spiWriteFrame]
  exact State.next_shows hr hE hm (.inl ho)

/-- A frame before the slave takes frames changes nothing (R583). -/
theorem exec_spiFrames_closed (hr : Ready s) (h : s.dev.spiOpen = false) (bs : List Byte) :
    exec (.spiWriteFrame bs) s = .next (s.shows s.dev) ∧ exec (.spiReadFrame bs) s = .next (s.shows s.dev) := by
  rw [exec_spiReadFrame]
  exact ⟨exec_spiWriteFrame_shows hr (spiWrite_closed h bs) rfl rfl,
    State.next_shows hr (spiRead_closed h bs) rfl (.inl rfl)⟩

theorem exec_spiReadFrame_periodHi (hr : Ready s) {bs : List Byte} (h : s.dev.spiOpen = true) (hl : bs.length = 13)
    (hc : crc8 (bs.take 4) = (bs.getD 4 0).toNat) (ha : Dev.nat ((bs.drop 1).take 3) = 0x4007) :
    exec (.spiReadFrame bs) s = .next (s.shows (s.dev.emits (.spi
      (spiResponse (s.dev.spi.wcrc.toNat + 2 * s.dev.spi.wkey.toNat) (Table.get 0 s.dev.shadow 0x1001C))))) := by
  have hE := spiRead_goodCrc h hl hc
  rw [ha, readReg_periodHi] at hE
  rw [exec_spiReadFrame]
  exact State.next_shows hr hE rfl (.inr ⟨_, rfl⟩)

end

/-! ### The statements -/

/-- Settles O40: the write's effect is the device itself, which imposes nothing and sends nothing. -/
theorem partialWriteDiscarded : Obligations.PartialWriteDiscarded := by
  unfold Obligations.PartialWriteDiscarded
  intro s p o v be hbe hr
  rw [exec_registerWrite]
  exact State.next_shows hr (if_neg hbe) rfl (.inl rfl)

/-- Settles O41: each clause from the value of `writeReg`, `readReg`, `spiWrite` or `spiRead` at its operands. -/
theorem registerAccessCommandsComplete : Obligations.RegisterAccessCommandsComplete := by
  unfold Obligations.RegisterAccessCommandsComplete
  intro s hr
  refine ⟨exec_registerWrite_whole hr, fun p o be => ⟨exec_rcRead_settles hr p o be, exec_wideReadLow_settles hr p o be⟩,
    addressed_all, fun p v _ => exec_registerWrite_gpio hr p v, ?keyRejected, ?ficSpared,
    exec_rcRead_breachStatus hr, ?periodLo, ?periodHi, ?frameLength, ?frameCrc, ?frameWrites, ?readFrame,
    fun _ => exec_spiReadFrame_periodHi hr, fun bs h => exec_spiFrames_closed hr h bs⟩
  case keyRejected =>
    intro v hk hv
    exact exec_registerWrite_shows hr (writeReg_injCtrl_rejected hk hv) rfl rfl
  case ficSpared =>
    intro v
    exact exec_registerWrite_shows hr (writeReg_fic_spared (by decide) _ _) rfl rfl
  case periodLo =>
    intro p be
    rw [exec_wideReadLow]
    exact exec_rcRead_shows hr be (readReg_periodLo p s.dev) rfl rfl
  case periodHi =>
    intro p be
    exact exec_rcRead_shows hr be (readReg_periodHi p s.dev) rfl rfl
  case frameLength =>
    intro bs h hl
    exact exec_spiWriteFrame_shows hr (spiWrite_length h hl) rfl rfl
  case frameCrc =>
    intro bs h hl hc
    exact exec_spiWriteFrame_shows hr (spiWrite_badCrc h hl hc) rfl rfl
  case frameWrites =>
    intro bs h hl hc
    rw [exec_spiWriteFrame]
    exact State.next_settles hr (spiWrite_goodCrc h hl hc)
  case readFrame =>
    intro bs h
    rw [exec_spiReadFrame]
    exact State.next_settles hr (spiRead_open h bs)

end Sys2Proof.Machine
end

section
/-! PROOF. A ranging sample (R80): what the operations of a lane do to its record and to the applied delays of all
lanes, and the statement about one sample. -/

namespace Sys2Proof.Machine

open Reg

namespace Table

variable {α : Type}

theorem erase_insert_same (m : Table α) (x : Nat) (v : α) : erase (insert m x v) x = erase m x := by
  induction m with
  | nil => simp [insert, erase]
  | cons e m ih =>
    by_cases hl : x < e.1
    · simp [insert, hl, erase]
    · rw [insert, if_neg hl, erase, erase, ih]

theorem erase_erase_same (m : Table α) (x : Nat) : erase (erase m x) x = erase m x := by
  induction m with
  | nil => rfl
  | cons e m ih => by_cases he : x = e.1 <;> simp_all [erase]

/-- The later of two writes of one key stands. -/
theorem put_put_same [DecidableEq α] (d : α) (m : Table α) (x : Nat) (v w : α) :
    put d (put d m x v) x w = put d m x w := by
  have he : erase (put d m x v) x = erase m x := by
    unfold put
    split
    · exact erase_erase_same m x
    · rw [erase_insert_same, erase_erase_same]
  rw [put, he, put]

end Table

/-! ### Places in the register file -/

theorem Fld.key_ne_of_off {f g : Fld} (hf : f.lsb < 32) (hg : g.lsb < 32) (h : g.off ≠ f.off) : g.key ≠ f.key := by
  unfold Fld.key
  omega

/-- The registers of the lanes lie above those of the management, the events and the races (R620). -/
theorem le_laneOff (L : Nat) : 0x41000 ≤ laneOff L := by unfold laneOff; omega

/-- The registers of a lane start at a multiple of 64 bytes (R620). -/
theorem laneOff_mod (L : Nat) : laneOff L % 64 = 0 := by unfold laneOff; omega

namespace Dev

/-! ### The record of a lane -/

@[simp] theorem lane_onLane_same (d : Dev) (L : Nat) (f : Lane → Lane) : (d.onLane L f).lane L = f (d.lane L) :=
  Table.get_put_same _ _ _ _
theorem lane_onLane_ne (d : Dev) {L M : Nat} (f : Lane → Lane) (h : M ≠ L) : (d.onLane L f).lane M = d.lane M :=
  Table.get_put_ne _ _ _ h

theorem onLane_onLane (d : Dev) (L : Nat) (f g : Lane → Lane) :
    (d.onLane L f).onLane L g = d.onLane L fun x => g (f x) := by
  rw [onLane, lane_onLane_same]
  simp only [onLane, setLane, Table.put_put_same]

@[simp] theorem onLane_get (d : Dev) (L : Nat) (f : Lane → Lane) (g : Fld) : (d.onLane L f).get g = d.get g := rfl
@[simp] theorem onLane_flag (d : Dev) (L : Nat) (f : Lane → Lane) (g : Fld) : (d.onLane L f).flag g = d.flag g := rfl

/-! ### An event beside its registers -/

@[simp] theorem vatTrigger_lanes (d : Dev) : d.vatTrigger.lanes = d.lanes := by
  rcases vatTrigger_frame d with h | h <;> rw [h]
  rfl
@[simp] theorem send_lanes (d : Dev) (o : Out) : (d.send o).lanes = d.lanes := by
  rcases send_cases d o with h | h <;> rw [h]
@[simp] theorem message_lanes (d : Dev) (v : Nat) : (d.message v).lanes = d.lanes := by
  unfold message
  split
  · rfl
  · exact send_lanes d _
@[simp] theorem message_get (d : Dev) (v : Nat) (f : Fld) : (d.message v).get f = d.get f := by simp [get]

/-- What an event does once it has triggered the vat or not: nothing where it was pending, else it sets its pending bit
and sends at most a message. -/
theorem event_cases (d : Dev) (e : Nat) : ∃ x, (x = d ∨ x = d.vatTrigger) ∧
    (d.event e = x ∨ d.event e = x.set (EVT_PEND e) ∨ ∃ v, d.event e = (x.set (EVT_PEND e)).message v) := by
  have raised (x : Dev) : ∀ y, y = (if x.flag (EVT_PEND e) then x
        else if x.flag (EVT_EN e) then (x.set (EVT_PEND e)).message (x.get (EVT_MAP e)) else x.set (EVT_PEND e)) →
      y = x ∨ y = x.set (EVT_PEND e) ∨ ∃ v, y = (x.set (EVT_PEND e)).message v := by
    rintro _ rfl
    split
    · exact .inl rfl
    · split
      · exact .inr (.inr ⟨_, rfl⟩)
      · exact .inr (.inl rfl)
  by_cases h : (d.flag RACE_VAT_CTRL_EVTEN && d.get RACE_VAT_CTRL_EVT == e) = true
  · exact ⟨d.vatTrigger, .inr rfl, raised _ _ (by rw [event, if_pos h])⟩
  · exact ⟨d, .inl rfl, raised _ _ (by rw [event, if_neg h])⟩

@[simp] theorem event_lanes (d : Dev) (e : Nat) : (d.event e).lanes = d.lanes := by
  obtain ⟨x, hx, h⟩ := event_cases d e
  have hl : x.lanes = d.lanes := by rcases hx with rfl | rfl <;> simp
  rcases h with h | h | ⟨v, h⟩ <;> simp [h, hl, set]

/-- An event changes its pending bit and the vat's state, and no other field. -/
theorem event_get_ne (d : Dev) (e : Nat) {f : Fld} (hp : f.key ≠ (EVT_PEND e).key)
    (hv : f.key ≠ RACE_VAT_STAT_STATE.key) : (d.event e).get f = d.get f := by
  obtain ⟨x, hx, h⟩ := event_cases d e
  have hg : x.get f = d.get f := by
    rcases hx with rfl | rfl
    · rfl
    · rcases vatTrigger_frame d with ht | ht <;> rw [ht]
      exact get_put_ne d 2 hv
  rcases h with h | h | ⟨v, h⟩ <;> simp [h, hg, get_set_ne _ hp]

/-! ### The applied delays of the lanes -/

/-- The applied delay of every lane. -/
def douts (d : Dev) (L : Nat) : Int := (d.lane L).dout

theorem douts_of_lanes {d e : Dev} (h : e.lanes = d.lanes) : e.douts = d.douts := by
  unfold douts lane
  rw [h]

/-- A change of a lane's record that spares its applied delay. -/
theorem douts_onLane (d : Dev) (L : Nat) {f : Lane → Lane} (h : ∀ x, (f x).dout = x.dout) :
    (d.onLane L f).douts = d.douts := by
  funext M
  by_cases hM : M = L
  · subst hM
    rw [douts, lane_onLane_same, h, douts]
  · rw [douts, lane_onLane_ne d f hM, douts]

/-- What each of several operations spares, all of them spare. -/
theorem each_keeps {α β : Type} (P : Dev → β) {f : α → Dev → Dev} (h : ∀ a d, P (f a d) = P d) (xs : List α)
    (d : Dev) : P (each xs f d) = P d := by
  induction xs generalizing d with
  | nil => rfl
  | cons a xs ih => exact (ih (f a d)).trans (h a d)

/-- An operation made under a condition only. -/
theorem ite_keeps {β : Type} (P : Dev → β) {p : Prop} [Decidable p] {a b : Dev} (h : P a = P b) :
    P (if p then a else b) = P b := by
  split
  · exact h
  · rfl

/-! ### The end of a binding spares the applied delays (R198, R199) -/

theorem endDesc_lanes (q : Nat) (x : Desc) (status dlen : Nat) (d : Dev) :
    (endDesc q x status dlen d).lanes = d.lanes := rfl

@[simp] theorem endRequest_lanes (q status : Nat) (req : List Desc) (d : Dev) :
    (endRequest q status req d).lanes = d.lanes :=
  each_keeps Dev.lanes (fun x d => endDesc_lanes q x status x.acked d) req d

@[simp] theorem endFilling_lanes (q status : Nat) (p : Desc → Bool) (d : Dev) :
    (endFilling q status p d).lanes = d.lanes :=
  each_keeps Dev.lanes (fun x d => endDesc_lanes q x status x.dlen d) _ d

/-- The end of a context's transfers drops the packets that wait on its lane, and no more of the lanes (R300, R301). -/
theorem raceLost_douts (c : Nat) (d : Dev) : (raceLost c d).douts = d.douts := by
  unfold raceLost
  extract_lets e
  have hraces : e.lanes = d.lanes := by
    refine each_keeps Dev.lanes (fun q d => ?_) _ d
    split
    · exact each_keeps Dev.lanes (fun r d => endRequest_lanes q _ r d) _ d
    · exact ite_keeps Dev.lanes (endFilling_lanes q _ _ d)
  split
  · exact (douts_onLane _ _ (fun _ => by rfl)).trans (douts_of_lanes hraces)
  · exact douts_of_lanes hraces

@[simp] theorem couchPlace_lanes (c : Nat) (d : Dev) : (couchPlace c d).lanes = d.lanes := by
  unfold couchPlace
  split <;> rfl

theorem onSluLane_lanes (d : Dev) (k : Nat) (f : SluLane → SluLane) : (d.onSluLane k f).lanes = d.lanes := rfl

@[simp] theorem sluQueue_lanes (it : SluItem) (d : Dev) : (sluQueue it d).lanes = d.lanes :=
  each_keeps Dev.lanes (fun k d => onSluLane_lanes d k _) _ d

@[simp] theorem snapshot_lanes (d : Dev) : d.snapshot.lanes = d.lanes :=
  each_keeps Dev.lanes (fun k d => onSluLane_lanes d k _) _ (d.onSlu fun s => { s with snap := none })

@[simp] theorem setSafeHold_lanes (c : Nat) (b : Bool) (d : Dev) : (setSafeHold c b d).lanes = d.lanes := by
  unfold setSafeHold
  split
  · rfl
  · exact ite_keeps Dev.lanes (couchPlace_lanes c _)

theorem setCtxState_douts (c s : Nat) (d : Dev) : (setCtxState c s d).douts = d.douts := by
  unfold setCtxState
  split
  · rfl
  extract_lets was e f g
  have he : e.douts = d.douts := ite_keeps douts (raceLost_douts c d)
  have hf : f.douts = e.douts := douts_of_lanes (event_lanes _ c)
  have hg : g.douts = f.douts := ite_keeps douts (douts_of_lanes (couchPlace_lanes c f))
  exact (ite_keeps douts (douts_of_lanes (sluQueue_lanes _ g))).trans (hg.trans (hf.trans he))

theorem laneDark_douts (L : Nat) (d : Dev) : (laneDark L d).douts = d.douts :=
  douts_onLane ((d.put (LANE_CFG_ROLE L) 0).showLink L) L fun _ => by rfl

theorem lose_douts (cause c : Nat) (d : Dev) : (lose cause c d).douts = d.douts := by
  unfold lose
  split
  · rfl
  extract_lets e f g h i j
  have he : e.douts = d.douts := setCtxState_douts c St.lost d
  have hh : h.douts = e.douts := douts_of_lanes (setSafeHold_lanes c false g)
  have hi : i.douts = h.douts := by
    subst i
    split
    · exact laneDark_douts _ h
    · rfl
  have hj : j.douts = i.douts := ite_keeps douts (douts_of_lanes (sluQueue_lanes _ i))
  exact (ite_keeps douts (douts_of_lanes (snapshot_lanes j))).trans (hj.trans (hi.trans (hh.trans he)))

/-! ### A valid filter shows in a word of its own (R620) -/

/-- A field at another offset within 64 bytes than LANE_DOUT. -/
theorem get_setValid_ne (d : Dev) (L : Nat) {g : Fld} (h : g.off % 64 ≠ 32 ∧ g.lsb < 32) :
    (d.set (LANE_DOUT_VALID L)).get g = d.get g := by
  obtain ⟨hoff, hlsb⟩ := h
  have hL := laneOff_mod L
  have hne : g.off ≠ (LANE_DOUT_VALID L).off := by simp only [LANE_DOUT_VALID]; omega
  exact get_set_ne d (Fld.key_ne_of_off (by simp [LANE_DOUT_VALID]) hlsb hne)

theorem ctxState_setValid (d : Dev) (L c : Nat) : (d.set (LANE_DOUT_VALID L)).ctxState c = d.ctxState c :=
  get_setValid_ne d L (by simp only [CTX_STATE_STATE]; omega)

theorem laneOf_setValid (d : Dev) (L c : Nat) : (d.set (LANE_DOUT_VALID L)).laneOf c = d.laneOf c := by
  unfold laneOf flag
  rw [get_setValid_ne d L (g := CTX_BIND_VALID c) (by simp only [CTX_BIND_VALID]; omega),
    get_setValid_ne d L (g := CTX_BIND_LANE c) (by simp only [CTX_BIND_LANE]; omega)]

theorem gangOf_setValid (d : Dev) (L c : Nat) : (d.set (LANE_DOUT_VALID L)).gangOf c = d.gangOf c := by
  unfold gangOf flag
  rw [get_setValid_ne d L (g := CTX_GANG_EN c) (by simp only [CTX_GANG_EN]; omega),
    get_setValid_ne d L (g := CTX_GANG_GANG c) (by simp only [CTX_GANG_GANG]; omega)]

theorem ctxOfLane_setValid (d : Dev) (L M : Nat) : (d.set (LANE_DOUT_VALID L)).ctxOfLane M = d.ctxOfLane M := by
  unfold ctxOfLane isBound
  simp only [ctxState_setValid, laneOf_setValid]

/-! ### One update of the applied delay (R80) -/

theorem stepDout_near (cur tgt : Int) : stepDout cur tgt - cur ≤ 8000 ∧ cur - stepDout cur tgt ≤ 8000 := by
  unfold stepDout
  omega

theorem showDout_lanes (L : Nat) (d : Dev) : (showDout L d).lanes = d.lanes := rfl

theorem applyDout_dout (L : Nat) (v : Int) (d : Dev) : (applyDout L v d).douts L = v := by
  unfold applyDout
  extract_lets e
  have he : e.douts L = v := by
    rw [douts, show e.lane L = (d.onLane L fun x => { x with dout := v }).lane L from rfl, lane_onLane_same]
  split
  · exact (ite_keeps (fun d => d.douts L) (congrFun (lose_douts 4 _ e) L)).trans he
  · exact he

/-- On a bound lane outside a gang the applied delay stays, or takes one step toward the filtered one. -/
theorem updateDout_dout {d : Dev} {L c : Nat} (hc : d.ctxOfLane L = some c) (hg : d.gangOf c = none) :
    (updateDout L d).douts L = d.douts L ∨
      (updateDout L d).douts L = stepDout (d.douts L) (d.filteredDout L) := by
  unfold updateDout
  split
  · exact .inl (congrFun (douts_of_lanes (showDout_lanes L d)) L)
  · rw [hc]
    simp only [hg, if_true]
    exact .inr (applyDout_dout L _ d)

/-- A gang update sets the changes that wait for the next time mark; no applied delay changes yet (R83). -/
theorem gangUpdate_douts (g : Nat) (d : Dev) : (gangUpdate g d).douts = d.douts := by
  unfold gangUpdate
  extract_lets ls n due e
  exact ite_keeps douts (each_keeps douts (fun M d => douts_onLane d M fun _ => by rfl) ls d)

theorem gangSample_douts (L : Nat) (d : Dev) : (gangSample L d).douts = d.douts := by
  unfold gangSample
  split
  · split
    · exact ite_keeps douts (gangUpdate_douts _ d)
    · rfl
  · rfl

/-! ### A sample (R80) -/

/-- The sample lies more than 4 ns off a valid filtered value. -/
def strays (d : Dev) (L : Nat) (rtt : Int) : Prop :=
  d.flag (LANE_DOUT_VALID L) = true ∧ (64000 < 16 * rtt - (d.lane L).rtt ∨ 64000 < (d.lane L).rtt - 16 * rtt)

/-- An accepted sample is in the filter, which is valid from the sixteenth on. -/
def acceptSample (L : Nat) (rtt : Int) (d : Dev) : Dev :=
  let ss := (rtt :: (d.lane L).samples).take 16
  let full := decide (16 ≤ ss.length)
  let e := d.onLane L fun x =>
    { x with samples := ss, disc := 0, fresh := true, rtt := if full then ss.foldl (· + ·) 0 else x.rtt }
  if full then e.set (LANE_DOUT_VALID L) else e

theorem takeSample_of_strays {d : Dev} {L : Nat} {rtt : Int} (h : d.strays L rtt) : takeSample L rtt d =
    if (d.lane L).disc + 1 = 16 then (d.emptyFilter L).event 184
    else d.onLane L fun x => { x with disc := x.disc + 1 } :=
  if_pos (by simpa [strays] using h)

theorem takeSample_of_not_strays {d : Dev} {L : Nat} {rtt : Int} (h : ¬ d.strays L rtt) :
    takeSample L rtt d = gangSample L (updateDout L (acceptSample L rtt d)) :=
  if_neg (by simpa [strays] using h)

theorem acceptSample_douts (L : Nat) (rtt : Int) (d : Dev) : (acceptSample L rtt d).douts = d.douts := by
  unfold acceptSample
  extract_lets ss full e
  have hs : (e.set (LANE_DOUT_VALID L)).douts = e.douts := douts_of_lanes rfl
  exact (ite_keeps douts hs).trans (douts_onLane d L fun _ => by rfl)

theorem acceptSample_ctxOfLane (L : Nat) (rtt : Int) (d : Dev) : (acceptSample L rtt d).ctxOfLane L = d.ctxOfLane L :=
  ite_keeps (fun d => d.ctxOfLane L) (ctxOfLane_setValid _ L L)

theorem acceptSample_gangOf (L : Nat) (rtt : Int) (d : Dev) (c : Nat) : (acceptSample L rtt d).gangOf c = d.gangOf c :=
  ite_keeps (fun d => d.gangOf c) (gangOf_setValid _ L c)

theorem emptyFilter_lane (d : Dev) (L : Nat) :
    (d.emptyFilter L).lane L = { d.lane L with samples := [], disc := 0, fresh := false } :=
  lane_onLane_same d L fun x => { x with samples := [], disc := 0, fresh := false }

theorem emptyFilter_valid (d : Dev) (L : Nat) : (d.emptyFilter L).flag (LANE_DOUT_VALID L) = false := by
  rw [emptyFilter, flag_clr_ne _ (by simp [Fld.key, LANE_DOUT_VALID, LANE_DOUT_SETTLING]), flag_clr]

theorem event_lane (d : Dev) (e L : Nat) : (d.event e).lane L = d.lane L := by rw [lane, event_lanes, lane]

/-- An event source has no place among the registers of a lane (R620). -/
theorem event_valid (d : Dev) {e : Nat} (he : e < 192) (L : Nat) :
    (d.event e).flag (LANE_DOUT_VALID L) = d.flag (LANE_DOUT_VALID L) := by
  have := le_laneOff L
  unfold flag
  rw [event_get_ne d e (Fld.key_ne_of_off ?_ ?_ ?_) (Fld.key_ne_of_off ?_ ?_ ?_)]
  all_goals simp only [LANE_DOUT_VALID, EVT_PEND, RACE_VAT_STAT_STATE]; omega

/-- The sixteenth sample in succession that strays empties the filter (R80). -/
theorem takeSample_restarts {d : Dev} {L : Nat} {rtt : Int} (h : d.strays L rtt) (hd : (d.lane L).disc + 1 = 16) :
    (takeSample L rtt d).lane L = { d.lane L with samples := [], disc := 0, fresh := false } ∧
      (takeSample L rtt d).flag (LANE_DOUT_VALID L) = false := by
  rw [takeSample_of_strays h, if_pos hd, event_lane, emptyFilter_lane, event_valid _ (by decide), emptyFilter_valid]
  exact ⟨rfl, rfl⟩

/-- Any other one that strays counts, and does no more. -/
theorem takeSample_discards {d : Dev} {L : Nat} {rtt : Int} (h : d.strays L rtt) (hd : (d.lane L).disc + 1 ≠ 16) :
    (takeSample L rtt d).lane L = { d.lane L with disc := (d.lane L).disc + 1 } := by
  rw [takeSample_of_strays h, if_neg hd, lane_onLane_same]

theorem takeSample_dout_of_strays {d : Dev} {L : Nat} {rtt : Int} (h : d.strays L rtt) :
    (takeSample L rtt d).douts L = d.douts L := by
  by_cases hd : (d.lane L).disc + 1 = 16
  · rw [douts, (takeSample_restarts h hd).1, douts]
  · rw [douts, takeSample_discards h hd, douts]

/-- A sample on a bound lane outside a gang moves the applied delay by at most 250 ps, which are 8,000 units (R80). -/
theorem takeSample_dout_near {d : Dev} {L c : Nat} (rtt : Int) (hc : d.ctxOfLane L = some c) (hg : d.gangOf c = none) :
    (takeSample L rtt d).douts L - d.douts L ≤ 8000 ∧ d.douts L - (takeSample L rtt d).douts L ≤ 8000 := by
  by_cases h : d.strays L rtt
  · rw [takeSample_dout_of_strays h]
    omega
  · have hu := updateDout_dout ((acceptSample_ctxOfLane L rtt d).trans hc) ((acceptSample_gangOf L rtt d c).trans hg)
    rw [takeSample_of_not_strays h, gangSample_douts]
    rw [acceptSample_douts] at hu
    rcases hu with hu | hu <;> rw [hu]
    · omega
    · exact stepDout_near _ _

end Dev

open Dev

/-- Settles O11: a sample that strays reaches the discards alone; any other goes through one update. -/
theorem sampleMovesDelayByOneStep : Obligations.SampleMovesDelayByOneStep := by
  unfold Obligations.SampleMovesDelayByOneStep
  refine fun d L rtt => ⟨fun hv hfar => ?_, fun c hc hg => takeSample_dout_near rtt hc hg⟩
  have h : d.strays L rtt := ⟨hv, hfar⟩
  refine ⟨takeSample_dout_of_strays h, fun hd => ?_, fun hd => ?_⟩
  · obtain ⟨hl, hf⟩ := takeSample_restarts h hd
    exact ⟨by rw [hl], hf⟩
  · rw [takeSample_discards h hd]
    exact ⟨rfl, rfl⟩

end Sys2Proof.Machine
end

section
/-! PROOF. Ranging (R79, R80, R111, R127, R128): what the receiver of a lane makes of one frame, what a RANGE request,
its reply and its timeout do, and the statement about the three commands. -/

namespace Sys2Proof.Machine

open Reg

/-! ### What the receiver makes of a run of symbols (R103, R123) -/

theorem foldl_sym_data (bs cs : List Byte) {h : Heard} (hr : h.rx = ⟨some cs, []⟩) :
    (bs.map Sym.data).foldl Heard.sym h = { h with rx := ⟨some (cs ++ bs), []⟩ } := by
  induction bs generalizing cs h with
  | nil => simp [← hr]
  | cons b bs ih =>
    have hb : h.sym (.data b) = { h with rx := ⟨some (cs ++ [b]), []⟩ } := by simp [Heard.sym, hr]
    rw [List.map_cons, List.foldl_cons, hb, ih (cs ++ [b]) rfl, List.append_assoc, List.singleton_append]

/-- A frame that nothing interrupts, on a receiver with nothing open: it is completed, and the receiver is as before. -/
theorem hear_frameSyms (bs : List Byte) : Rx.hear {} (frameSyms bs) = { rx := {}, done := [bs] } := by
  have hs : Heard.sym { rx := {} } .start = { rx := ⟨some [], []⟩ } := by simp [Heard.sym]
  rw [Rx.hear, frameSyms, List.cons_append, List.foldl_cons, hs, List.foldl_append, foldl_sym_data bs [] rfl]
  rfl

/-- K28.0 with no frame to resume (R123). -/
theorem hear_resume : Rx.hear {} [.resume] = { rx := {}, framing := 1 } := rfl

/-- A frame that starts within a class A frame (R123). -/
theorem hear_start_in_classA {b : Byte} (h : classA [b] = true) :
    Rx.hear {} [.start, .data b, .start] = { rx := {}, framing := 1 } := by
  simp [Rx.hear, Heard.sym, h, Heard.misframed]

namespace Dev

/-! ### Light and symbols on a lane -/

@[simp] theorem receive_mode (L : Nat) (i : BitVec 20) (d : Dev) : (receive L i d).mode = d.mode := by
  unfold receive
  split <;> rfl
@[simp] theorem receive_out (L : Nat) (i : BitVec 20) (d : Dev) : (receive L i d).out = d.out := by
  unfold receive
  split <;> rfl
@[simp] theorem receive_lane (L : Nat) (i : BitVec 20) (d : Dev) (M : Nat) : (receive L i d).lane M = d.lane M := by
  unfold receive
  split <;> rfl

/-- The light changes the level alone. -/
theorem receive_get_ne (L : Nat) (i : BitVec 20) (d : Dev) {g : Fld} (h : g.key ≠ (LANE_LINK_RSSI L).key) :
    (receive L i d).get g = d.get g := by
  unfold receive
  split
  · rfl
  · exact get_put_ne d _ h

theorem receive_sync (L : Nat) (i : BitVec 20) (d : Dev) :
    (receive L i d).flag (LANE_LINK_SYNC L) = d.flag (LANE_LINK_SYNC L) := by
  rw [flag, receive_get_ne L i d (by simp [Fld.key, LANE_LINK_SYNC, LANE_LINK_RSSI]), flag]

@[simp] theorem hearLane_mode (L : Nat) (ss : List Sym) (d : Dev) : (hearLane L ss d).mode = d.mode := rfl
@[simp] theorem hearLane_out (L : Nat) (ss : List Sym) (d : Dev) : (hearLane L ss d).out = d.out := rfl
@[simp] theorem hearLane_lane (L : Nat) (ss : List Sym) (d : Dev) :
    (hearLane L ss d).lane L = { d.lane L with rx := ((d.lane L).rx.hear ss).rx } :=
  lane_onLane_same ((d.add (LANE_ERR_CODE L) _).add (LANE_ERR_FRAMING L) _) L _

/-- Framing errors are counted up to the counter's end (R142). -/
theorem hearLane_framing (L : Nat) (ss : List Sym) (d : Dev) : (hearLane L ss d).get (LANE_ERR_FRAMING L) =
    min (d.get (LANE_ERR_FRAMING L) + ((d.lane L).rx.hear ss).framing) (2 ^ (LANE_ERR_FRAMING L).w - 1) := by
  rw [hearLane, onLane_get, get_add_same, get_add_ne _ _ (by simp [Fld.key, LANE_ERR_FRAMING, LANE_ERR_CODE])]

/-- On a lane in sync every frame that the symbols complete is taken in turn. -/
theorem laneFrame_sync {d : Dev} {L : Nat} (h : d.flag (LANE_LINK_SYNC L) = true) (ss : List Sym) (ty : Nat)
    (f : Nat → List Byte → Dev → Dev) : laneFrame L ss ty f d =
      each ((d.lane L).rx.hear ss).done (takeFrame L ty f) (hearLane L ss d) := by
  rw [laneFrame, h, Bool.not_true, if_neg Bool.false_ne_true]

theorem takeFrame_malformed {bs : List Byte} (h : nymParse bs = none) (L ty : Nat)
    (f : Nat → List Byte → Dev → Dev) (d : Dev) : takeFrame L ty f bs d = d.inc (LANE_ERR_CRC L) := by
  rw [takeFrame, h]

theorem takeFrame_taken {bs pl : List Byte} {ty ch : Nat} (h : nymParse bs = some (ty, ch, pl)) (L : Nat)
    (f : Nat → List Byte → Dev → Dev) (d : Dev) : takeFrame L ty f bs d = f ch pl d := by
  simp [takeFrame, h]

/-! ### Replies (R79, R128) -/

/-- A reply's pin instant and payload: the sample that it gives, if it gives one. -/
def takeReply (L t : Nat) (pl : List Byte) (d : Dev) : Dev :=
  match (d.lane L).ttx with
  | none => d
  | some t0 =>
    let trip : Int := ((t : Int) - t0) * 250
    if trip ≤ 20000000 ∧ byteAt pl 0 = ((d.lane L).rid + 255) % 256 ∧ byteAt pl 1 % 2 = 1 then
      takeSample L (trip - numAt pl 2 4 - txd L - rxd L) (d.onLane L fun x => { x with ttx := none })
    else d

theorem takeReply_measured {d : Dev} {L t t0 : Nat} {pl : List Byte} (h0 : (d.lane L).ttx = some t0)
    (ht : ((t : Int) - t0) * 250 ≤ 20000000) (hid : byteAt pl 0 = ((d.lane L).rid + 255) % 256)
    (hv : byteAt pl 1 % 2 = 1) : takeReply L t pl d =
      takeSample L (((t : Int) - t0) * 250 - numAt pl 2 4 - txd L - rxd L)
        (d.onLane L fun x => { x with ttx := none }) := by
  rw [takeReply, h0]
  exact if_pos ⟨ht, hid, hv⟩

theorem takeReply_ignored {d : Dev} {L t t0 : Nat} {pl : List Byte} (h0 : (d.lane L).ttx = some t0)
    (h : 20000000 < ((t : Int) - t0) * 250 ∨ byteAt pl 0 ≠ ((d.lane L).rid + 255) % 256 ∨ byteAt pl 1 % 2 = 0) :
    takeReply L t pl d = d := by
  rw [takeReply, h0]
  exact if_neg (by omega)

/-! ### Requests (R80, R127) -/

theorem send_lane {d : Dev} (h : d.flag PWR_STATUS_OPTOFF = false) (L : Nat) (bs : List Byte) :
    d.send (.lane L bs) = d.emits (.lane L bs) :=
  if_neg (by simp [muted, h])

/-- Until the filter of a free lane is valid a request is due in every deckle, then every RINT deckles (R80, R187). -/
theorem rangeDue_iff {d : Dev} {L m : Nat} (h : (d.lane L).rangeAt = some m) : d.rangeDue L = true ↔
    if d.ctxOfLane L ≠ none ∨ d.flag (LANE_DOUT_VALID L) = true
    then m + d.get TIDE_ALIGN_RINT ≤ d.tide.n else m + 1 ≤ d.tide.n := by
  have hb : ((d.ctxOfLane L).isSome || d.flag (LANE_DOUT_VALID L)) = true ↔
      (d.ctxOfLane L ≠ none ∨ d.flag (LANE_DOUT_VALID L) = true) := by
    rw [Bool.or_eq_true, Option.isSome_iff_ne_none]
  rw [rangeDue, h]
  simp only [hb]
  split <;> exact decide_eq_true_iff

end Dev

open Dev

/-! ### The arms of the three commands -/

theorem exec_rangeRequest (L : Fin 144) (t : BitVec 64) (s : State) :
    exec (.rangeRequest L t) s = execRangeRequest L t s := rfl
theorem exec_rangeTimeout (L : Fin 144) (s : State) :
    exec (.rangeTimeout L) s = s.next fun d => d.onLane L fun x => { x with ttx := none } := rfl
theorem exec_rangeReply (L : Fin 144) (t : BitVec 64) (cur : BitVec 20) (ss : List Sym) (s : State) :
    exec (.rangeReply L t cur ss) s =
      s.next fun d => laneFrame L ss 4 (fun _ pl d => takeReply L t.toNat pl d) (receive L cur d) := rfl

section

variable {s : State} {L : Fin 144}

theorem exec_rangeRequest_sends (hr : Ready s) (t : BitVec 64) (hl : s.dev.surveyed L = true)
    (hs : s.dev.flag (LANE_LINK_SYNC L) = true) (h0 : (s.dev.lane L).ttx = none) (hd : s.dev.rangeDue L = true)
    (hf : s.dev.laneFree L = true) (ho : s.dev.flag PWR_STATUS_OPTOFF = false) {f : List Byte}
    (hfr : f = nymFrame 4 [BitVec.ofNat 8 (s.dev.lane L).rid, 0]) :
    exec (.rangeRequest L t) s = .next (s.shows ((s.dev.emits (.lane L f)).onLane L fun x =>
      { x with tx := f.length + 2, rid := (x.rid + 1) % 256, ttx := some t.toNat, rangeAt := some s.dev.tide.n })) := by
  subst hfr
  rw [exec_rangeRequest, execRangeRequest]
  refine State.next_shows hr ?_ rfl (.inr ⟨_, rfl⟩)
  dsimp only
  rw [if_pos (by simp [hl, hs, h0, hd, hf]), laneSend, send_lane ho, onLane_onLane]
  rfl

/-- A request while one is outstanding, or before it is due (R80, R128). -/
theorem exec_rangeRequest_waits (hr : Ready s) (t : BitVec 64)
    (h : (s.dev.lane L).ttx.isSome = true ∨ s.dev.rangeDue L = false) :
    exec (.rangeRequest L t) s = .next (s.shows s.dev) := by
  rw [exec_rangeRequest, execRangeRequest]
  refine State.next_shows hr (if_neg ?_) rfl (.inl rfl)
  rcases h with h | h
  · obtain ⟨t0, h0⟩ := Option.isSome_iff_exists.mp h
    simp [h0]
  · simp [h]

/-- What a lane in sync, whose receiver has nothing open, makes of the symbols of one frame. -/
theorem rangeReply_frame {t : BitVec 64} {cur : BitVec 20} {bs : List Byte} (hs : s.dev.flag (LANE_LINK_SYNC L) = true)
    (hx : (s.dev.lane L).rx = {}) :
    laneFrame L (frameSyms bs) 4 (fun _ pl d => takeReply L t.toNat pl d) (receive L cur s.dev) =
      takeFrame L 4 (fun _ pl d => takeReply L t.toNat pl d) bs (hearLane L (frameSyms bs) (receive L cur s.dev)) := by
  rw [laneFrame_sync ((receive_sync L cur s.dev).trans hs), receive_lane, hx, hear_frameSyms]
  rfl

theorem exec_rangeReply_measured (hr : Ready s) (t : BitVec 64) (cur : BitVec 20) {bs pl : List Byte} {ch t0 : Nat}
    (hs : s.dev.flag (LANE_LINK_SYNC L) = true) (hx : (s.dev.lane L).rx = {}) (hp : nymParse bs = some (4, ch, pl))
    (h0 : (s.dev.lane L).ttx = some t0) (ht : ((t.toNat : Int) - t0) * 250 ≤ 20000000)
    (hid : byteAt pl 0 = ((s.dev.lane L).rid + 255) % 256) (hv : byteAt pl 1 % 2 = 1) :
    exec (.rangeReply L t cur (frameSyms bs)) s = .next (s.settles (takeSample L
      (((t.toNat : Int) - t0) * 250 - numAt pl 2 4 - txd L - rxd L)
      ((hearLane L (frameSyms bs) (receive L cur s.dev)).onLane L fun x => { x with ttx := none }))) := by
  rw [exec_rangeReply]
  refine State.next_settles hr ((rangeReply_frame hs hx).trans ((takeFrame_taken hp _ _ _).trans ?_))
  exact takeReply_measured (by simpa using h0) ht (by simpa using hid) hv

theorem exec_rangeReply_ignored (hr : Ready s) (t : BitVec 64) (cur : BitVec 20) {bs pl : List Byte} {ch t0 : Nat}
    (hs : s.dev.flag (LANE_LINK_SYNC L) = true) (hx : (s.dev.lane L).rx = {}) (hp : nymParse bs = some (4, ch, pl))
    (h0 : (s.dev.lane L).ttx = some t0)
    (h : 20000000 < ((t.toNat : Int) - t0) * 250 ∨ byteAt pl 0 ≠ ((s.dev.lane L).rid + 255) % 256 ∨
      byteAt pl 1 % 2 = 0) :
    exec (.rangeReply L t cur (frameSyms bs)) s = .next (s.shows (hearLane L (frameSyms bs) (receive L cur s.dev))) := by
  rw [exec_rangeReply]
  refine State.next_shows hr ((rangeReply_frame hs hx).trans ((takeFrame_taken hp _ _ _).trans ?_)) (by simp)
    (.inl (by simp))
  exact takeReply_ignored (by simpa using h0) (by simpa using h)

theorem exec_rangeReply_malformed (hr : Ready s) (t : BitVec 64) (cur : BitVec 20) {bs : List Byte}
    (hs : s.dev.flag (LANE_LINK_SYNC L) = true) (hx : (s.dev.lane L).rx = {}) (hp : nymParse bs = none) :
    exec (.rangeReply L t cur (frameSyms bs)) s =
      .next (s.shows ((hearLane L (frameSyms bs) (receive L cur s.dev)).inc (LANE_ERR_CRC L))) := by
  rw [exec_rangeReply]
  exact State.next_shows hr ((rangeReply_frame hs hx).trans (takeFrame_malformed hp _ _ _ _)) (by simp [inc])
    (.inl (by simp [inc]))

/-- Symbols that break the framing once and complete no frame. -/
theorem exec_rangeReply_misframed (hr : Ready s) (t : BitVec 64) (cur : BitVec 20) {ss : List Sym}
    (hs : s.dev.flag (LANE_LINK_SYNC L) = true) (hx : (s.dev.lane L).rx = {})
    (hh : Rx.hear {} ss = { rx := {}, framing := 1 }) :
    ∃ u, exec (.rangeReply L t cur ss) s = .next u ∧ (u.dev.lane L).rx = {} ∧
      u.dev.get (LANE_ERR_FRAMING L) = min (s.dev.get (LANE_ERR_FRAMING L) + 1) (2 ^ (LANE_ERR_FRAMING L).w - 1) := by
  have hhear : ((receive L cur s.dev).lane L).rx.hear ss = { rx := {}, framing := 1 } := by rw [receive_lane, hx, hh]
  have hE : laneFrame L ss 4 (fun _ pl d => takeReply L t.toNat pl d) (receive L cur s.dev) =
      hearLane L ss (receive L cur s.dev) := by
    rw [laneFrame_sync ((receive_sync L cur s.dev).trans hs), hhear]
    rfl
  have hoff := le_laneOff L
  refine ⟨s.shows (hearLane L ss (receive L cur s.dev)), ?_, ?_, ?_⟩
  · rw [exec_rangeReply]
    exact State.next_shows hr hE (by simp) (.inl (by simp))
  · calc ((hearLane L ss (receive L cur s.dev)).lane L).rx = (((receive L cur s.dev).lane L).rx.hear ss).rx := by simp
      _ = {} := by rw [hhear]
  · rw [State.shows, get_showPins_ne, hearLane_framing, hhear,
      receive_get_ne L cur s.dev (by simp only [Fld.key, LANE_ERR_FRAMING, LANE_LINK_RSSI]; omega)]
    all_goals
      refine Fld.key_ne_of_off (by decide) (by simp [LANE_ERR_FRAMING]) ?_
      simp only [LANE_ERR_FRAMING, EVT_STATUS_EVT_N, EVT_STATUS_SAFE_N]
      omega

end

/-- Settles O10: each clause is one lemma about the request, the reply or the receiver. -/
theorem rangingCommandsComplete : Obligations.RangingCommandsComplete := by
  unfold Obligations.RangingCommandsComplete
  intro s L hr
  refine ⟨fun t hl hs h0 hd hf ho => exec_rangeRequest_sends hr t hl hs h0 hd hf ho rfl,
    fun t h => exec_rangeRequest_waits hr t h, fun m hm => rangeDue_iff hm, ?timeout,
    fun t cur bs pl ch t0 hs hx hp h0 ht hid hv => exec_rangeReply_measured hr t cur hs hx hp h0 ht hid hv,
    fun t cur bs pl ch t0 hs hx hp h0 h => exec_rangeReply_ignored hr t cur hs hx hp h0 h,
    fun t cur bs hs hx hp => exec_rangeReply_malformed hr t cur hs hx hp, ?receiver, ?framing⟩
  case timeout =>
    rw [exec_rangeTimeout]
    exact State.next_shows hr rfl rfl (.inl rfl)
  case receiver =>
    intro bs hx
    rw [hearLane_lane, hx, hear_frameSyms]
    exact ⟨rfl, rfl, rfl⟩
  case framing =>
    rintro t cur ss hs hx (rfl | ⟨b, hb, rfl⟩)
    · exact exec_rangeReply_misframed hr t cur hs hx hear_resume
    · exact exec_rangeReply_misframed hr t cur hs hx (hear_start_in_classA hb)

end Sys2Proof.Machine
end

section
/-! PROOF. Time marks and the tide link (R74 to R76, R85 to R90): the mark of a bound lane, what MASTER and SLAVE do with
the frames TIME, POLL and ECHO, and the statement about the nine commands. -/

namespace Sys2Proof.Machine

open Reg

namespace Dev

/-! ### Sent items: a mark while the drivers are on, a tide frame always (R575) -/

theorem send_mark {d : Dev} (h : d.flag PWR_STATUS_OPTOFF = false) (L line : Nat) (bs : List Byte) :
    d.send (.mark L line bs) = d.emits (.mark L line bs) :=
  if_neg (by simp [muted, h])

theorem send_tideOut (d : Dev) (bs : List Byte) : d.send (.tide bs) = d.emits (.tide bs) := rfl

/-! ### Time marks (R74 to R76) -/

/-- The delay change of a lane that waits for the time mark of deckle n or of an earlier one applies (R76). -/
def dueFd (L n : Nat) (d : Dev) : Dev :=
  match (d.lane L).fdAt with
  | some (m, v) => if m ≤ n then applyDout L v (d.onLane L fun x => { x with fdAt := none }) else d
  | none => d

theorem dueFd_waits {d : Dev} {L n : Nat} (h : ∀ m v, (d.lane L).fdAt = some (m, v) → n < m) : dueFd L n d = d := by
  unfold dueFd
  split
  · next m v hm => exact if_neg (Nat.not_le.mpr (h m v hm))
  · rfl

theorem dueFd_applies {d : Dev} {L n m : Nat} {v : Int} (h : (d.lane L).fdAt = some (m, v)) (hm : m ≤ n) :
    dueFd L n d = applyDout L v (d.onLane L fun x => { x with fdAt := none }) := by
  rw [dueFd, h]
  exact if_pos hm

/-- The bytes of the time mark of the current deckle: n, and n[10:8] with the offset o(n) (R74, R120). -/
def markBytes (d : Dev) : List Byte :=
  [BitVec.ofNat 8 d.tide.n, BitVec.ofNat 8 (d.tide.n / 256 % 8 * 32 + (d.gridOf d.tide.n).1)]

/-- A bound lane carries the mark of the current deckle. -/
def marks (d : Dev) (L : Nat) : Prop :=
  d.ctxOfLane L ≠ none ∧ d.lanesLit = true ∧ d.running = true ∧ (d.lane L).markFrom ≤ d.tide.n

/-- The effect of TIME_MARK_LAUNCH: the mark, the delay change that waits for it, the fine delay of the next one. -/
def launchMark (L : Nat) (d : Dev) : Dev :=
  match d.ctxOfLane L with
  | none => d
  | some _ =>
    if !d.lanesLit || !d.running || decide (d.tide.n < (d.lane L).markFrom) then d
    else applyFd L (dueFd L d.tide.n
      (d.send (.mark L (d.fineLine L) (d.markBytes ++ [BitVec.ofNat 8 (crc8 d.markBytes)]))))

theorem launchMark_marks {d : Dev} {L : Nat} (h : d.marks L) (ho : d.flag PWR_STATUS_OPTOFF = false) :
    launchMark L d = applyFd L (dueFd L d.tide.n
      (d.emits (.mark L (d.fineLine L) (d.markBytes ++ [BitVec.ofNat 8 (crc8 d.markBytes)])))) := by
  obtain ⟨hc, hl, hr, hm⟩ := h
  obtain ⟨c, hc⟩ := Option.ne_none_iff_exists'.mp hc
  rw [launchMark, hc, ← send_mark ho]
  exact if_neg (by simp [hl, hr, hm])

theorem launchMark_none {d : Dev} {L : Nat} (h : ¬ d.marks L) : launchMark L d = d := by
  unfold launchMark
  split
  · rfl
  · next c hc =>
    refine ite_eq_left_iff.mpr fun hn => absurd ?_ h
    simpa [marks, hc, and_assoc] using hn

/-! ### The tide link on a MASTER (R85 to R87) -/

theorem masterRuns_of {d : Dev} (hm : d.master = true) (hb : d.tide.nextB.isSome = true) : d.masterRuns = true := by
  rw [masterRuns, hm, hb]
  rfl

theorem failEcho_awaited {d : Dev} {k : Nat} (h : d.tide.awaiting = some k) : d.failEcho = refresh28
    ((setPeer k { d.peer k with fails := (d.peer k).fails + 1 } d).onTide fun t => { t with awaiting := none }) := by
  rw [failEcho, h]

/-! ### The tide link on a SLAVE (R87, R88) -/

theorem missTime_stays {d : Dev} (h : d.tide.missRun < 3) : d.missTime =
    d.onTide fun t => { t with missRun := t.missRun + 1, goodRun := 0 } :=
  if_neg fun hf => by
    have : 4 ≤ d.tide.missRun + 1 := hf.2
    omega

/-- The fourth missing TIME frame in succession: a LOCKED slave goes on with its own REFCLK. -/
theorem missTime_leaves {d : Dev} (h : 3 ≤ d.tide.missRun) (hs : d.get TIDE_STATUS_SYNC = 3) : d.missTime =
    ((d.onTide fun t => { t with missRun := t.missRun + 1, goodRun := 0, inc := 65536 }).put
      TIDE_STATUS_SYNC 4).refresh28 :=
  if_pos ⟨hs, Nat.succ_le_succ h⟩

end Dev

open Dev

/-! ### The arms of the nine commands -/

theorem exec_timeMarkLaunch (L : Fin 144) (s : State) : exec (.timeMarkLaunch L) s = s.next (launchMark L) := rfl
theorem exec_tideTimeSend (s : State) : exec .tideTimeSend s = s.next fun d =>
    if d.masterRuns then (d.send (.tide d.timeFrame)).onTide fun t => { t with timeCnt := t.timeCnt + 1 } else d := rfl
theorem exec_tidePollSend (t : BitVec 64) (s : State) : exec (.tidePollSend t) s = execTidePollSend t s := rfl
theorem exec_tideTimeReceive (t : BitVec 80) (bs : List Byte) (s : State) :
    exec (.tideTimeReceive t bs) s = execTideTimeReceive t bs s := rfl
theorem exec_tideTimeMissing (s : State) :
    exec .tideTimeMissing s = s.next fun d => if d.slave then d.missTime else d := rfl
theorem exec_tidePollReceive (bs : List Byte) (s : State) :
    exec (.tidePollReceive bs) s = execTidePollReceive bs s := rfl
theorem exec_tideEchoSend (turn : Word) (s : State) : exec (.tideEchoSend turn) s = execTideEchoSend turn s := rfl
theorem exec_tideEcho (t : BitVec 64) (bs : List Byte) (s : State) : exec (.tideEcho t bs) s = execTideEcho t bs s := rfl
theorem exec_tideEchoTimeout (s : State) : exec .tideEchoTimeout s = s.next failEcho := rfl

section

variable {s : State}

/-! ### Time marks -/

/-- A mark for which no delay change waits. -/
theorem exec_timeMarkLaunch_marks (hr : Ready s) {L : Fin 144} (h : s.dev.marks L)
    (ho : s.dev.flag PWR_STATUS_OPTOFF = false)
    (hf : ∀ m v, (s.dev.lane L).fdAt = some (m, v) → s.dev.tide.n < m) :
    exec (.timeMarkLaunch L) s = .next (s.shows ((s.dev.emits (.mark L (s.dev.fineLine L)
      (s.dev.markBytes ++ [BitVec.ofNat 8 (crc8 s.dev.markBytes)]))).put (LANE_DOUT_FD L)
        (fineDelay (s.dev.lane L).dout))) := by
  have hE := launchMark_marks h ho
  rw [dueFd_waits (by exact hf)] at hE
  rw [exec_timeMarkLaunch]
  exact State.next_shows hr hE rfl (.inr ⟨_, rfl⟩)

/-- A mark for which a delay change waits. -/
theorem exec_timeMarkLaunch_applies (hr : Ready s) {L : Fin 144} (h : s.dev.marks L)
    (ho : s.dev.flag PWR_STATUS_OPTOFF = false) {m : Nat} {v : Int} (hf : (s.dev.lane L).fdAt = some (m, v))
    (hm : m ≤ s.dev.tide.n) :
    exec (.timeMarkLaunch L) s = .next (s.settles (applyFd L (applyDout L v ((s.dev.emits (.mark L (s.dev.fineLine L)
      (s.dev.markBytes ++ [BitVec.ofNat 8 (crc8 s.dev.markBytes)]))).onLane L fun x => { x with fdAt := none })))) := by
  have hE := launchMark_marks h ho
  rw [dueFd_applies (by exact hf) hm] at hE
  rw [exec_timeMarkLaunch]
  exact State.next_settles hr hE

theorem exec_timeMarkLaunch_none (hr : Ready s) {L : Fin 144} (h : ¬ s.dev.marks L) :
    exec (.timeMarkLaunch L) s = .next (s.shows s.dev) := by
  rw [exec_timeMarkLaunch]
  exact State.next_shows hr (launchMark_none h) rfl (.inl rfl)

/-! ### What a MASTER sends and takes -/

theorem exec_tideTimeSend_master (hr : Ready s) (hm : s.dev.master = true) (hb : s.dev.tide.nextB.isSome = true) :
    exec .tideTimeSend s = .next (s.shows ((s.dev.emits (.tide s.dev.timeFrame)).onTide fun t =>
      { t with timeCnt := t.timeCnt + 1 })) := by
  rw [exec_tideTimeSend]
  exact State.next_shows hr (if_pos (masterRuns_of hm hb)) rfl (.inr ⟨_, rfl⟩)

theorem exec_tidePollSend_master (hr : Ready s) (t : BitVec 64) (hm : s.dev.master = true)
    (hb : s.dev.tide.nextB.isSome = true) (hn : 64 ≤ s.dev.tide.timeCnt) :
    exec (.tidePollSend t) s = .next (s.shows ((s.dev.emits (.tide (tideFrame ([2, BitVec.ofNat 8 s.dev.nextSlave] ++
        le 4 (s.dev.get (TIDE_PEER_DK (s.dev.nextSlave - 1))))))).onTide fun x =>
        { x with timeCnt := 0, lastPoll := s.dev.nextSlave, awaiting := some s.dev.nextSlave, tPoll := t.toNat })) := by
  rw [exec_tidePollSend, execTidePollSend]
  exact State.next_shows hr (if_pos (by simp [masterRuns_of hm hb, hn])) rfl (.inr ⟨_, rfl⟩)

theorem exec_tideEcho_awaited (hr : Ready s) (t : BitVec 64) {bs body : List Byte} {k : Nat}
    (ha : s.dev.tide.awaiting = some k) (hp : tideParse 3 8 bs = some body) (hk : (body.getD 1 0).toNat = k) :
    exec (.tideEcho t bs) s = .next (s.settles (s.dev.takeEcho k t.toNat (nat ((body.drop 2).take 4)))) := by
  rw [exec_tideEcho, execTideEcho]
  refine State.next_settles hr ?_
  rw [ha, hp]
  exact if_pos hk

theorem exec_tideEchoTimeout_awaited (hr : Ready s) {k : Nat} (ha : s.dev.tide.awaiting = some k) :
    exec .tideEchoTimeout s = .next (s.settles (refresh28
      ((setPeer k { s.dev.peer k with fails := (s.dev.peer k).fails + 1 } s.dev).onTide fun t =>
        { t with awaiting := none }))) := by
  rw [exec_tideEchoTimeout]
  exact State.next_settles hr (failEcho_awaited ha)

/-! ### What a SLAVE takes and answers -/

theorem exec_tidePollReceive_own (hr : Ready s) {bs body : List Byte} (hp : tideParse 2 8 bs = some body)
    (hs : s.dev.slave = true) (hid : (body.getD 1 0).toNat = s.dev.get TIDE_SYNC_ID) (h1 : 1 ≤ (body.getD 1 0).toNat) :
    exec (.tidePollReceive bs) s = .next (s.shows ((s.dev.put (TIDE_PEER_DK ((body.getD 1 0).toNat - 1))
      (nat ((body.drop 2).take 4))).onTide fun t => { t with polled := some (body.getD 1 0).toNat })) := by
  rw [exec_tidePollReceive, execTidePollReceive]
  refine State.next_shows hr ?_ rfl (.inl rfl)
  rw [hp]
  exact if_pos (by rw [hs, hid, beq_self_eq_true, ← hid]; exact decide_eq_true h1)

theorem exec_tideEchoSend_polled (hr : Ready s) (turn : Word) {k : Nat} (hk : s.dev.tide.polled = some k) :
    exec (.tideEchoSend turn) s = .next (s.shows ((s.dev.emits (.tide (tideFrame ([3, BitVec.ofNat 8 k] ++
      le 4 turn.toNat)))).onTide fun t => { t with polled := none })) := by
  rw [exec_tideEchoSend, execTideEchoSend]
  refine State.next_shows hr ?_ rfl (.inr ⟨_, rfl⟩)
  rw [hk, ← send_tideOut]

theorem exec_tideTimeMissing_slave (hr : Ready s) (hs : s.dev.slave = true) :
    exec .tideTimeMissing s = .next (s.settles s.dev.missTime) := by
  rw [exec_tideTimeMissing]
  exact State.next_settles hr (if_pos hs)

theorem exec_tideTimeMissing_stays (hr : Ready s) (hs : s.dev.slave = true) (h : s.dev.tide.missRun < 3) :
    exec .tideTimeMissing s = .next (s.shows (s.dev.onTide fun t =>
      { t with missRun := t.missRun + 1, goodRun := 0 })) := by
  rw [exec_tideTimeMissing]
  exact State.next_shows hr ((if_pos hs).trans (missTime_stays h)) rfl (.inl rfl)

theorem exec_tideTimeReceive_valid (hr : Ready s) (t : BitVec 80) {bs body : List Byte} (hs : s.dev.slave = true)
    (hb : s.dev.tide.nextB.isSome = true) (hp : tideParse 1 29 bs = some body) :
    exec (.tideTimeReceive t bs) s = .next (s.settles (s.dev.takeTime t.toNat body)) := by
  rw [exec_tideTimeReceive, execTideTimeReceive]
  refine State.next_settles hr ((if_pos (by simp [hs, hb])).trans ?_)
  rw [hp]

theorem exec_tideTimeReceive_failed (hr : Ready s) (t : BitVec 80) {bs : List Byte} (hs : s.dev.slave = true)
    (hb : s.dev.tide.nextB.isSome = true) (hp : tideParse 1 29 bs = none) :
    exec (.tideTimeReceive t bs) s = .next (s.settles s.dev.missTime) := by
  rw [exec_tideTimeReceive, execTideTimeReceive]
  refine State.next_settles hr ((if_pos (by simp [hs, hb])).trans ?_)
  rw [hp]

end

/-- Settles O2: each clause is one lemma about the mark, the MASTER or the SLAVE. -/
theorem tideLinkCommandsComplete : Obligations.TideLinkCommandsComplete := by
  unfold Obligations.TideLinkCommandsComplete
  intro s hr
  refine ⟨?mark, ?noMark, exec_tideTimeSend_master hr, exec_tidePollSend_master hr,
    fun bs body => exec_tidePollReceive_own hr, fun turn k => exec_tideEchoSend_polled hr turn,
    fun t bs body k => exec_tideEcho_awaited hr t, fun k => exec_tideEchoTimeout_awaited hr,
    exec_tideTimeMissing_stays hr, ?leaves, fun t bs body => exec_tideTimeReceive_valid hr t, ?failed⟩
  case mark =>
    intro L c hc hl hrun hm ho
    have h : s.dev.marks L := ⟨by simp [hc], hl, hrun, hm⟩
    exact ⟨exec_timeMarkLaunch_marks hr h ho, fun m v => exec_timeMarkLaunch_applies hr h ho⟩
  case noMark =>
    intro L hn
    refine exec_timeMarkLaunch_none hr ?_
    rintro ⟨hc, hl, hrun, hm⟩
    rcases hn with h | h | h | h
    · exact hc h
    · simp [hl] at h
    · simp [hrun] at h
    · omega
  case leaves =>
    intro hs h3 hsync
    rw [exec_tideTimeMissing_slave hr hs, missTime_leaves h3 hsync]
  case failed =>
    intro t bs hs hb hp
    rw [exec_tideTimeReceive_failed hr t hs hb hp, exec_tideTimeMissing_slave hr hs]

end Sys2Proof.Machine
end

section
/-! PROOF. Proof windows (R163, R164): what a decided window leaves of its context, which windows are open in a polder
cycle, what an echo makes of its window, and the statement about both. -/

namespace Sys2Proof.Machine

namespace Dev

/-! ### The record of a context -/

@[simp] theorem cell_onCell_same (d : Dev) (c : Nat) (f : Cell → Cell) : (d.onCell c f).cell c = f (d.cell c) :=
  Table.get_put_same _ _ _ _
theorem cell_onCell_ne (d : Dev) {c c' : Nat} (f : Cell → Cell) (h : c' ≠ c) : (d.onCell c f).cell c' = d.cell c' :=
  Table.get_put_ne _ _ _ h

/-! ### A decided window (R168) -/

@[simp] theorem decideWin_wins (c : Nat) (w : Window) (o k fb delta : Nat) (d : Dev) :
    ((decideWin c w o k fb delta d).cell c).wins = (d.cell c).wins.filter (· ≠ w) := by simp [decideWin]

@[simp] theorem decideWin_recs (c : Nat) (w : Window) (o k fb delta : Nat) (d : Dev) :
    ((decideWin c w o k fb delta d).cell c).recs =
      (d.cell c).recs ++ [⟨c, o, w.idx, w.asp, fb, k, w.ssq, w.tgt, delta, w.cfg⟩] := by simp [decideWin]

theorem decideWin_cell_ne {c c' : Nat} (h : c' ≠ c) (w : Window) (o k fb delta : Nat) (d : Dev) :
    (decideWin c w o k fb delta d).cell c' = d.cell c' := cell_onCell_ne d _ h

/-! ### The close of windows (R163) -/

/-- Of several windows decided without an echo, none stays open, and every other window does. -/
theorem mem_wins_each_decideWin (c o k fb delta : Nat) (v : Window) (ws : List Window) (d : Dev) :
    v ∈ ((each ws (fun w d => decideWin c w o k fb delta d) d).cell c).wins ↔ v ∈ (d.cell c).wins ∧ v ∉ ws := by
  induction ws generalizing d with
  | nil => simp [each]
  | cons w ws ih =>
    refine (ih (decideWin c w o k fb delta d)).trans ?_
    simp [and_assoc]

/-- The windows open in a cycle are those whose closing cycle has not passed. -/
theorem mem_wins_closeWins (c L : Nat) (cycle : Int) (d : Dev) (v : Window) :
    v ∈ ((closeWins c L cycle d).cell c).wins ↔ v ∈ (d.cell c).wins ∧ cycle ≤ d.closing L v := by
  rw [closeWins, mem_wins_each_decideWin]
  refine and_congr_right fun hv => ?_
  simp [hv]

/-! ### The verdict of an echo (R164) -/

/-- Outcome and cause that an echo gives its window: the table of R164. -/
def verdict (d : Dev) (L t : Nat) (e : Echo) (w : Window) : Nat × Nat :=
  if tdcU t < d.opening L w then (Oc.contra, 2)
  else if e.asp ≠ w.asp then (Oc.contra, 1)
  else if d.echoDelta L t e w ≤ w.tsw then (Oc.proven, 0)
  else (Oc.late, 0)

theorem echoDecides_eq (c L t : Nat) (e : Echo) (w : Window) (d : Dev) : echoDecides c L t e w d =
    decideWin c w (d.verdict L t e w).1 (d.verdict L t e w).2 e.asp (deltaField (d.echoDelta L t e w)) d := rfl

variable {d : Dev} {L t : Nat} {e : Echo} {w : Window}

theorem verdict_early (h : tdcU t < d.opening L w) : d.verdict L t e w = (Oc.contra, 2) := if_pos h

theorem verdict_mismatch (h : d.opening L w ≤ tdcU t) (ha : e.asp ≠ w.asp) : d.verdict L t e w = (Oc.contra, 1) := by
  rw [verdict, if_neg (Int.not_lt.mpr h), if_pos ha]

theorem verdict_inTime (h : d.opening L w ≤ tdcU t) (ha : e.asp = w.asp) (hd : d.echoDelta L t e w ≤ w.tsw) :
    d.verdict L t e w = (Oc.proven, 0) := by
  rw [verdict, if_neg (Int.not_lt.mpr h), if_neg (not_not_intro ha), if_pos hd]

theorem verdict_late (h : d.opening L w ≤ tdcU t) (ha : e.asp = w.asp) (hd : w.tsw < d.echoDelta L t e w) :
    d.verdict L t e w = (Oc.late, 0) := by
  rw [verdict, if_neg (Int.not_lt.mpr h), if_neg (not_not_intro ha), if_neg (Int.not_le.mpr hd)]

end Dev

open Dev

/-- Settles O16: an echo decides its window with the verdict of R164, and a close removes the windows decided in it. -/
theorem echoDecidesWindow : Obligations.EchoDecidesWindow := by
  unfold Obligations.EchoDecidesWindow
  intro d c L t e w
  rw [echoDecides_eq]
  refine ⟨fun cycle v => mem_wins_closeWins c L cycle d v, decideWin_wins .., fun c' hc => decideWin_cell_ne hc ..,
    _, decideWin_recs .., rfl, rfl, rfl, rfl, rfl, rfl, ?early, ?mismatch, ?inTime, ?late⟩
  case early =>
    intro h
    simp [verdict_early h]
  case mismatch =>
    intro h ha
    simp [verdict_mismatch h ha]
  case inTime =>
    intro h ha hd
    simp [verdict_inTime h ha hd]
  case late =>
    intro h ha hd
    simp [verdict_late h ha hd]

end Sys2Proof.Machine
end

section
/-! PROOF. The loss of a context whose lane number is that of a lane (R198 to R201, R339, R348): what the operations
that a loss is made of leave of the contexts, and what a loss then does to its own context and to every other. -/

namespace Sys2Proof.Machine

open Reg

/-- A field in the block of the contexts (R620). -/
abbrev Fld.inCtx (f : Fld) : Prop := 0x80000 ≤ f.off ∧ f.off < 0x88000 ∧ f.lsb < 32

theorem Fld.inCtx.key_ne {f g : Fld} (hf : f.inCtx) (hg : g.lsb < 32) (ho : g.off < 0x80000 ∨ 0x88000 ≤ g.off) :
    f.key ≠ g.key :=
  Fld.key_ne_of_off hg hf.2.2 (by omega)

/-- The registers of lane number `L` are spelled outside the block of the contexts. -/
abbrev laneApart (L : Nat) : Prop := laneOff L + 0x40 ≤ 0x80000 ∨ 0x88000 ≤ laneOff L

theorem laneApart_of_lt {L : Nat} (h : L < 144) : laneApart L := by
  unfold laneApart laneOff
  omega

/-- So is the number that stands for none (R209). -/
theorem laneApart_none : laneApart 0xFF := by decide

namespace Dev

/-! ### What the contexts are: their records, their registers, and the mode controller -/

/-- The records and the registers of the contexts, and the mode controller. -/
def ctxPart (d : Dev) : (Nat → Cell) × ModeCtl × (Fld → Nat) :=
  (d.cell, d.mode, fun f => if f.inCtx then d.get f else 0)

section

variable {d e : Dev}

theorem ctxPart_of_eq (hc : e.cells = d.cells) (hm : e.mode = d.mode) (hg : ∀ f : Fld, f.inCtx → e.get f = d.get f) :
    e.ctxPart = d.ctxPart := by
  have hcell : e.cell = d.cell := by unfold cell; rw [hc]
  have hget : (fun f : Fld => if f.inCtx then e.get f else 0) = fun f => if f.inCtx then d.get f else 0 := by
    funext f
    split
    · next h => exact hg f h
    · rfl
  rw [ctxPart, ctxPart, hcell, hm, hget]

theorem cell_of_ctxPart (h : e.ctxPart = d.ctxPart) (c : Nat) : e.cell c = d.cell c :=
  congrFun (congrArg (·.1) h) c

theorem mode_of_ctxPart (h : e.ctxPart = d.ctxPart) : e.mode = d.mode := congrArg (·.2.1) h

theorem get_of_ctxPart (h : e.ctxPart = d.ctxPart) {f : Fld} (hf : f.inCtx) : e.get f = d.get f := by
  have := congrFun (congrArg (·.2.2) h) f
  simpa only [ctxPart, if_pos hf] using this

/-- A write of one field, and of one record, keeps what two devices have in common. -/
theorem ctxPart_put (h : e.ctxPart = d.ctxPart) (f : Fld) (v : Nat) : (e.put f v).ctxPart = (d.put f v).ctxPart := by
  have hcell : (e.put f v).cell = (d.put f v).cell := congrArg (·.1) h
  have hget : (fun g : Fld => if g.inCtx then (e.put f v).get g else 0) =
      fun g => if g.inCtx then (d.put f v).get g else 0 := by
    funext g
    split
    · next hg => simp only [get_put, get_of_ctxPart h hg]
    · rfl
  rw [ctxPart, ctxPart, hcell, hget, put_mode, put_mode, mode_of_ctxPart h]

theorem cell_onCell (d : Dev) (c e : Nat) (f : Cell → Cell) :
    (d.onCell c f).cell e = if e = c then f (d.cell c) else d.cell e := by
  split
  · next h => rw [h, cell_onCell_same]
  · next h => exact cell_onCell_ne d f h

theorem ctxPart_onCell (h : e.ctxPart = d.ctxPart) (c : Nat) (f : Cell → Cell) :
    (e.onCell c f).ctxPart = (d.onCell c f).ctxPart := by
  have hcell : (e.onCell c f).cell = (d.onCell c f).cell := by
    funext x
    rw [cell_onCell, cell_onCell, cell_of_ctxPart h, cell_of_ctxPart h]
  have hrest : ((e.onCell c f).ctxPart).2 = ((d.onCell c f).ctxPart).2 := congrArg (·.2) h
  exact Prod.ext hcell hrest

theorem put_ctxPart (d : Dev) {f : Fld} (v : Nat) (hl : f.lsb < 32) (ho : f.off < 0x80000 ∨ 0x88000 ≤ f.off) :
    (d.put f v).ctxPart = d.ctxPart :=
  ctxPart_of_eq rfl rfl fun _ hg => get_put_ne d v (hg.key_ne hl ho)

end

/-! ### Operations that leave the contexts alone -/

/-- The end of a context's transfers touches races and lanes. -/
theorem raceLost_keeps {β : Type} (P : Dev → β) (hr : ∀ d q x, P (setRace d q x) = P d)
    (hl : ∀ d L x, P (setLane d L x) = P d) (c : Nat) (d : Dev) : P (raceLost c d) = P d := by
  have hend (q status dlen : Nat) (x : Desc) (d : Dev) : P (endDesc q x status dlen d) = P d := hr d q _
  unfold raceLost
  extract_lets e
  have he : P e = P d := by
    refine each_keeps P (fun q d => ?_) _ d
    split
    · exact each_keeps P (fun r d => each_keeps P (fun x d => hend q _ _ x d) r d) _ d
    · exact ite_keeps P (each_keeps P (fun x d => hend q _ _ x d) _ d)
  split
  · exact (hl e _ _).trans he
  · exact he

theorem raceLost_ctxPart (c : Nat) (d : Dev) : (raceLost c d).ctxPart = d.ctxPart :=
  raceLost_keeps ctxPart (fun _ _ _ => rfl) (fun _ _ _ => rfl) c d

@[simp] theorem vatTrigger_cells (d : Dev) : d.vatTrigger.cells = d.cells := by
  rcases vatTrigger_frame d with h | h <;> rw [h]
  rfl
@[simp] theorem send_cells (d : Dev) (o : Out) : (d.send o).cells = d.cells := by
  rcases send_cases d o with h | h <;> rw [h]
@[simp] theorem message_cells (d : Dev) (v : Nat) : (d.message v).cells = d.cells := by
  unfold message
  split
  · rfl
  · exact send_cells d _
@[simp] theorem event_cells (d : Dev) (e : Nat) : (d.event e).cells = d.cells := by
  obtain ⟨x, hx, h⟩ := event_cases d e
  have hc : x.cells = d.cells := by rcases hx with rfl | rfl <;> simp
  rcases h with h | h | ⟨v, h⟩ <;> simp [h, hc, set]

theorem event_ctxPart (d : Dev) {e : Nat} (he : e < 192) : (d.event e).ctxPart = d.ctxPart := by
  refine ctxPart_of_eq (event_cells d e) (event_mode d e) fun f hf => event_get_ne d e ?_ ?_
  · exact hf.key_ne (by simp only [EVT_PEND]; omega) (by simp only [EVT_PEND]; omega)
  · exact hf.key_ne (by decide) (by decide)

theorem couchPlace_ctxPart {c : Nat} (hc : c < 128) (d : Dev) : (couchPlace c d).ctxPart = d.ctxPart := by
  unfold couchPlace
  split
  · rfl
  · refine (put_ctxPart _ _ (by decide) (by decide)).trans (put_ctxPart d 1 ?_ ?_) <;>
      simp only [COUCH_MAP] <;> omega

theorem onSluLane_ctxPart (d : Dev) (k : Nat) (f : SluLane → SluLane) : (d.onSluLane k f).ctxPart = d.ctxPart := rfl

theorem sluQueue_ctxPart (it : SluItem) (d : Dev) : (sluQueue it d).ctxPart = d.ctxPart :=
  each_keeps ctxPart (fun k d => onSluLane_ctxPart d k _) _ d

theorem snapshot_ctxPart (d : Dev) : d.snapshot.ctxPart = d.ctxPart :=
  each_keeps ctxPart (fun k d => onSluLane_ctxPart d k _) _ (d.onSlu fun s => { s with snap := none })

theorem sluQueue_get (it : SluItem) (d : Dev) (f : Fld) : (sluQueue it d).get f = d.get f :=
  each_keeps (fun d => d.get f) (fun k d => setSluLane_get d k _ f) _ d

theorem snapshot_get (d : Dev) (f : Fld) : d.snapshot.get f = d.get f :=
  each_keeps (fun d => d.get f) (fun k d => setSluLane_get d k _ f) _ (d.onSlu fun s => { s with snap := none })

theorem laneDark_ctxPart {L : Nat} (hL : laneApart L) (d : Dev) : (laneDark L d).ctxPart = d.ctxPart := by
  have hrole : (d.put (LANE_CFG_ROLE L) 0).ctxPart = d.ctxPart :=
    put_ctxPart d 0 (by simp [LANE_CFG_ROLE]) (by simp only [LANE_CFG_ROLE]; omega)
  exact (put_ctxPart _ _ (by simp [LANE_LINK_STATE]) (by simp only [LANE_LINK_STATE]; omega)).trans hrole

theorem setSafeHold_false_ctxPart (c : Nat) (d : Dev) :
    (setSafeHold c false d).ctxPart = (d.onCell c fun x => { x with safeHold := false }).ctxPart := by
  unfold setSafeHold
  split
  · next h =>
    refine Prod.ext (funext fun e => ?_) rfl
    show d.cell e = (d.onCell c fun x => { x with safeHold := false }).cell e
    rw [cell_onCell]
    split
    · next he => rw [he, ← h]
    · rfl
  · exact put_ctxPart _ _ (by decide) (by decide)

/-- A change of state is two writes of CTX_STATE, as far as the contexts go. -/
theorem setCtxState_ctxPart {c s : Nat} (hc : c < 128) {d : Dev} (h : d.ctxState c ≠ s) : (setCtxState c s d).ctxPart =
    ((d.put (CTX_STATE_STATE c) s).putB (CTX_STATE_PENDMAP c) (s == St.joining)).ctxPart := by
  rw [setCtxState, if_neg h]
  extract_lets was e f g
  have he : e.ctxPart = d.ctxPart := ite_keeps ctxPart (raceLost_ctxPart c d)
  have hf : f.ctxPart = _ := (event_ctxPart _ (by omega)).trans (ctxPart_put (ctxPart_put he _ _) _ _)
  have hg : g.ctxPart = f.ctxPart := ite_keeps ctxPart (couchPlace_ctxPart hc f)
  exact (ite_keeps ctxPart (sluQueue_ctxPart _ g)).trans (hg.trans hf)

/-! ### A loss in three parts (R198 to R201, R242, R247) -/

/-- What a loss leaves of the record of its context, SAFEHOLD apart (R200, R201). -/
def clearedCell (x : Cell) : Cell :=
  { x with buf := [], supply := [], wins := [], sched := [], fails := [], failDue := false,
           missed := 0, boundAt := none, hc := 0, resumeAt := none, held := false }

/-- The context is LOST with its cause, and what it held is gone. -/
def unbind (cause c : Nat) (d : Dev) : Dev :=
  setSafeHold c false (((((setCtxState c St.lost d).put (CTX_STATE_LCAUSE c) cause).clr (CTX_PSTAT_SAFEREQ c)).clr
    (CTX_PSTAT_FILLDONE c)).onCell c clearedCell)

/-- Its lane goes dark (R199). -/
def darken (c : Nat) (d : Dev) : Dev :=
  match d.laneOf c with
  | some L => laneDark L d
  | none => d

/-- The engine learns of it (R242, R247). -/
def reportLoss (c : Nat) (d : Dev) : Dev :=
  let d := if d.runModel = 5 then d.sluQueue (.piece (d.returnEntry c false)) else d
  if d.snapshotReady then d.snapshot else d

theorem lose_of_bound {c : Nat} {d : Dev} (h : d.isBound c = true) (cause : Nat) :
    lose cause c d = reportLoss c (darken c (unbind cause c d)) := by
  rw [lose, h]
  rfl

theorem lose_of_not_bound {c : Nat} {d : Dev} (h : d.isBound c = false) (cause : Nat) : lose cause c d = d := by
  rw [lose, h]
  rfl

theorem reportLoss_keeps {β : Type} (P : Dev → β) (hq : ∀ it d, P (sluQueue it d) = P d)
    (hs : ∀ d, P (snapshot d) = P d) (c : Nat) (d : Dev) : P (reportLoss c d) = P d :=
  (ite_keeps P (hs _)).trans (ite_keeps P (hq _ d))

theorem isBound_of_lost {c : Nat} {d : Dev} (h : d.ctxState c = St.lost) : d.isBound c = false := by
  unfold isBound
  rw [h]
  rfl

theorem isBound_ne_lost {c : Nat} {d : Dev} (h : d.isBound c = true) : d.ctxState c ≠ St.lost :=
  fun hl => Bool.false_ne_true ((isBound_of_lost hl).symm.trans h)

theorem isMember_of_lost {c : Nat} {d : Dev} (h : d.ctxState c = St.lost) : d.isMember c = true := by
  unfold isMember
  rw [isBound_of_lost h, h]
  rfl

theorem unbind_ctxPart {c : Nat} (hc : c < 128) {d : Dev} (h : d.isBound c = true) (cause : Nat) :
    (unbind cause c d).ctxPart = (((((((d.put (CTX_STATE_STATE c) St.lost).putB (CTX_STATE_PENDMAP c) false).put
      (CTX_STATE_LCAUSE c) cause).clr (CTX_PSTAT_SAFEREQ c)).clr (CTX_PSTAT_FILLDONE c)).onCell c clearedCell).onCell c
        fun x => { x with safeHold := false }).ctxPart :=
  (setSafeHold_false_ctxPart c _).trans (ctxPart_onCell (ctxPart_onCell (ctxPart_put (ctxPart_put (ctxPart_put
    (setCtxState_ctxPart hc (isBound_ne_lost h)) _ _) _ _) _ _) c clearedCell) c _)

section

variable {c : Nat} {d : Dev} (hc : c < 128) (h : d.isBound c = true) (cause : Nat)

include hc h

/-- A register of the contexts, beside those that a loss writes. -/
theorem unbind_get {f : Fld} (hf : f.inCtx) : (unbind cause c d).get f =
    (((((d.put (CTX_STATE_STATE c) St.lost).putB (CTX_STATE_PENDMAP c) false).put
      (CTX_STATE_LCAUSE c) cause).clr (CTX_PSTAT_SAFEREQ c)).clr (CTX_PSTAT_FILLDONE c)).get f :=
  get_of_ctxPart (unbind_ctxPart hc h cause) hf

theorem unbind_cell (e : Nat) : (unbind cause c d).cell e =
    if e = c then { clearedCell (d.cell c) with safeHold := false } else d.cell e := by
  rw [cell_of_ctxPart (unbind_ctxPart hc h cause), cell_onCell, cell_onCell_same]
  split
  · rfl
  · next he => exact cell_onCell_ne _ _ he

/-- A loss writes CTX_STATE and CTX_PSTAT of its context, and no other register of the contexts. -/
theorem unbind_get_ne {f : Fld} (hf : f.inCtx) (hst : f.off ≠ 0x80000 + 256 * c) (hps : f.off ≠ 0x80024 + 256 * c) :
    (unbind cause c d).get f = d.get f := by
  rw [unbind_get hc h cause hf, get_clr_ne, get_clr_ne, get_put_ne, get_putB_ne, get_put_ne]
  all_goals
    refine Fld.key_ne_of_off ?_ hf.2.2 ?_
    · simp only [CTX_STATE_STATE, CTX_STATE_PENDMAP, CTX_STATE_LCAUSE, CTX_PSTAT_SAFEREQ, CTX_PSTAT_FILLDONE]
      omega
    · assumption

theorem unbind_laneOf : (unbind cause c d).laneOf c = d.laneOf c := by
  have hfld {f : Fld} (hoff : f.off = 0x80010 + 256 * c) (hl : f.lsb < 32) : (unbind cause c d).get f = d.get f :=
    unbind_get_ne hc h cause ⟨by omega, by omega, hl⟩ (by omega) (by omega)
  unfold laneOf flag
  rw [hfld (f := CTX_BIND_VALID c) rfl (by simp [CTX_BIND_VALID]),
    hfld (f := CTX_BIND_LANE c) rfl (by simp [CTX_BIND_LANE])]

/-- Where the lane's registers lie apart, the contexts are after the loss as `unbind` has left them. -/
theorem lose_ctxPart (hL : ∀ L, d.laneOf c = some L → laneApart L) :
    (lose cause c d).ctxPart = (unbind cause c d).ctxPart := by
  rw [lose_of_bound h, reportLoss_keeps ctxPart sluQueue_ctxPart snapshot_ctxPart, darken, unbind_laneOf hc h]
  split
  · next L hl => exact laneDark_ctxPart (hL L hl) _
  · rfl

/-- The lane of the context goes dark, whatever its number. -/
theorem lose_lane {L : Nat} (hl : d.laneOf c = some L) :
    (lose cause c d).get (LANE_CFG_ROLE L) = 0 ∧ ((lose cause c d).lane L).darkIv = true := by
  have hkey : (LANE_CFG_ROLE L).key ≠ (LANE_LINK_STATE L).key := by
    simp only [Fld.key, LANE_CFG_ROLE, LANE_LINK_STATE]
    omega
  have hrole (d : Dev) : (laneDark L d).get (LANE_CFG_ROLE L) = 0 := by
    rw [laneDark, onLane_get, showLink, get_put_ne _ _ hkey, get_put_same, Nat.zero_mod]
  rw [lose_of_bound h, darken, unbind_laneOf hc h, hl]
  constructor
  · rw [reportLoss_keeps (·.get (LANE_CFG_ROLE L)) (fun it d => sluQueue_get it d _) (fun d => snapshot_get d _)]
    exact hrole _
  · rw [lane, reportLoss_keeps Dev.lanes sluQueue_lanes snapshot_lanes]
    exact congrArg Lane.darkIv (lane_onLane_same _ L _)

end

/-! ### The statement for lanes that exist -/

section

variable {d : Dev} {cause c : Nat} (h : d.isBound c = true) (hc : c < 128) (hL : ∀ L, d.laneOf c = some L → laneApart L)

include h hc hL

theorem lose_get {f : Fld} (hf : f.inCtx) : (lose cause c d).get f =
    (((((d.put (CTX_STATE_STATE c) St.lost).putB (CTX_STATE_PENDMAP c) false).put
      (CTX_STATE_LCAUSE c) cause).clr (CTX_PSTAT_SAFEREQ c)).clr (CTX_PSTAT_FILLDONE c)).get f :=
  (get_of_ctxPart (lose_ctxPart hc h cause hL) hf).trans (unbind_get hc h cause hf)

theorem lose_ctxState : (lose cause c d).ctxState c = St.lost := by
  rw [ctxState, lose_get h hc hL (by simp only [Fld.inCtx, CTX_STATE_STATE]; omega), get_clr_ne, get_clr_ne, get_put_ne,
    get_putB_ne, get_put_same]
  · rfl
  all_goals
    simp only [Fld.key, CTX_STATE_STATE, CTX_STATE_PENDMAP, CTX_STATE_LCAUSE, CTX_PSTAT_SAFEREQ, CTX_PSTAT_FILLDONE]
    omega

theorem lose_cause (hcause : cause < 8) : (lose cause c d).get (CTX_STATE_LCAUSE c) = cause := by
  rw [lose_get h hc hL (by simp only [Fld.inCtx, CTX_STATE_LCAUSE]; omega), get_clr_ne, get_clr_ne, get_put_same]
  · exact Nat.mod_eq_of_lt (by simp only [CTX_STATE_LCAUSE]; omega)
  all_goals
    simp only [Fld.key, CTX_STATE_LCAUSE, CTX_PSTAT_SAFEREQ, CTX_PSTAT_FILLDONE]
    omega

theorem lose_demand : (lose cause c d).flag (CTX_PSTAT_SAFEREQ c) = false := by
  rw [flag, lose_get h hc hL (by simp only [Fld.inCtx, CTX_PSTAT_SAFEREQ]; omega), get_clr_ne, get_clr_same]
  · rfl
  simp only [Fld.key, CTX_PSTAT_SAFEREQ, CTX_PSTAT_FILLDONE]
  omega

theorem lose_fillDone : (lose cause c d).flag (CTX_PSTAT_FILLDONE c) = false := by
  rw [flag, lose_get h hc hL (by simp only [Fld.inCtx, CTX_PSTAT_FILLDONE]; omega), get_clr_same]
  rfl

theorem lose_laneOf : (lose cause c d).laneOf c = d.laneOf c := by
  have hreg {f : Fld} (hf : f.inCtx) := get_of_ctxPart (lose_ctxPart hc h cause hL) hf
  rw [← unbind_laneOf hc h cause]
  unfold laneOf flag
  rw [hreg (f := CTX_BIND_VALID c) (by simp only [Fld.inCtx, CTX_BIND_VALID]; omega),
    hreg (f := CTX_BIND_LANE c) (by simp only [Fld.inCtx, CTX_BIND_LANE]; omega)]

theorem lose_cell (e : Nat) : (lose cause c d).cell e =
    if e = c then { clearedCell (d.cell c) with safeHold := false } else d.cell e :=
  (cell_of_ctxPart (lose_ctxPart hc h cause hL) e).trans (unbind_cell hc h cause e)

/-- What O13 says of a loss holds wherever the lane number of the context lies apart from the contexts, as the number of
every lane does (`laneApart_of_lt`). -/
theorem lose_clears (hcause : cause < 8) :
    (lose cause c d).ctxState c = St.lost ∧ (lose cause c d).get (CTX_STATE_LCAUSE c) = cause ∧
    (lose cause c d).isBound c = false ∧ (lose cause c d).isMember c = true ∧
    (lose cause c d).laneOf c = d.laneOf c ∧
    (lose cause c d).flag (CTX_PSTAT_SAFEREQ c) = false ∧ (lose cause c d).flag (CTX_PSTAT_FILLDONE c) = false ∧
    (∀ L, d.laneOf c = some L → (lose cause c d).get (LANE_CFG_ROLE L) = 0 ∧ ((lose cause c d).lane L).darkIv = true) ∧
    ∀ e, (lose cause c d).cell e = if e = c then { clearedCell (d.cell c) with safeHold := false } else d.cell e := by
  have hst : (lose cause c d).ctxState c = St.lost := lose_ctxState h hc hL
  exact ⟨hst, lose_cause h hc hL hcause, isBound_of_lost hst, isMember_of_lost hst,
    lose_laneOf h hc hL, lose_demand h hc hL, lose_fillDone h hc hL, fun L hl => lose_lane hc h cause hl,
    lose_cell h hc hL⟩

end

end Dev
end Sys2Proof.Machine
end

section
/-! PROOF. A relocation whose context has the number of a lane, or of none (R204, R211): the context
becomes LOST with cause RELOC, and the target lane its reservation. -/

namespace Sys2Proof.Machine

open Reg

namespace Dev

/-- The change log, the history and the ledger counts take an accepted relocation (R204, R526, R558). -/
def recordMove (c old L : Nat) (d : Dev) : Dev :=
  (((d.stage 7 [BitVec.ofNat 8 c, BitVec.ofNat 8 old, BitVec.ofNat 8 L]).history 4 [c, old, L]).count
    (0x4000 + 128 * old + 22) 2 1).count (0x4000 + 128 * L + 22) 2 1

/-- An accepted relocation of context c to lane L. -/
def moveTo (c L : Nat) (d : Dev) : Dev :=
  let old := d.get (CTX_BIND_LANE c)
  let d := (lose 6 c (recordMove c old L d)).put (CTX_STATE_LCAUSE c) 6
  let d := (d.put (LANE_CFG_ROLE old) 0).onLane old fun x => { x with darkIv := false }
  (d.put (CTX_BIND_LANE c) L).onLane L fun x => { x with darkIv := true }

variable {c L : Nat} {d : Dev}

theorem relocate_of_accepted {same : Bool} (h : d.relocResult c L (same && d.survey.deciding == some L) = 1) :
    relocate c L same d = moveTo c L (d.put (CTX_RELOC_RESULT c) 1) := by
  rw [relocate, h, if_neg (fun h => absurd h.1 (by decide)), if_neg (fun h => absurd h.1 (by decide)),
    if_neg (not_not_intro rfl)]
  rfl

/-- An accepted relocation is of a LOST or a bound context (R204). -/
theorem relocResult_accepted {claimed : Bool} (h : d.relocResult c L claimed = 1) :
    d.ctxState c = St.lost ∨ d.isBound c = true := by
  unfold relocResult at h
  extract_lets cmd at h
  refine Decidable.byContradiction fun hn => ?_
  obtain ⟨hlost, hbound⟩ := not_or.mp hn
  rw [if_pos (.inr (by simp [hlost, hbound]))] at h
  exact absurd h (by decide)

theorem recordMove_ctxPart (c old L : Nat) (d : Dev) : (recordMove c old L d).ctxPart = d.ctxPart := by
  have hstage (ty : Nat) (args : List Byte) : (d.stage ty args).ctxPart = d.ctxPart :=
    put_ctxPart _ _ (by decide) (by decide)
  exact (ctxPart_of_eq rfl rfl fun _ _ => rfl).trans (hstage _ _)

theorem laneOf_eq_some {M : Nat} (h : d.laneOf c = some M) : d.get (CTX_BIND_LANE c) = M := by
  unfold laneOf at h
  split at h
  · exact Option.some.inj h
  · exact absurd h (by simp)

/-- The contexts after a relocation: the old lane's ROLE lies apart from them. -/
theorem moveTo_ctxPart (hL : laneApart (d.get (CTX_BIND_LANE c))) : (moveTo c L d).ctxPart =
    (((lose 6 c (recordMove c (d.get (CTX_BIND_LANE c)) L d)).put (CTX_STATE_LCAUSE c) 6).put
      (CTX_BIND_LANE c) L).ctxPart := by
  unfold moveTo
  extract_lets old e f
  have hold : laneApart old := hL
  have hf : f.ctxPart = e.ctxPart :=
    put_ctxPart e (f := LANE_CFG_ROLE old) 0 (by simp [LANE_CFG_ROLE]) (by simp only [LANE_CFG_ROLE]; omega)
  exact ctxPart_put hf (CTX_BIND_LANE c) L

section

variable (hc : c < 128) (hL : laneApart (d.get (CTX_BIND_LANE c))) (h : d.ctxState c = St.lost ∨ d.isBound c = true)

include hc hL h

/-- A loss makes a bound context LOST and leaves a LOST one as it is; it spares CTX_RELOC and the mode controller. -/
theorem lose_of_relocatable (cause : Nat) : (lose cause c d).ctxState c = St.lost ∧
    (lose cause c d).get (CTX_RELOC_RESULT c) = d.get (CTX_RELOC_RESULT c) ∧ (lose cause c d).mode = d.mode := by
  by_cases hb : d.isBound c = true
  · have hap (M : Nat) (hM : d.laneOf c = some M) : laneApart M := laneOf_eq_some hM ▸ hL
    have hpart := lose_ctxPart hc hb cause hap
    have hf : (CTX_RELOC_RESULT c).inCtx := by simp only [Fld.inCtx, CTX_RELOC_RESULT]; omega
    refine ⟨lose_ctxState hb hc hap, (get_of_ctxPart hpart hf).trans (unbind_get_ne hc hb cause hf ?_ ?_),
      (mode_of_ctxPart hpart).trans ((mode_of_ctxPart (unbind_ctxPart hc hb cause)).trans rfl)⟩ <;>
      simp only [CTX_RELOC_RESULT] <;> omega
  · rw [lose_of_not_bound (Bool.eq_false_iff.mpr hb)]
    exact ⟨h.resolve_right hb, rfl, rfl⟩

/-- What R204 says of an accepted relocation to a lane number of eight bits. -/
theorem moveTo_moves (hlane : L < 256) :
    (moveTo c L d).get (CTX_RELOC_RESULT c) = d.get (CTX_RELOC_RESULT c) ∧ (moveTo c L d).ctxState c = St.lost ∧
    (moveTo c L d).get (CTX_STATE_LCAUSE c) = 6 ∧ (moveTo c L d).get (CTX_BIND_LANE c) = L ∧
    ((moveTo c L d).lane L).darkIv = true ∧ (moveTo c L d).mode = d.mode := by
  have hrec := recordMove_ctxPart c (d.get (CTX_BIND_LANE c)) L d
  have hreg {f : Fld} (hf : f.inCtx) := get_of_ctxPart hrec hf
  have hst : (recordMove c (d.get (CTX_BIND_LANE c)) L d).ctxState c = d.ctxState c :=
    hreg (by simp only [Fld.inCtx, CTX_STATE_STATE]; omega)
  obtain ⟨hlost, hres, hmode⟩ := lose_of_relocatable (d := recordMove c (d.get (CTX_BIND_LANE c)) L d) hc
    (by rwa [hreg (by simp only [Fld.inCtx, CTX_BIND_LANE]; omega)]) (by rwa [isBound, hst]) 6
  have hmove := moveTo_ctxPart (L := L) hL
  have hget {f : Fld} (hf : f.inCtx) := get_of_ctxPart hmove hf
  refine ⟨?result, ?state, ?cause, ?bind, ?dark, (mode_of_ctxPart hmove).trans (hmode.trans (mode_of_ctxPart hrec))⟩
  case result =>
    rw [hget (by simp only [Fld.inCtx, CTX_RELOC_RESULT]; omega), get_put_ne, get_put_ne, hres, hreg]
    all_goals simp only [Fld.inCtx, Fld.key, CTX_RELOC_RESULT, CTX_BIND_LANE, CTX_STATE_LCAUSE]; omega
  case state =>
    rw [ctxState, hget (by simp only [Fld.inCtx, CTX_STATE_STATE]; omega), get_put_ne, get_put_ne, ← ctxState, hlost]
    all_goals simp only [Fld.key, CTX_STATE_STATE, CTX_BIND_LANE, CTX_STATE_LCAUSE]; omega
  case cause =>
    rw [hget (by simp only [Fld.inCtx, CTX_STATE_LCAUSE]; omega), get_put_ne, get_put_same]
    · rfl
    simp only [Fld.key, CTX_STATE_LCAUSE, CTX_BIND_LANE]
    omega
  case bind =>
    rw [hget (by simp only [Fld.inCtx, CTX_BIND_LANE]; omega), get_put_same]
    exact Nat.mod_eq_of_lt hlane
  case dark => exact congrArg Lane.darkIv (lane_onLane_same _ L _)

end

/-- The device that has accepted a relocation: the key, the target and the answer. -/
def relocTaken (c L : Nat) (d : Dev) : Dev :=
  (d.keyUsed.put (CTX_RELOC_TARGET c) L).put (CTX_RELOC_RESULT c) 1

theorem relocTaken_get {f : Fld} (hf : f.inCtx) (ho : f.off ≠ 0x80018 + 256 * c) :
    (relocTaken c L d).get f = d.get f := by
  have hkey : d.keyUsed.get f = d.get f :=
    get_put_ne (f := GLB_KEY_STAT_IDLE) d 600 (hf.key_ne (by decide) (by decide))
  rw [relocTaken, get_put_ne, get_put_ne, hkey]
  all_goals exact Fld.key_ne_of_off (by simp [CTX_RELOC_RESULT, CTX_RELOC_TARGET]) hf.2.2 ho

theorem relocTaken_result : (relocTaken c L d).get (CTX_RELOC_RESULT c) = 1 := get_put_same _ _ _

theorem relocTaken_relocatable {claimed : Bool}
    (h : (d.keyUsed.put (CTX_RELOC_TARGET c) L).relocResult c L claimed = 1) :
    (relocTaken c L d).ctxState c = St.lost ∨ (relocTaken c L d).isBound c = true := by
  have hst : (relocTaken c L d).ctxState c = (d.keyUsed.put (CTX_RELOC_TARGET c) L).ctxState c :=
    get_put_ne _ _ (Fld.key_ne_of_off (by simp [CTX_RELOC_RESULT]) (by simp [CTX_STATE_STATE])
      (by simp only [CTX_RELOC_RESULT, CTX_STATE_STATE]; omega))
  simpa only [isBound, hst] using relocResult_accepted h

end Dev

open Dev

/-- A command that imposes nothing keeps what its effect has made of the lanes and of the contexts. -/
theorem State.next_of_mode {s : State} {f : Dev → Dev} {e : Dev} (hr : Ready s) (hf : f s.dev = e)
    (hm : e.mode = s.dev.mode) : ∃ t, s.next f = .next t ∧ t.dev.lanes = e.lanes ∧
      ∀ g : Fld, g.inCtx → t.dev.get g = e.get g := by
  subst hf
  obtain ⟨hawake, hdue, hsafe⟩ := hr
  rw [← hm] at hdue hsafe
  refine ⟨s.after f, State.next_awake hawake, ?_, fun g hg => ?_⟩
  · show (f s.dev).settle.lanes = _
    rw [settle_of_none hdue hsafe]
  · exact State.get_after_quiet s f hdue hsafe (hg.key_ne (by decide) (by decide)) (hg.key_ne (by decide) (by decide))

theorem exec_relocate (p : Path) (c : Fin 128) (b : Byte) (same : Bool) (s : State) : exec (.relocate p c b same) s =
    s.next (keyedAct p (0x80018 + 0x100 * c.val) fun d =>
      relocate c b.toNat same (d.put (CTX_RELOC_TARGET c) b.toNat)) :=
  rfl

/-- What O14 says of an accepted relocation holds wherever the lane number of the context lies apart from the
contexts, as the number of every lane does (`laneApart_of_lt`), and 0xFF for none (`laneApart_none`). -/
theorem exec_relocate_moves {s : State} (hr : Ready s) {p : Path} {c : Fin 128} {b : Byte} {same : Bool}
    (hk : s.dev.keyed p = true) (hL : laneApart (s.dev.get (CTX_BIND_LANE c)))
    (h : ((s.dev.keyUsed).put (CTX_RELOC_TARGET c) b.toNat).relocResult c b.toNat
      (same && s.dev.survey.deciding == some b.toNat) = 1) :
    ∃ t, exec (.relocate p c b same) s = .next t ∧ t.dev.get (CTX_RELOC_RESULT c) = 1 ∧ t.dev.ctxState c = St.lost ∧
      t.dev.get (CTX_STATE_LCAUSE c) = 6 ∧ t.dev.get (CTX_BIND_LANE c) = b.toNat ∧
      (t.dev.lane b.toNat).darkIv = true := by
  have hLane : laneApart ((relocTaken c b.toNat s.dev).get (CTX_BIND_LANE c)) := by
    rwa [relocTaken_get (by simp only [Fld.inCtx, CTX_BIND_LANE]; omega) (by simp only [CTX_BIND_LANE]; omega)]
  obtain ⟨hres, hst, hcause, hbind, hdark, hmode⟩ := moveTo_moves c.isLt hLane (relocTaken_relocatable h) b.isLt
  have heff : keyedAct p (0x80018 + 0x100 * c.val)
      (fun d => relocate c b.toNat same (d.put (CTX_RELOC_TARGET c) b.toNat)) s.dev =
        moveTo c b.toNat (relocTaken c b.toNat s.dev) :=
    (if_pos hk).trans (relocate_of_accepted h)
  obtain ⟨t, ht, hlanes, hget⟩ := State.next_of_mode hr heff hmode
  refine ⟨t, ht, ?_, ?_, ?_, ?_, ?_⟩
  · rw [hget _ (by simp only [Fld.inCtx, CTX_RELOC_RESULT]; omega), hres, relocTaken_result]
  · rw [ctxState, hget _ (by simp only [Fld.inCtx, CTX_STATE_STATE]; omega), ← ctxState, hst]
  · rw [hget _ (by simp only [Fld.inCtx, CTX_STATE_LCAUSE]; omega), hcause]
  · rw [hget _ (by simp only [Fld.inCtx, CTX_BIND_LANE]; omega), hbind]
  · rw [lane, hlanes]
    exact hdark

end Sys2Proof.Machine
end

section
/-! PROOF. Lane numbers past the last lane (R620, R621).  BIND.LANE has eight bits, and the registers of the numbers 144
to 161, which no lane has, are spelled within those of contexts 16 to 20: what the end of such a lane writes falls on a
context, on STATE itself for lane number 144 and context 16.  The statements about a loss and about a relocation leave
the number open, and fail there; for the numbers of the lanes, `lose_clears` and `exec_relocate_moves` say what
holds. -/

namespace Sys2Proof.Machine

open Reg

/-- LANE_CFG.ROLE of lane number 144 is spelled at the place of CTX_STATE.STATE of context 16. -/
theorem role_key_past_last_lane : ¬ laneApart 144 ∧ (LANE_CFG_ROLE 144).key = (CTX_STATE_STATE 16).key := by decide

/-- In SERVICE with an open key, context 16 has the state `st` and the lane number 144. -/
def State.pastLastLane (st : Nat) : State :=
  { State.reset with dev :=
      (((((State.reset.dev.put GLB_MODE_MODE 0xB).put GLB_MODE_BASE 5).set GLB_KEY_STAT_OPEN).put
        (CTX_STATE_STATE 16) st).set (CTX_BIND_VALID 16)).put (CTX_BIND_LANE 16) 144 }

open Dev State

section

set_option maxRecDepth 20000

/-- A loss makes the context LOST, and its lane, going dark, then clears the STATE. -/
theorem lose_past_last_lane : (lose 1 16 (pastLastLane St.bound).dev).ctxState 16 = St.free := by decide

/-- So does a relocation of the context when it is LOST already: the lane that it leaves becomes spare. -/
theorem relocate_past_last_lane : ∃ t, exec (.relocate .pcie 16 143 false) (pastLastLane St.lost) = .next t ∧
    t.dev.ctxState 16 = St.free :=
  ⟨_, State.next_awake (by decide), by decide⟩

/-- The relocation has the key, and no cause of R211 stands against it. -/
theorem relocResult_past_last_lane : Ready (pastLastLane St.lost) ∧ (pastLastLane St.lost).dev.keyed .pcie = true ∧
    (((pastLastLane St.lost).dev.keyUsed).put (CTX_RELOC_TARGET 16) 143).relocResult 16 143 false = 1 := by decide

/-- Refutes O13: context 16 is BOUND with the lane number 144, which no lane has, and a loss leaves it FREE. -/
theorem not_lostContextIsCleared : ¬ Obligations.LostContextIsCleared := by
  unfold Obligations.LostContextIsCleared
  intro h
  obtain ⟨hlost, -⟩ := h (pastLastLane St.bound).dev 1 16 (by decide) (by decide) (by decide)
  exact absurd (lose_past_last_lane.symm.trans hlost) (by decide)

end

/-- Refutes O14: context 16 is LOST with the lane number 144, which no lane has, and a relocation to lane 143, which
answers ACCEPTED, leaves it FREE. -/
theorem not_admissionCommandsComplete : ¬ Obligations.AdmissionCommandsComplete := by
  unfold Obligations.AdmissionCommandsComplete
  intro h
  obtain ⟨hready, hkey, hres⟩ := relocResult_past_last_lane
  obtain ⟨-, -, -, -, -, -, -, -, -, -, -, -, -, -, -, hreloc, -⟩ := h.1 (pastLastLane St.lost) hready
  obtain ⟨t, ht, -, hlost, -⟩ := hreloc .pcie 16 143 false hkey hres
  obtain ⟨u, hu, hfree⟩ := relocate_past_last_lane
  obtain rfl : t = u := Host.Outcome.next.inj (ht.symm.trans hu)
  exact absurd (hfree.symm.trans hlost) (by decide)

end Sys2Proof.Machine
end

section
/-! PROOF. The sluice port and its reams (R220, R221, R226 to R231, R237, R238, R241, R245): what a lane in and out of sync,
a received frame, a cut-off, an entry into SAFEHOLD and a free transmitter do, the checks on a ream, and the statement
about the six commands. -/

namespace Sys2Proof.Machine

open Reg

namespace Dev

/-! ### The link state of a sluice lane (R220, R221) -/

theorem setSluState_of_ne {k st : Nat} {d : Dev} (h : d.get (SLU_LINK_STATE k) ≠ st) :
    setSluState k st d = (d.put (SLU_LINK_STATE k) st).event 185 :=
  if_neg h

/-- A lane is UP while its STATE is 2. -/
theorem sluUp_iff {d : Dev} {k : Nat} : d.sluUp k = true ↔ d.get (SLU_LINK_STATE k) = 2 := by
  simp [sluUp]

/-! ### The cause of a discard (R229, R240) -/

@[simp] theorem source_onSource_same (d : Dev) (k : Nat) (f : Source → Source) :
    (d.onSource k f).source k = f (d.source k) :=
  Table.get_put_same _ _ _ _

theorem noteCause_lcause (k : Nat) {cause : Nat} (h : cause < 16) (d : Dev) :
    (noteCause k cause d).get (SLU_LINK_LCAUSE k) = cause :=
  (get_put_same d (SLU_LINK_LCAUSE k) cause).trans (Nat.mod_eq_of_lt h)

theorem noteCause_source (k cause : Nat) (d : Dev) :
    ((noteCause k cause d).source (d.laneSource k)).cause = cause := by
  rw [noteCause, source_onSource_same]

/-! ### The checks on a ream (R229) -/

/-- The MAP check goes by the registers of the ream map and by the version that a ream has committed. -/
theorem reamMap_congr {d e : Dev} (hs : e.survey = d.survey)
    (hg : ∀ f : Fld, 0x88024 ≤ f.off → f.lsb < 32 → e.get f = d.get f) (r : ReamFrame) : e.reamMap r = d.reamMap r := by
  have hcur : e.get CTX_MAPVER_CUR = d.get CTX_MAPVER_CUR := hg _ (by decide) (by decide)
  have hpvalid : e.get CTX_MAPVER_PVALID = d.get CTX_MAPVER_PVALID := hg _ (by decide) (by decide)
  have hpend : e.get CTX_MAPVER_PEND = d.get CTX_MAPVER_PEND := hg _ (by decide) (by decide)
  have hmember (c : Nat) : e.get (CTX_MEMBER c) = d.get (CTX_MEMBER c) :=
    hg _ (by simp only [CTX_MEMBER]; omega) (by simp only [CTX_MEMBER]; omega)
  have hmemberPend (c : Nat) : e.get (CTX_MEMBER_PEND c) = d.get (CTX_MEMBER_PEND c) :=
    hg _ (by simp only [CTX_MEMBER_PEND]; omega) (by simp only [CTX_MEMBER_PEND]; omega)
  have hmembers (pend : Bool) : e.membersOf pend = d.membersOf pend := by
    cases pend <;> simp [membersOf, flag, hmember, hmemberPend]
  simp only [reamMap, carriesPend, flag, hs, hcur, hpvalid, hpend, hmembers]

/-- The SEQ that a ream leaves on its lane is none of that. -/
theorem reamMap_put_rsq {k : Nat} (hk : k < 2) (d : Dev) (f : SluLane → SluLane) (seq : Nat) (r : ReamFrame) :
    ((d.onSluLane k f).put (SLU_RSQ_RSQ k) seq).reamMap r = d.reamMap r := by
  refine reamMap_congr ?_ (fun g hoff hlsb => get_put_ne _ seq (Fld.key_ne_of_off ?_ hlsb ?_)) r
  · rfl
  · exact Nat.zero_lt_succ _
  · simp only [SLU_RSQ_RSQ]
    omega

section

variable {d : Dev} {k seq : Nat} {pl : List Byte}

theorem takeReam_illFormed
    (h : d.reamForm (ReamFrame.ofBytes (d.fullDeckle (numAt pl 0 4)) pl) pl = false) (ta : Nat) (ovf : List Nat) :
    takeReam k seq ta pl ovf d = (noteCause k 2 d).inc (SLU_RERR_OTHER k) := by
  simp only [takeReam, h]
  rfl

theorem takeReam_outOfSequence
    (h : d.reamForm (ReamFrame.ofBytes (d.fullDeckle (numAt pl 0 4)) pl) pl = true) (hrx : (d.sluLane k).firstRx = false)
    (hgap : (seq + 65536 - d.get (SLU_RSQ_RSQ k)) % 65536 = 0 ∨ 32768 ≤ (seq + 65536 - d.get (SLU_RSQ_RSQ k)) % 65536)
    (ta : Nat) (ovf : List Nat) :
    takeReam k seq ta pl ovf d = (noteCause k 3 d).inc (SLU_RERR_SEQ k) := by
  have hdrop : (!(d.sluLane k).firstRx && ((seq + 65536 - d.get (SLU_RSQ_RSQ k)) % 65536 == 0 ||
      decide (32768 ≤ (seq + 65536 - d.get (SLU_RSQ_RSQ k)) % 65536))) = true := by
    simpa [hrx] using hgap
  simp only [takeReam, h, hdrop]
  rfl

/-- The first ream after sync sets RSQ and is then checked against the map. -/
theorem takeReam_firstOffMap (hk : k < 2)
    (h : d.reamForm (ReamFrame.ofBytes (d.fullDeckle (numAt pl 0 4)) pl) pl = true) (hrx : (d.sluLane k).firstRx = true)
    (hmap : d.reamMap (ReamFrame.ofBytes (d.fullDeckle (numAt pl 0 4)) pl) = false) (hsplit : d.sluSplit = false)
    (ta : Nat) (ovf : List Nat) :
    takeReam k seq ta pl ovf d = (noteCause k 4 ((d.onSluLane k fun x => { x with firstRx := false }).put
      (SLU_RSQ_RSQ k) seq)).inc (SLU_RERR_MAP k) := by
  have hshown : d.shownOn k = [k] := by simp [shownOn, hsplit]
  have hmap' := (reamMap_put_rsq hk d (fun x => { x with firstRx := false }) seq _).trans hmap
  simp only [takeReam, h, hrx, hshown, each, List.foldl_cons, List.foldl_nil, Bool.not_true, Bool.false_and,
    Bool.false_eq_true, if_false, if_true, hmap', Bool.not_false]
  rfl

end

end Dev

open Dev

/-! ### The arms of the six commands -/

theorem exec_sluiceSyncAcquire (k : Fin 2) (s : State) :
    exec (.sluiceSyncAcquire k) s = execSluiceSyncAcquire k s := rfl
theorem exec_sluiceSyncLoss (k : Fin 2) (n : Byte) (cut : Bool) (s : State) :
    exec (.sluiceSyncLoss k n cut) s = execSluiceSyncLoss k n cut s := rfl
theorem exec_reamFrame (k : Fin 2) (ta : BitVec 64) (fr : FrameEnd) (bs : List Byte) (o : List (Fin 128)) (s : State) :
    exec (.reamFrame k ta fr bs o) s = execReamFrame k ta fr bs o s := rfl
theorem exec_reamCutoff (o : List (Fin 128)) (s : State) : exec (.reamCutoff o) s = execReamCutoff o s := rfl
theorem exec_safeholdEntry (c : Fin 128) (s : State) : exec (.safeholdEntry c) s = execSafeholdEntry c s := rfl
theorem exec_sluiceTransmit (k : Fin 2) (now : BitVec 64) (s : State) :
    exec (.sluiceTransmit k now) s = execSluiceTransmit k now s := rfl

section

variable {s : State} {k : Fin 2}

/-! ### Sync (R220, R221) -/

theorem exec_sluiceSyncAcquire_waiting (hr : Ready s) (h : s.dev.get (SLU_LINK_STATE k) = 1) :
    exec (.sluiceSyncAcquire k) s = .next (s.settles (refreshSluice
      (((s.dev.onSluLane k fun x => { x with firstRx := true }).put (SLU_LINK_STATE k) 2).event 185))) := by
  have hne : (s.dev.onSluLane k fun x => { x with firstRx := true }).get (SLU_LINK_STATE k) ≠ 2 := by
    show s.dev.get (SLU_LINK_STATE k) ≠ 2
    omega
  rw [exec_sluiceSyncAcquire, execSluiceSyncAcquire]
  exact State.next_settles hr ((if_pos h).trans (congrArg refreshSluice (setSluState_of_ne hne)))

theorem exec_sluiceSyncAcquire_disabled (hr : Ready s) (h : s.dev.get (SLU_LINK_STATE k) = 0) :
    exec (.sluiceSyncAcquire k) s = .next (s.shows s.dev) := by
  rw [exec_sluiceSyncAcquire, execSluiceSyncAcquire]
  exact State.next_shows hr (if_neg (by omega)) rfl (.inl rfl)

theorem exec_sluiceSyncLoss_up (hr : Ready s) (h : s.dev.get (SLU_LINK_STATE k) = 2) (n : Byte) (cut : Bool) :
    exec (.sluiceSyncLoss k n cut) s = .next (s.settles (refreshSluice (setSluState k 1
      (if cut then noteCause k 1 ((s.dev.add (SLU_LINK_CODE k) n.toNat).inc (SLU_LINK_CRC k))
        else s.dev.add (SLU_LINK_CODE k) n.toNat)))) := by
  rw [exec_sluiceSyncLoss, execSluiceSyncLoss]
  exact State.next_settles hr (if_pos (sluUp_iff.mpr h))

/-! ### Received frames (R226, R227) -/

theorem exec_reamFrame_down (hr : Ready s) (h : s.dev.sluUp k = false) (ta : BitVec 64) (fr : FrameEnd) (bs : List Byte)
    (o : List (Fin 128)) : exec (.reamFrame k ta fr bs o) s = .next (s.shows s.dev) := by
  rw [exec_reamFrame, execReamFrame]
  exact State.next_shows hr (if_pos (by simp [h])) rfl (.inl rfl)

theorem exec_reamFrame_misframed (hr : Ready s) (h : s.dev.sluUp k = true) (ta : BitVec 64) (bs : List Byte)
    (o : List (Fin 128)) :
    exec (.reamFrame k ta .framing bs o) s = .next (s.shows (s.dev.inc (SLU_LINK_FRAMING k))) := by
  rw [exec_reamFrame, execReamFrame]
  exact State.next_shows hr (if_neg (by simp [h])) rfl (.inl rfl)

theorem exec_reamFrame_malformed (hr : Ready s) (h : s.dev.sluUp k = true) {bs : List Byte} (hp : sluParse bs = none)
    (ta : BitVec 64) (o : List (Fin 128)) :
    exec (.reamFrame k ta .whole bs o) s = .next (s.settles (noteFrame k (sluCrcOk bs)
      (noteCause k 1 (s.dev.inc (SLU_LINK_CRC k))))) := by
  rw [exec_reamFrame, execReamFrame]
  refine State.next_settles hr ((if_neg (by simp [h])).trans ?_)
  rw [hp]
  rfl

theorem exec_reamFrame_ream (hr : Ready s) (h : s.dev.sluUp k = true) {bs pl : List Byte} {seq : Nat}
    (hp : sluParse bs = some (1, seq, pl)) (ta : BitVec 64) (o : List (Fin 128)) :
    exec (.reamFrame k ta .whole bs o) s = .next (s.settles (takeReam k seq ta.toNat pl (o.map (·.val))
      (noteFrame k true s.dev))) := by
  rw [exec_reamFrame, execReamFrame]
  refine State.next_settles hr ((if_neg (by simp [h])).trans ?_)
  rw [hp]
  rfl

/-! ### Cut-offs (R231, R237, R238) -/

theorem exec_reamCutoff_due (hr : Ready s) (hrun : s.dev.running = true) (h : s.dev.tide.cut ≤ s.dev.tide.n)
    (o : List (Fin 128)) : exec (.reamCutoff o) s =
      .next (s.settles (each o (fun c d => dropSheet c.val d) (cutOff (s.dev.tide.n + 1) s.dev))) := by
  rw [exec_reamCutoff, execReamCutoff]
  exact State.next_settles hr (if_pos (Bool.and_eq_true_iff.mpr ⟨hrun, decide_eq_true (Nat.lt_succ_of_le h)⟩))

theorem exec_reamCutoff_worked (hr : Ready s) (h : s.dev.tide.n < s.dev.tide.cut) (o : List (Fin 128)) :
    exec (.reamCutoff o) s = .next (s.shows s.dev) := by
  have hworked : ¬ (s.dev.running && decide (s.dev.tide.cut < s.dev.tide.n + 1)) = true := fun hdue =>
    absurd (of_decide_eq_true (Bool.and_eq_true_iff.mp hdue).2) (by omega)
  rw [exec_reamCutoff, execReamCutoff]
  exact State.next_shows hr (if_neg hworked) rfl (.inl rfl)

theorem exec_safeholdEntry_enters (hr : Ready s) {c : Fin 128} (happ : s.dev.applies = true)
    (hst : s.dev.ctxState c = St.bound) (hsafe : (s.dev.cell c).safeHold = false)
    (hdone : s.dev.done c s.dev.nextCut = false) (hlim : s.dev.get SLU_HOLD_LIMIT ≤ (s.dev.cell c).hc)
    (hsup : s.dev.supplyFor c (s.dev.srcFor c s.dev.nextCut) s.dev.nextCut = none) (hdem : s.dev.demanded c = false) :
    exec (.safeholdEntry c) s = .next (s.settles ((enterHold c s.dev.nextCut s.dev).breach 49 0)) := by
  rw [exec_safeholdEntry, execSafeholdEntry]
  exact State.next_settles hr (if_pos (by simp [happ, hst, hsafe, hdone, hlim, hsup, hdem]))

theorem exec_safeholdEntry_below (hr : Ready s) {c : Fin 128} (h : (s.dev.cell c).hc < s.dev.get SLU_HOLD_LIMIT) :
    exec (.safeholdEntry c) s = .next (s.shows s.dev) := by
  rw [exec_safeholdEntry, execSafeholdEntry]
  exact State.next_shows hr (if_neg (by simp [Nat.not_le.mpr h])) rfl (.inl rfl)

/-! ### Transmission (R241, R245) -/

theorem exec_sluiceTransmit_sends (hr : Ready s) (now : BitVec 64) (hen : s.dev.sluEnabled k = true)
    (hload : s.dev.get GLB_MODE_MODE ≠ 0) (hraise : s.dev.get GLB_MODE_MODE ≠ 1)
    (htest : s.dev.get GLB_MODE_MODE ≠ 0xA) :
    exec (.sluiceTransmit k now) s = .next (s.settles (sluTransmit k now.toNat s.dev)) := by
  rw [exec_sluiceTransmit, execSluiceTransmit]
  exact State.next_settles hr (if_pos (by simp [hen, hload, hraise, htest]))

theorem exec_sluiceTransmit_load (hr : Ready s) (now : BitVec 64) (h : s.dev.get GLB_MODE_MODE = 0) :
    exec (.sluiceTransmit k now) s = .next (s.shows s.dev) := by
  rw [exec_sluiceTransmit, execSluiceTransmit]
  exact State.next_shows hr (if_neg (by simp [h])) rfl (.inl rfl)

end

/-- Settles O17: each clause of the commands is one lemma about its arm, each of the ream's checks one about `takeReam`. -/
theorem sluiceCommandsComplete : Obligations.SluiceCommandsComplete := by
  unfold Obligations.SluiceCommandsComplete
  refine ⟨fun s k hr => ⟨exec_sluiceSyncAcquire_waiting hr, exec_sluiceSyncAcquire_disabled hr,
    fun n h => exec_sluiceSyncLoss_up hr h n false, fun n h => exec_sluiceSyncLoss_up hr h n true,
    fun ta bs o h => exec_reamFrame_misframed hr h ta bs o, fun ta bs o h hp => exec_reamFrame_malformed hr h hp ta o,
    fun ta bs pl o seq h hp => exec_reamFrame_ream hr h hp ta o, fun ta fr bs o h => exec_reamFrame_down hr h ta fr bs o,
    fun o hrun h => exec_reamCutoff_due hr hrun h o, fun o h => exec_reamCutoff_worked hr h o, fun c h => if_neg h,
    fun c => exec_safeholdEntry_enters hr, fun c => exec_safeholdEntry_below hr,
    fun now => exec_sluiceTransmit_sends hr now, fun now => exec_sluiceTransmit_load hr now⟩, ?ream⟩
  case ream =>
    intro d k seq ta pl ovf hk
    exact ⟨fun h => takeReam_illFormed h ta ovf, fun h hrx hgap => takeReam_outOfSequence h hrx hgap ta ovf,
      fun h hrx hmap hsplit => takeReam_firstOffMap hk h hrx hmap hsplit ta ovf,
      fun cause h => ⟨noteCause_lcause k h d, noteCause_source k cause d⟩⟩

end Sys2Proof.Machine
end
